-- ==== Sys2Proof/Word.lean ====
section
/-! DEFINITION. The word types of the AMN-12 and their plainest arithmetic. -/

namespace Sys2Proof

/-- A general register of a Primel core (spec/02 R38). -/
abbrev Word := BitVec 64
/-- An accumulator of a Primel core (spec/02 R39). -/
abbrev Acc96 := BitVec 96
/-- One byte of memory. -/
abbrev Byte := BitVec 8
/-- A site-core address (spec/02 R42). -/
abbrev Addr := BitVec 32

end Sys2Proof
end

