-- ==== Sys2Proof/Syntax.lean ====
section
/-! DEFINITION. The commands of the AMN-12: one constructor per row of the table of steps, with its operands. `t` is always the
site-time stamp at which the step happens (spec/01 R25, spec/03 R99). -/

namespace Sys2Proof

/-- The two sides (spec/01 R11). -/
inductive Side | host | field
  deriving DecidableEq, Repr

/-- What a decoder reports of a block or unit (spec/01 R35); `provoked` names the injection slot that altered it (spec/18 R478): the
injector of the model says so, no operand does. -/
inductive BlockResult
  | clean
  | corrected (bytes : Nat)
  | uncorrectable
  | provoked (slot : Fin 8) (fixed : Nat)
  deriving DecidableEq, Repr

/-- The trigger blocks a SLOT_UPDATE brings (spec/05 R138): the last of the stage heads', the outlet head's, or both; and what the decoder
reported of the block of region 37 that held the slots' state. -/
structure SlotArrival where
  stages : Bool
  outlet : Bool
  res : BlockResult
  deriving DecidableEq, Repr

/-- What a SLOW_ROUND reads (spec/06 R179): each sensor input, none where absent, and the crystal drift of each channel. -/
structure SlowReadings where
  inputs : List (Option Int)
  drift : List Int
  deriving DecidableEq, Repr

/-- A coded block of an SRAM region (spec/15 R419): its row of 1,024 bytes and the block within the row. -/
structure RowBlock where
  row : Nat
  block : Fin 32
  deriving DecidableEq, Repr

/-- A byte string: its length and its bytes, little-endian (spec/00 R5). -/
structure Payload where
  len : Nat
  data : Nat
  deriving DecidableEq, Repr

/-- A Causeway message (spec/01 Table 1-1). -/
structure CwMsg where
  ctype : BitVec 8
  lseq : BitVec 8
  retrans : Bool
  cls : Fin 3
  plen : BitVec 9
  desc : BitVec 96
  payload : Payload
  deriving DecidableEq, Repr

/-- The two sources of timing marks (spec/01 R29). -/
inductive MarkSource | hsync | rtc
  deriving DecidableEq, Repr

/-- The operations a KEY_REQ can name (spec/14 Table 14-10). -/
inductive KeyOp
  | gcmEncrypt | cmac | gcmDecrypt | ecdh | eapPsk | hkdf | ecdsaP256 | ecdsaP521 | ed448 | rsaPss
  deriving DecidableEq, Repr

/-- The LIM prefixes of an immediate-form instruction (spec/02 R49). -/
inductive Lim
  | none
  | one (hi : BitVec 26)
  | two (top hi : BitVec 26)
  deriving DecidableEq, Repr

/-- A host request (spec/14 Table 14-2): stamp in FX, port, sequence number, index, payload. -/
structure Req where
  t : Nat
  port : Fin 6
  seq : BitVec 16
  index : BitVec 16
  payload : Payload
  deriving DecidableEq, Repr

/-- Section entry of an image (spec/02 Table 2-15). -/
structure Sect where
  typ : BitVec 8
  dest : BitVec 32
  length : BitVec 32
  fileOff : BitVec 32
  deriving DecidableEq, Repr

/-- Export entry of an image (spec/02 Table 2-15). -/
structure Export where
  gate : BitVec 8
  pri : BitVec 4
  effecting : Bool
  maxWait : BitVec 16
  handler : BitVec 32
  deriving DecidableEq, Repr

/-- Import entry of an image (spec/02 Table 2-15). -/
structure Import where
  gate : BitVec 8
  kind : BitVec 8
  deriving DecidableEq, Repr

/-- Channel entry of an image (spec/02 Table 2-15). -/
structure ChanDecl where
  ch : BitVec 8
  peer : BitVec 8
  send : Bool
  recv : Bool
  depth : BitVec 8
  maxLen : BitVec 16
  deriving DecidableEq, Repr

/-- Grant entry of an image (spec/02 Table 2-15). -/
structure Grant where
  base : BitVec 32
  pages : BitVec 16
  load : Bool
  store : Bool
  deriving DecidableEq, Repr

/-- An image module (spec/02 R74): header, tables, and the byte string it was read from. -/
structure Image where
  magic : BitVec 32
  fmtVer : BitVec 16
  kind : BitVec 8
  debug : Bool
  coreMask : BitVec 16
  hdrLen : BitVec 16
  imgVer : BitVec 32
  entry : BitVec 32
  vbase : BitVec 32
  signerId : BitVec 64
  sects : List Sect
  exports : List Export
  imports : List Import
  chans : List ChanDecl
  grants : List Grant
  raw : Payload
  digest : BitVec 512
  signature : Nat
  deriving DecidableEq, Repr

/-- Stage head's upstream sample block (spec/12 Table 12-8). -/
structure StageBlk where
  tempInv : Bool
  pending : Bool
  gatesOff : Bool
  midpoint : Bool
  invalid : BitVec 12
  hsTemp : BitVec 16
  vIn : BitVec 16
  epochLo : BitVec 16
  iPh : List (BitVec 16)
  deriving DecidableEq, Repr

/-- Second block of a battery stage head (spec/12 Table 12-8). -/
structure BattBlk where
  invalid : BitVec 4
  vbInvalid : Bool
  pending : Bool
  vB : BitVec 32
  iStr : List (BitVec 32)
  deriving DecidableEq, Repr

/-- Outlet head's upstream sample block (spec/12 Table 12-8). -/
structure OutletBlk where
  pilot : BitVec 3
  pending : Bool
  invalid : BitVec 10
  present : Bool
  vCtl : BitVec 16
  k : BitVec 16
  tShunt : BitVec 16
  vConn : BitVec 24
  vConv : BitVec 24
  i : BitVec 24
  tIn : BitVec 16
  tOut : BitVec 16
  tDcp : BitVec 16
  tDcn : BitVec 16
  flow : BitVec 16
  insulation : BitVec 8
  linkUp : Bool
  epochLo : BitVec 16
  deriving DecidableEq, Repr

/-- Incomer head's upstream sample block (spec/12 Table 12-8). -/
structure IncomerBlk where
  present : Bool
  invalid : BitVec 7
  pending : Bool
  k : BitVec 16
  raw : List (BitVec 24)
  deriving DecidableEq, Repr

/-- What a frame brought from one head position in one upstream slot (spec/12 R331). -/
inductive UpBlock
  | stage (b : StageBlk)
  | battery (b : BattBlk)
  | outlet (b : OutletBlk)
  | incomer (b : IncomerBlk)
  | mesh (pending : Bool)
  | bad (r : BlockResult)
  | absent
  deriving DecidableEq, Repr

/-- The metrology events that end (spec/07 Table 7-3). -/
inductive MetEvent
  | reverseOutlet (o : Fin 12)
  | reverseIncomer
  | phaseSequence
  | missingNeutral
  | phaseLoss
  deriving DecidableEq, Repr

/-- The three objects a calibration write names (spec/07 R209). -/
inductive CalTarget | cal | outletCfg | site
  deriving DecidableEq, Repr

/-- A certificate of a contract chain as P3 judges it (spec/09 R247). -/
structure Cert where
  subject : BitVec 64
  issuer : BitVec 64
  notBefore : Nat
  notAfter : Nat
  alg : BitVec 8
  digSig : Bool
  sigOk : Bool
  deriving DecidableEq, Repr

/-- Charge parameters of a vehicle (spec/09 R250). -/
structure VehParams where
  iMax : BitVec 32
  vMax : BitVec 32
  pMax : BitVec 32
  iDis : BitVec 32
  bpt : Bool
  service : BitVec 3
  scheduled : Bool
  departure : Nat
  energy : BitVec 32
  soc : BitVec 8
  evccid : BitVec 48
  deriving DecidableEq, Repr

/-- One charge-loop request (spec/09 R256). -/
structure LoopReq where
  vTarget : BitVec 32
  iTarget : BitVec 32
  iDisTarget : BitVec 32
  soc : BitVec 8
  stop : Bool
  deriving DecidableEq, Repr

/-- The two safety channels (spec/10 R260). -/
inductive Chan | sa | sb
  deriving DecidableEq, Repr

/-- The levels of the safe input lands and of the feedback lands of the two groups a channel samples, true for high (spec/10 R261, R267,
R270). -/
structure SafeLands where
  estopA : Bool
  estopB : Bool
  guardA : Bool
  guardB : Bool
  sreset : Bool
  hfb : List Bool
  lfb : List Bool
  deriving DecidableEq, Repr

/-- The two paths of a safe-data item (spec/10 R277). -/
inductive Net | avenue | can
  deriving DecidableEq, Repr

/-- A hop record (spec/12 Table 12-9). -/
structure HopRec where
  role : BitVec 8
  genMax : BitVec 8
  typ : BitVec 8
  position : BitVec 8
  id : BitVec 64
  deriving DecidableEq, Repr

/-- A head record (spec/12 Table 12-9). -/
structure HeadRec where
  recVer : BitVec 16
  typ : BitVec 8
  genMax : BitVec 8
  headId : BitVec 64
  fwVer : BitVec 32
  tSamp : BitVec 16
  tPwm : BitVec 16
  upBlocks : BitVec 8
  phases : BitVec 8
  mode : BitVec 8
  digest : Nat
  deriving DecidableEq, Repr

/-- A frame as it comes back to the device (spec/12 R329). -/
structure FrameBack where
  lost : Bool
  header : BlockResult
  number : BitVec 32
  badBlocks : List (Fin 8)
  late : Fin 8
  lateCount : BitVec 16
  deriving DecidableEq, Repr

/-- A host-lane frame (spec/12 R345, R346), with its source address on a 1000BASE-X lane. -/
structure HostFrame where
  block : BlockResult
  etherType : Option (BitVec 16)
  macOk : Bool
  src : BitVec 48
  whole : Bool
  msg : Payload
  deriving DecidableEq, Repr

/-- A node's heartbeat (spec/13 R350): entry, digest as the medium carries it, uptime, status. -/
structure Heartbeat where
  medium : Fin 4
  chan : Fin 8
  addr : BitVec 10
  digest : Nat
  uptime : BitVec 32
  status : BitVec 32
  deriving DecidableEq, Repr

/-- A received CAN frame (spec/13 R358). -/
structure CanFrame where
  ide : Bool
  fdf : Bool
  brs : Bool
  id : BitVec 29
  dlc : BitVec 8
  data : Payload
  ok : Bool
  deriving DecidableEq, Repr

/-- A frame the mesh head passes up (spec/13 R370). -/
structure MeshRx where
  node : BitVec 10
  fecOk : Bool
  fcsOk : Bool
  authOk : Bool
  lqi : BitVec 8
  phase : BitVec 2
  typ : BitVec 8
  body : Payload
  deriving DecidableEq, Repr

/-- What a scrub of the flash found of one page (spec/15 R412). -/
structure ScrubFinding where
  area : Fin 6
  seq : Nat
  corrected : Nat
  uncorrectable : Bool
  ageDays : Nat
  secondTime : Bool
  progFail : Bool
  deriving DecidableEq, Repr

/-- What journal recovery finds at a start (spec/15 R418): the validity of each copy of the two-copy areas, and the row maps. -/
structure RecoveryIn where
  validA : Bool
  validB : Bool
  bundleValid : Bool
  durationUs : Nat
  deriving DecidableEq, Repr

/-- What a watchdog kick comes from (spec/16 R442). -/
inductive WdSource | hostPort | fc | fm | fx | fn | fj
  deriving DecidableEq, Repr

/-- The commands: one constructor per row of the table of steps. -/
inductive Instr
  -- 01 Causeway, site time, key messages
  | causewayMessageReceived (t : Nat) (side : Side) (link : Fin 2) (msg : CwMsg) (block : BlockResult)
  | lack (t : Nat) (side : Side) (upto : BitVec 8)
  | lnak (t : Nat) (side : Side) (named : BitVec 8)
  | lackTimeout (t : Nat) (side : Side)
  | linkSwitchover (t : Nat)
  | bitLockLoss (t : Nat) (link : Fin 2)
  | linkBDown (t : Nat)
  | linkBRetrain (t : Nat) (locked : Bool)
  | status (t : Nat) (side : Side) (straps : BitVec 2)
  | statusSend (t : Nat) (side : Side)
  | hostAbsent (t : Nat)
  | time (t : Nat) (utc : Nat) (rtcLost rtcMark vbatLow : Bool)
  | mark (t : Nat) (source : MarkSource) (delayCycles : Nat)
  | hsyncEdge (t : Nat) (waitCycles : Nat)
  | rtcSecondMark (t : Nat) (waitCycles : Nat)
  | siteTimeHoldover (t : Nat)
  | fieldClockFallback (t : Nat)
  | resetWarm (t : Nat) (port : BitVec 8) (role : BitVec 8)
  | resetCold (t : Nat) (port : BitVec 8) (role : BitVec 8)
  | rstN (t : Nat) (lowNs : Nat)
  | pfail (t : Nat) (side : Side)
  | bulk (t : Nat) (side : Side) (transfer chunk : Nat) (last : Bool) (data : Payload)
  | keyReq (t : Nat) (ref : BitVec 16) (op : KeyOp) (core : Fin 6) (tag : Nat) (data : Payload)
  | keyRsp (t : Nat) (tag : Nat) (status : BitVec 16) (result : Payload)
  | eccCounterCheckpoint (t : Nat)
  -- 02 Primel: integer ALU (c: the core that retires the instruction)
  | add (c : Fin 6) (rd ra rb : Fin 32)
  | sub (c : Fin 6) (rd ra rb : Fin 32)
  | addw (c : Fin 6) (rd ra rb : Fin 32)
  | subw (c : Fin 6) (rd ra rb : Fin 32)
  | and (c : Fin 6) (rd ra rb : Fin 32)
  | or (c : Fin 6) (rd ra rb : Fin 32)
  | xor (c : Fin 6) (rd ra rb : Fin 32)
  | andn (c : Fin 6) (rd ra rb : Fin 32)
  | orn (c : Fin 6) (rd ra rb : Fin 32)
  | xnor (c : Fin 6) (rd ra rb : Fin 32)
  | sll (c : Fin 6) (rd ra rb : Fin 32)
  | srl (c : Fin 6) (rd ra rb : Fin 32)
  | sra (c : Fin 6) (rd ra rb : Fin 32)
  | ror (c : Fin 6) (rd ra rb : Fin 32)
  | slt (c : Fin 6) (rd ra rb : Fin 32)
  | sltu (c : Fin 6) (rd ra rb : Fin 32)
  | min (c : Fin 6) (rd ra rb : Fin 32)
  | max (c : Fin 6) (rd ra rb : Fin 32)
  | minu (c : Fin 6) (rd ra rb : Fin 32)
  | maxu (c : Fin 6) (rd ra rb : Fin 32)
  | clz (c : Fin 6) (rd ra : Fin 32)
  | ctz (c : Fin 6) (rd ra : Fin 32)
  | popc (c : Fin 6) (rd ra : Fin 32)
  | sextb (c : Fin 6) (rd ra : Fin 32)
  | sexth (c : Fin 6) (rd ra : Fin 32)
  | sextw (c : Fin 6) (rd ra : Fin 32)
  | zextw (c : Fin 6) (rd ra : Fin 32)
  | addi (c : Fin 6) (rd ra : Fin 32) (imm : BitVec 16) (lim : Lim)
  | slti (c : Fin 6) (rd ra : Fin 32) (imm : BitVec 16) (lim : Lim)
  | sltiu (c : Fin 6) (rd ra : Fin 32) (imm : BitVec 16) (lim : Lim)
  | andi (c : Fin 6) (rd ra : Fin 32) (imm : BitVec 16) (lim : Lim)
  | ori (c : Fin 6) (rd ra : Fin 32) (imm : BitVec 16) (lim : Lim)
  | xori (c : Fin 6) (rd ra : Fin 32) (imm : BitVec 16) (lim : Lim)
  | slli (c : Fin 6) (rd ra : Fin 32) (sh : BitVec 6)
  | srli (c : Fin 6) (rd ra : Fin 32) (sh : BitVec 6)
  | srai (c : Fin 6) (rd ra : Fin 32) (sh : BitVec 6)
  | mul (c : Fin 6) (rd ra rb : Fin 32)
  | mulhi (c : Fin 6) (rd ra rb : Fin 32)
  | mulhiu (c : Fin 6) (rd ra rb : Fin 32)
  | muls32 (c : Fin 6) (rd ra rb : Fin 32)
  | mulu32 (c : Fin 6) (rd ra rb : Fin 32)
  | dvs (c : Fin 6) (rd ra rb : Fin 32)
  | dvu (c : Fin 6) (rd ra rb : Fin 32)
  | mds (c : Fin 6) (rd ra rb : Fin 32)
  | mdu (c : Fin 6) (rd ra rb : Fin 32)
  -- fixed point
  | aclr (c : Fin 6) (a : Fin 4)
  | amul (c : Fin 6) (a : Fin 4) (ra rb : Fin 32)
  | amac (c : Fin 6) (a : Fin 4) (ra rb : Fin 32)
  | amsu (c : Fin 6) (a : Fin 4) (ra rb : Fin 32)
  | amul2 (c : Fin 6) (a : Fin 4) (ra rb : Fin 32)
  | amac2 (c : Fin 6) (a : Fin 4) (ra rb : Fin 32)
  | ashl (c : Fin 6) (a : Fin 4) (s : BitVec 6)
  | ashr (c : Fin 6) (a : Fin 4) (s : BitVec 6)
  | aext (c : Fin 6) (rd : Fin 32) (a : Fin 4) (s : BitVec 6) (m : Fin 4)
  | aextd (c : Fin 6) (rd : Fin 32) (a : Fin 4) (s : BitVec 6) (m : Fin 4)
  | agetl (c : Fin 6) (rd : Fin 32) (a : Fin 4)
  | ageth (c : Fin 6) (rd : Fin 32) (a : Fin 4)
  | aput (c : Fin 6) (a : Fin 4) (ra rb : Fin 32)
  | qadd (c : Fin 6) (rd ra rb : Fin 32)
  | qsub (c : Fin 6) (rd ra rb : Fin 32)
  | qmul (c : Fin 6) (rd ra rb : Fin 32)
  | qneg (c : Fin 6) (rd ra : Fin 32)
  | qabs (c : Fin 6) (rd ra : Fin 32)
  -- compare and branch (mp: the pipeline had mispredicted this branch, R82)
  | beq (c : Fin 6) (ra rb : Fin 32) (off : BitVec 16) (mp : Bool)
  | bne (c : Fin 6) (ra rb : Fin 32) (off : BitVec 16) (mp : Bool)
  | blt (c : Fin 6) (ra rb : Fin 32) (off : BitVec 16) (mp : Bool)
  | bge (c : Fin 6) (ra rb : Fin 32) (off : BitVec 16) (mp : Bool)
  | bltu (c : Fin 6) (ra rb : Fin 32) (off : BitVec 16) (mp : Bool)
  | bgeu (c : Fin 6) (ra rb : Fin 32) (off : BitVec 16) (mp : Bool)
  | bbs (c : Fin 6) (ra : Fin 32) (b : Fin 32) (off : BitVec 16) (mp : Bool)
  | bbc (c : Fin 6) (ra : Fin 32) (b : Fin 32) (off : BitVec 16) (mp : Bool)
  | j (c : Fin 6) (off : BitVec 26)
  | jal (c : Fin 6) (off : BitVec 26)
  | jalr (c : Fin 6) (rd ra : Fin 32) (imm : BitVec 16) (lim : Lim)
  -- load/store (ecc: what the decoder of the addressed region reported, R27, R35)
  | lb (c : Fin 6) (rd ra : Fin 32) (imm : BitVec 16) (lim : Lim) (ecc : BlockResult)
  | lbu (c : Fin 6) (rd ra : Fin 32) (imm : BitVec 16) (lim : Lim) (ecc : BlockResult)
  | lh (c : Fin 6) (rd ra : Fin 32) (imm : BitVec 16) (lim : Lim) (ecc : BlockResult)
  | lhu (c : Fin 6) (rd ra : Fin 32) (imm : BitVec 16) (lim : Lim) (ecc : BlockResult)
  | lw (c : Fin 6) (rd ra : Fin 32) (imm : BitVec 16) (lim : Lim) (ecc : BlockResult)
  | lwu (c : Fin 6) (rd ra : Fin 32) (imm : BitVec 16) (lim : Lim) (ecc : BlockResult)
  | ld (c : Fin 6) (rd ra : Fin 32) (imm : BitVec 16) (lim : Lim) (ecc : BlockResult)
  | sb (c : Fin 6) (rd ra : Fin 32) (imm : BitVec 16) (lim : Lim) (ecc : BlockResult)
  | sh (c : Fin 6) (rd ra : Fin 32) (imm : BitVec 16) (lim : Lim) (ecc : BlockResult)
  | sw (c : Fin 6) (rd ra : Fin 32) (imm : BitVec 16) (lim : Lim) (ecc : BlockResult)
  | sd (c : Fin 6) (rd ra : Fin 32) (imm : BitVec 16) (lim : Lim) (ecc : BlockResult)
  | casd (c : Fin 6) (rd ra rb : Fin 32) (ecc : BlockResult)
  | swpd (c : Fin 6) (rd ra rb : Fin 32) (ecc : BlockResult)
  | faddd (c : Fin 6) (rd ra rb : Fin 32) (ecc : BlockResult)
  | fsatd (c : Fin 6) (rd ra rb : Fin 32) (ecc : BlockResult)
  | fandd (c : Fin 6) (rd ra rb : Fin 32) (ecc : BlockResult)
  | ford (c : Fin 6) (rd ra rb : Fin 32) (ecc : BlockResult)
  | fmaxd (c : Fin 6) (rd ra rb : Fin 32) (ecc : BlockResult)
  | fmind (c : Fin 6) (rd ra rb : Fin 32) (ecc : BlockResult)
  -- crossing, epoch, deadline and wait (t: the site time at which the instruction retires)
  | xsend (t : Nat) (c : Fin 6) (rd ra : Fin 32) (ch : BitVec 8)
  | xrecv (t : Nat) (c : Fin 6) (rd ra rb : Fin 32) (ch : BitVec 8)
  | xrecvReturn (t : Nat) (c : Fin 6)
  | xpoll (t : Nat) (c : Fin 6) (rd ra : Fin 32) (ch : BitVec 8)
  | xcall (t : Nat) (c : Fin 6) (rd ra : Fin 32) (gate : BitVec 8)
  | xcallAccept (t : Nat) (gate : BitVec 8)
  | xcallDeadline (t : Nat) (c : Fin 6)
  | xcallResult (t : Nat) (c : Fin 6)
  | xret (t : Nat) (c : Fin 6) (gate : BitVec 8)
  | eprop (t : Nat) (c : Fin 6) (rd ra rb : Fin 32)
  | eretr (t : Nat) (c : Fin 6) (rd ra : Fin 32)
  | eqry (c : Fin 6) (rd ra rb : Fin 32)
  | rdst (t : Nat) (c : Fin 6) (rd : Fin 32)
  | waitd (t : Nat) (c : Fin 6) (rd ra : Fin 32)
  | waitdReturn (t : Nat) (c : Fin 6)
  | darm (t : Nat) (c : Fin 6) (ra : Fin 32)
  | ddis (t : Nat) (c : Fin 6) (rd : Fin 32)
  | deadlineInterrupt (t : Nat) (c : Fin 6)
  | gdis (c : Fin 6) (rd : Fin 32)
  | gen (c : Fin 6)
  | reti (c : Fin 6)
  | setpri (c : Fin 6) (ra : Fin 32)
  | cwr (c : Fin 6) (rd : Fin 32) (n : BitVec 8)
  | cww (c : Fin 6) (rd ra : Fin 32) (n : BitVec 8)
  | nop (c : Fin 6)
  | trap (c : Fin 6) (code : BitVec 8)
  | fence (c : Fin 6)
  | fencee (c : Fin 6)
  | halt (t : Nat) (c : Fin 6)
  | haltWake (t : Nat) (c : Fin 6)
  | brk (c : Fin 6)
  -- 03 execution
  | effectQueueDrain (t : Nat) (c : Fin 6)
  | coreStatusReadClear (t : Nat) (c : Fin 6) (rd : Fin 32) (word : Fin 4)
  | interruptEntry (t : Nat) (c : Fin 6)
  | gateEntry (t : Nat) (c : Fin 6)
  | roundaboutEdge (t : Nat) (src : BitVec 8)
  | levelSourceChange (t : Nat) (src : BitVec 8) (asserted : Bool)
  | irqConfigWrite (r : Req)
  | imageLoad (t : Nat) (core : Fin 6) (img : Image)
  | illegalInstruction (c : Fin 6) (word : BitVec 32)
  -- 04 Kerb
  | kerbStart (t : Nat)
  | epochStart (t : Nat)
  | activationInstant (t : Nat)
  | vNowRefresh (t : Nat)
  | closingPoint (t : Nat)
  | inputChangeReclamp (t : Nat)
  | allocConfigWrite (r : Req)
  | allocSiteWrite (r : Req)
  | availFallback (t : Nat)
  | fastPathEngage (t : Nat)
  -- 05 converter control
  | sampleBlock (t : Nat) (head : Fin 48) (blk : UpBlock)
  | slotUpdate (t : Nat) (conv : Fin 13) (blk : SlotArrival) (slotBad : Option (Fin 64))
  | phaseShed (t : Nat) (conv : Fin 13)
  | ctlSlotWrite (r : Req)
  | precheckTimeout (t : Nat) (conv : Fin 13)
  | softStartHalfCheck (t : Nat) (conv : Fin 13)
  | backoffElapsed (t : Nat) (conv : Fin 13)
  | prechargeTimeout (t : Nat) (conv : Fin 13)
  | controlledStopTimeout (t : Nat) (conv : Fin 13)
  | dischargeTimeout (t : Nat) (conv : Fin 13)
  | heatsinkTempTimeout (t : Nat) (head : Fin 48)
  | releaseHeld (r : Req)
  | releaseFailedPhase (r : Req)
  -- 06 cooling, thermal
  | cableModelStep (t : Nat) (o : Fin 12)
  | deratePublish (t : Nat) (o : Fin 12)
  | postRunEnd (t : Nat) (o : Fin 12)
  | chillHold (t : Nat) (o : Fin 12)
  | lossOfFlow (t : Nat) (o : Fin 12)
  | modelDisagrees (t : Nat) (o : Fin 12)
  | coolantSensorLost (t : Nat) (o : Fin 12)
  | contactSensorLost (t : Nat) (o : Fin 12)
  | outletHeadLost (t : Nat) (o : Fin 12)
  | fallbackEnd (t : Nat) (o : Fin 12)
  | coolOutletWrite (r : Req)
  | slowRound (t : Nat) (readings : SlowReadings) (vfld vhost vbat : Nat)
  | fastRound (t : Nat) (readings : List (Option Int))
  | sensorVoteOut (t : Nat) (sensor : Fin 46)
  | orderlyStopEnd (t : Nat)
  | sensorRestore (r : Req)
  -- 07 metrology
  | sampleIndex (t : Nat)
  | gapBegin (t : Nat) (q : Fin 16)
  | gapEnd (t : Nat) (q : Fin 16)
  | gapStopRequest (t : Nat) (o : Fin 12)
  | shuntTempStale (t : Nat) (o : Fin 12)
  | lineCycleEnd (t : Nat)
  | syntheticBoundary (t : Nat)
  | outletTick (t : Nat)
  | compatLatch (t : Nat) (incomer : Bool)
  | reversePowerOutlet (t : Nat) (o : Fin 12)
  | reversePowerIncomer (t : Nat)
  | wrongPhaseSequence (t : Nat)
  | missingNeutral (t : Nat)
  | phaseLoss (t : Nat)
  | feederTrip (t : Nat)
  | feederTripClear (t : Nat)
  | metrologyEventEnd (t : Nat) (ev : MetEvent)
  | pfailfNFall (t : Nat)
  | residualRecord (t : Nat)
  | pfailfNRise (t : Nat)
  | powerFailHold (t : Nat)
  | internalPowerFailWarning (t : Nat)
  | sealBreak (r : Req)
  | reseal (r : Req)
  | sealTimeout (t : Nat)
  | calibrationWrite (r : Req) (target : CalTarget)
  | calibrationApply (t : Nat) (ch : Fin 43)
  | mpulse (t : Nat)
  | meterPulseWrite (r : Req)
  -- 08 time and billing
  | timeSet (r : Req)
  | timeOffsetWrite (r : Req)
  | timeConfigWrite (r : Req)
  | rtcTrim (t : Nat)
  | activate (r : Req)
  | closePeriod (r : Req)
  | resend (r : Req)
  | receiptSend (t : Nat) (c : Fin 6)
  | legalExchangeUpdate (t : Nat)
  | gateRate (t : Nat)
  | gateLegalSession (t : Nat)
  | gateDemand (t : Nat)
  | tamperCheck (t : Nat) (loop : Fin 2) (cls : Fin 4) (fromVbat : Bool)
  | tamperLoopOpen (t : Nat) (loop : Fin 2)
  -- 09 vehicle link
  | pilotClass (t : Nat) (o : Fin 12)
  | cmSlacParm (t : Nat) (o : Fin 12) (runId : Nat)
  | cmStartAttenChar (t : Nat) (o : Fin 12) (sounds : Nat)
  | cmMnbcSound (t : Nat) (o : Fin 12) (atten : Nat)
  | cmAttenChar (t : Nat) (o : Fin 12)
  | cmSlacMatch (t : Nat) (o : Fin 12)
  | cmSetKey (t : Nat) (o : Fin 12) (ok : Bool)
  | linkEstablished (t : Nat) (o : Fin 12)
  | sdp (t : Nat) (o : Fin 12) (wantTls : Bool) (v2 : Bool)
  | tcpConnect (t : Nat) (o : Fin 12) (port : Nat)
  | tlsHandshake (t : Nat) (o : Fin 12) (ok : Bool)
  | tcpLost (t : Nat) (o : Fin 12)
  | supportedAppProtocol (t : Nat) (o : Fin 12) (offered : BitVec 3)
  | authorizationReq (t : Nat) (o : Fin 12) (pnc : Bool) (chain : List Cert) (contractId : Nat)
  | parameterExchange (t : Nat) (o : Fin 12) (p : VehParams)
  | cableCheckReq (t : Nat) (o : Fin 12) (vTest : Nat)
  | preChargeReq (t : Nat) (o : Fin 12) (vPc : Nat)
  | powerDeliveryReq (t : Nat) (o : Fin 12) (start : Bool)
  | chargeLoopReq (t : Nat) (o : Fin 12) (p : LoopReq)
  | weldingDetectionReq (t : Nat) (o : Fin 12)
  | sessionStopReq (t : Nat) (o : Fin 12)
  | certificateInstallationReq (t : Nat) (o : Fin 12)
  | pauseReq (t : Nat) (o : Fin 12)
  | tSlac (t : Nat) (o : Fin 12)
  | pilotRetryEnd (t : Nat) (o : Fin 12)
  | tSetup (t : Nat) (o : Fin 12)
  | tSeq (t : Nat) (o : Fin 12)
  | tAuth (t : Nat) (o : Fin 12)
  | tCc (t : Nat) (o : Fin 12)
  | tWeld (t : Nat) (o : Fin 12)
  | authorize (r : Req)
  | deny (r : Req)
  | stop (r : Req)
  | releaseWelded (r : Req)
  | gateSession (t : Nat)
  | gateAuthorize (t : Nat)
  | gateStop (t : Nat)
  | hold (t : Nat) (c : Fin 6)
  | energise (t : Nat) (c : Fin 6)
  | precharge (t : Nat) (c : Fin 6)
  | contactorsClosed (t : Nat) (c : Fin 6)
  | controlledStop (t : Nat) (c : Fin 6)
  | immediateStop (t : Nat) (c : Fin 6)
  | openContactors (t : Nat) (c : Fin 6)
  | unlock (t : Nat) (c : Fin 6)
  | heartbeatLapse (t : Nat) (o : Fin 12)
  -- 10 safety
  | safetyCycle (t : Nat) (ch : Chan) (lands : SafeLands) (sramBad paramBad : Bool)
  | partnerRecordTimeout (t : Nat) (ch : Chan)
  | discrepancy (t : Nat) (guard : Bool)
  | sresetStuck (t : Nat)
  | soSwitchOnCheck (t : Nat) (g : Fin 2) (hfb lfb : Bool)
  | darkTest (t : Nat) (g : Fin 2) (high : Bool) (hfb lfb : Bool)
  | safeDataItem (t : Nat) (net : Net) (item : BitVec 64)
  | safeDataAbsence (t : Nat) (o : Fin 12)
  | safeDataWatchdog (t : Nat) (stream : Nat)
  | safeDataSend (t : Nat) (ch : Chan)
  | contactorClosingWithdrawn (t : Nat) (o : Fin 12)
  | weldVerdict (t : Nat) (o : Fin 12)
  | contactorDiscrepancy (t : Nat) (o : Fin 12)
  | sf6DischargeTimeout (t : Nat) (o : Fin 12)
  | commit (r : Req)
  | safetyStop (r : Req)
  | safetyRelease (r : Req)
  | clearGroup (r : Req)
  | clearChan (r : Req)
  -- 11 battery
  | st (t : Nat) (s : Fin 8) (counter : BitVec 8) (closed fault : Bool) (chgA disA : BitVec 16)
  | mv (t : Nat) (s : Fin 8) (g : Fin 8) (v : List (BitVec 16))
  | mt (t : Nat) (s : Fin 8) (g : Fin 4) (temps : List (BitVec 8))
  | sn (t : Nat) (s : Fin 8) (serial : BitVec 64)
  | estimatorStep (t : Nat)
  | currentGap (t : Nat) (s : Fin 8)
  | stringOut (t : Nat) (s : Fin 8)
  | restPoint (t : Nat) (s : Fin 8)
  | polarisationFit (t : Nat) (s : Fin 8)
  | idleCheck (t : Nat) (s : Fin 8)
  | limitPublish (t : Nat)
  | estStateWrite (r : Req)
  | battStringWrite (r : Req)
  -- 12 lanes, avenues, heads
  | terminationDetected (t : Nat) (l : Fin 16)
  | ta (t : Nat) (l : Fin 16) (gen preset : Nat)
  | tb (t : Nat) (l : Fin 16) (gen preset : Nat)
  | trainTimeout (t : Nat) (l : Fin 16)
  | lockAchieved (t : Nat) (l : Fin 16) (complemented : Bool)
  | lockTimeout (t : Nat) (l : Fin 16)
  | hopRecord (t : Nat) (l : Fin 16) (rec : HopRec)
  | parleyTimeout (t : Nat) (l : Fin 16)
  | lossOfLock (t : Nat) (l : Fin 16) (codeErrors : Nat)
  | retrainTimeout (t : Nat) (l : Fin 16)
  | genchg (t : Nat) (l : Fin 16) (gen : Nat)
  | genchgTimeout (t : Nat) (l : Fin 16)
  | avenueFormation (t : Nat) (a : Fin 6)
  | discover (t : Nat) (a : Fin 6) (count : Nat)
  | echo (t : Nat) (a : Fin 6) (pos : Fin 8) (ccw : Bool) (roundTripNs : Nat)
  | headRecord (t : Nat) (a : Fin 6) (pos : Fin 8) (rec : HeadRec)
  | frame (t : Nat) (l : Fin 12)
  | frameReturn (t : Nat) (l : Fin 12) (f : FrameBack)
  | hopBroken (t : Nat) (a : Fin 6) (hop : Fin 9)
  | split (t : Nat) (a : Fin 6) (hop : Fin 9)
  | heal (t : Nat) (a : Fin 6) (hop : Fin 9)
  | avenueDegraded (t : Nat) (a : Fin 6)
  | mailboxMessage (t : Nat) (head : Fin 48) (typ : BitVec 8) (body : Payload) (whole : Bool)
  | mailboxDoorbell (t : Nat) (c : Fin 6)
  | hostLaneFrame (t : Nat) (n : Fin 4) (f : HostFrame)
  | laneRetrain (r : Req)
  | reformAvenue (r : Req)
  | avenueConfigWrite (r : Req)
  -- 13 site networks
  | nodeEntryWrite (r : Req)
  | nodeBlobWrite (r : Req)
  | nodeHeartbeat (t : Nat) (h : Heartbeat)
  | nodeTimeout (t : Nat) (n : Fin 1024)
  | reconcileTimeout (t : Nat) (n : Fin 1024)
  | reconcile (r : Req)
  | digestRequest (r : Req)
  | canFrame (t : Nat) (ch : Fin 4) (f : CanFrame)
  | canConfigReply (t : Nat) (ch : Fin 4) (addr : Fin 64) (code st : BitVec 8) (seg : BitVec 16)
  | canBufferLock (t : Nat) (c : Fin 6) (rd : Fin 32) (ch : Fin 4) (b : Fin 33)
  | canBufferRelease (t : Nat) (c : Fin 6) (rd : Fin 32) (ch : Fin 4) (b : Fin 33)
  | canLockTimeout (t : Nat) (ch : Fin 4) (b : Fin 33)
  | canDoorbell (t : Nat) (c : Fin 6)
  | canTransmitEnd (t : Nat) (ch : Fin 4) (acked : Bool)
  | canDeadline (t : Nat) (ch : Fin 4)
  | busOff (t : Nat) (ch : Fin 4) (tec : Nat)
  | busRecovery (t : Nat) (ch : Fin 4)
  | recover (r : Req)
  | rxInd (t : Nat) (m : MeshRx)
  | txConf (t : Nat) (result : Fin 3) (ended : Nat)
  | busy (t : Nat) (sensed : Bool)
  | toneMapRefresh (t : Nat) (nbr : Fin 960) (rx tx : Nat) (lqi : Nat)
  | refreshToneMaps (r : Req)
  | bootstrap (t : Nat) (eui : BitVec 64) (authOk : Bool)
  | gmkRenewal (t : Nat)
  | routeRepair (t : Nat) (nbr : Nat)
  | routeWaitTimeout (t : Nat)
  | meshDoorbell (t : Nat) (c : Fin 6)
  | meshRxLock (t : Nat) (c : Fin 6) (rd : Fin 32) (slot : Fin 16)
  | meshRxRelease (t : Nat) (c : Fin 6) (rd : Fin 32) (slot : Fin 16)
  | meshConfigWrite (r : Req)
  -- 14 hosts, keys, lifecycle
  | read (r : Req) (obj : BitVec 16) (counterOnly : Bool)
  | write (r : Req) (obj : BitVec 16)
  | writeif (r : Req) (obj : BitVec 16)
  | subscribe (r : Req) (obj : BitVec 16) (cancel : Bool)
  | notify (t : Nat) (port : Fin 6)
  | notifyResend (t : Nat) (port : Fin 6) (seq : BitVec 16)
  | hostAck (t : Nat) (port : Fin 6) (seq : BitVec 16) (obj : BitVec 16) (nak : Bool)
  | credit (t : Nat) (port : Fin 6) (credits : BitVec 16) (ackValid : Bool) (seq : BitVec 16)
  | linkUp (t : Nat) (port : Fin 6)
  | spiWrite (t : Nat) (bytes : List (BitVec 8))
  | spiRead (t : Nat)
  | spiStatus (t : Nat)
  | consoleFrame (t : Nat) (bytes : List (BitVec 8))
  | consoleEnable (r : Req)
  | consoleDisable (r : Req)
  | consoleTimeout (t : Nat)
  | portBindWrite (r : Req)
  | generate (r : Req)
  | importPlain (r : Req)
  | importWrapped (r : Req)
  | delete (r : Req)
  | publicPoint (r : Req)
  | pralineWrite (r : Req)
  | provision (r : Req)
  | sealDevice (r : Req)
  | approve (r : Req)
  | approvalLapse (t : Nat)
  | unsealDevice (r : Req)
  | returnDevice (r : Req)
  | scrap (r : Req)
  | croquemboucheRecompute (t : Nat)
  | attestRequest (r : Req)
  | changeStatement (t : Nat)
  -- 15 durable state
  | checkpoint (t : Nat) (badRow : Bool)
  | journalAppend (t : Nat) (c : Fin 6)
  | journalMigration (t : Nat) (readBackOk : Bool)
  | hotTierScrub (t : Nat) (corrected : List Nat)
  | coldTierScrub (t : Nat) (findings : List ScrubFinding)
  | deepCheckpoint (t : Nat)
  | quotaReset (t : Nat)
  | sramScrub (t : Nat) (region : Fin 39) (row : RowBlock) (res : BlockResult)
  | takeover (t : Nat) (core : Fin 5)
  | approveTakeover (r : Req)
  | clearFailureMark (r : Req)
  | durableRead (r : Req)
  -- 16 modes, start-up, power
  | powerGood (t : Nat) (straps : BitVec 2) (selftestFail : BitVec 14) (coreFail : BitVec 5) (rec : RecoveryIn)
  | bootComplete (t : Nat)
  | autoService (t : Nat)
  | service (r : Req)
  | standby (r : Req)
  | maintenance (r : Req)
  | leaveMaintenance (r : Req)
  | maintenanceTimeout (t : Nat)
  | leaveSafeHold (r : Req)
  | warmReset (r : Req)
  | coldReset (r : Req)
  | supplyWarning (t : Nat) (field : Bool)
  | vbatLow (t : Nat)
  | pfailhNFall (t : Nat)
  | pfailhNRise (t : Nat)
  | watchdogKick (t : Nat) (src : WdSource)
  | hostWatchdog (t : Nat)
  | fieldWatchdog (t : Nat)
  | supervisorReset (t : Nat) (side : Side) (powerOn : Bool)
  | railFault (t : Nat) (side : Side)
  | hostPllLockLost (t : Nat)
  | stageWrite (r : Req)
  | check (r : Req)
  | partitionActivate (r : Req)
  | injectStart (r : Req)
  | injectionStop (r : Req)
  | injectionExpiry (t : Nat) (j : Fin 8)
  | injectionLimit (t : Nat) (j : Fin 8)
  | reorderRelease (t : Nat) (j : Fin 8)
  | internalPowerFailWarningEnd (t : Nat)
  | supplyWarningClear (t : Nat) (field : Bool)
  | vbatLowClear (t : Nat)
  | hostResetEnd (t : Nat) (straps : BitVec 2)
  | fieldSideAbsent (t : Nat)
  deriving DecidableEq, Repr

end Sys2Proof
end

