-- ==== Sys2Proof/Machine/Tab.lean ====
section
/-! DEFINITION. Sparse tables: a list of (index, value) pairs by rising index; what an unlisted index reads as is given at the read. -/

namespace Sys2Proof.Machine

/-- A sparse table from Nat indices. -/
abbrev Tab (α : Type) := List (Nat × α)

variable {α : Type}

/-- The entry at `k`, or `d` where none is listed. -/
def Tab.get (t : Tab α) (k : Nat) (d : α) : α :=
  match t with
  | [] => d
  | (i, a) :: r => if i = k then a else Tab.get r k d

/-- The entry at `k`, where one is listed. -/
def Tab.find (t : Tab α) (k : Nat) : Option α :=
  match t with
  | [] => none
  | (i, a) :: r => if i = k then some a else Tab.find r k

/-- The table with `a` at `k`. -/
def Tab.set (t : Tab α) (k : Nat) (a : α) : Tab α :=
  match t with
  | [] => [(k, a)]
  | (i, b) :: r =>
    if k < i then (k, a) :: (i, b) :: r
    else if k = i then (k, a) :: r
    else (i, b) :: Tab.set r k a

/-- The table without `k`. -/
def Tab.del (t : Tab α) (k : Nat) : Tab α := t.filter fun p => decide (p.1 ≠ k)

/-- The entry at `k` changed by `f`. -/
def Tab.upd (t : Tab α) (k : Nat) (d : α) (f : α → α) : Tab α := Tab.set t k (f (Tab.get t k d))

/-- Every index below `m` is followed only by larger ones: the canonical form. -/
def Tab.sortedFrom (m : Nat) (t : Tab α) : Bool :=
  match t with
  | [] => true
  | (i, _) :: r => decide (m ≤ i) && Tab.sortedFrom (i + 1) r

/-- The canonical form: strictly rising indices. -/
def Tab.wf (t : Tab α) : Bool := Tab.sortedFrom 0 t

end Sys2Proof.Machine
end

