-- ==== Sys2Proof/Machine/Mem.lean ====
section
/-! DEFINITION. The byte memory: canonical list of cells; an unlisted byte reads as 0 (notes/assumptions/6.md). -/

namespace Sys2Proof.Machine

/-- The memory: cells by rising address, none of them 0. -/
abbrev Memory := List Host.Cell

/-- One byte. -/
def Memory.get (m : Memory) (a : Nat) : Byte := Tab.get m a 0

/-- One byte written: writing 0 unlists the address. -/
def Memory.set (m : Memory) (a : Nat) (b : Byte) : Memory := if b = 0 then Tab.del m a else Tab.set m a b

/-- `n` bytes from `a`, little-endian (spec/00 R5). -/
def Memory.read (m : Memory) (a : Nat) : Nat → Nat
  | 0 => 0
  | n + 1 => (Memory.get m a).toNat + 256 * Memory.read m (a + 1) n

/-- `n` bytes of `v` written from `a`, little-endian. -/
def Memory.write (m : Memory) (a : Nat) (v : Nat) : Nat → Memory
  | 0 => m
  | n + 1 => Memory.write (Memory.set m a (BitVec.ofNat 8 v)) (a + 1) (v / 256) n

/-- The canonical form: strictly rising addresses and no cell that reads as an unlisted one does. -/
def Memory.wf (m : Memory) : Bool := Tab.wf m && m.all fun c => decide (c.2 ≠ 0)

end Sys2Proof.Machine
end

