-- ==== Sys2Proof/Config.lean ====
section
/-! DEFINITION. What the spec leaves open or names without fixing its values: opaque constants, each with no body, so no
proof can see a value of one (notes/assumptions/8.md). -/

namespace Sys2Proof.Config

/-- A value the spec does not state, for the counter `State.free` (notes/assumptions/4.md). -/
opaque freeValue : Nat → Nat
/-- SHA-512 of a byte string of a length, little-endian data (FIPS 180-4; named, not given, by spec/14 R398). -/
opaque sha512 : Nat → Nat → Nat
/-- RSASSA-PSS signature under a key: key identity, then the digest (spec/14 R395). -/
opaque pssSign : Nat → Nat → Nat → Nat
/-- RSASSA-PSS verification: key identity, digest, signature (spec/02 R75). -/
opaque pssVerify : Nat → Nat → Nat → Bool
/-- A key generated by HK: counter, algorithm (spec/14 R392 generate). -/
opaque newKey : Nat → Nat → Nat
/-- The public key of a private key: algorithm, key (spec/14 R392). -/
opaque publicOf : Nat → Nat → Nat
/-- RFC 5649 wrap of a key under a key-encryption key: header, length, key (spec/14 R390). -/
opaque wrapKey : Nat → Nat → Nat → Nat
/-- RFC 5649 unwrap: header, length, wrapped octets; none where the integrity check fails (spec/14 R390, R391). -/
opaque unwrapKey : Nat → Nat → Nat → Option Nat
/-- What HK's operation answers: operation, key, data (spec/14 Table 14-10). -/
opaque keyOp : Nat → Nat → Nat → Nat
/-- X.509 certificate bytes of a chunk: serial, count, time, chunk (spec/14 R396). -/
opaque certChunk : Nat → Nat → Nat → Nat → Nat
/-- Bytes of an object whose layout the spec does not give: object, index, a counter (notes/assumptions/9.md). -/
opaque unstatedLayout : Nat → Nat → Nat → Nat
/-- Real-valued functions a rule names without an algorithm: which one, argument (notes/assumptions/8.md). -/
opaque realFn : Nat → Int → Int
/-- The fixed crossing delay calibrated at manufacture, ns (spec/01 R29). -/
opaque crossingDelay : Nat
/-- First 8 bytes of SHA-512 of the Welmuond image key (spec/02 Table 2-14 signer_id). -/
opaque welmuondId : Nat
/-- The device serial and the silicon data of dev.ident (spec/16 Table 16-9). -/
opaque deviceSerial : Nat
opaque romVer : Nat
opaque silicon : Nat
/-- Whether a kind-4 image (by digest) admits the values of a safety set, given as bytes (spec/10 R288; its section layout is not given,
notes/assumptions/9.md). -/
opaque rangesAdmit : Nat → Nat → Bool
/-- What a vendor image sets of one of its Roundabout sources: digest, source; bits 3:0 pri, bit 4 target, bit 5 count_en (spec/03 R89 gives
no layout, notes/assumptions/43.md). -/
opaque vendorSource : Nat → Nat → Nat
/-- The symbol at which the framer places a slot of a head in a schedule: head, version, mode, slot (0 command, 1 and 2 sample); spec/12 R326
bounds it and gives no algorithm (notes/assumptions/23.md). -/
opaque slotPlace : Nat → Nat → Nat → Nat → Nat
/-- The PWM period of a stage head, ns (spec/12 Table 12-7 names it; no rule fixes it). -/
opaque pwmPeriod : Nat → Nat

end Sys2Proof.Config
end

