-- ==== Sys2Proof/Machine/Store.lean ====
section
/-! DEFINITION. The object store: one value per field of an index of an object (spec/00 R7, R9), unlisted fields at their reset values. -/

namespace Sys2Proof.Machine

/-- Access codes (spec/00 R7). -/
inductive Acc | ro | rw | w1c | rc | wo
  deriving DecidableEq, Repr

/-- One field of a register map: object, bit position in the index's bytes, width, access, what erases it (0 kept over resets,
1 every field-side reset, 2 every host-side reset; spec/15 Table 15-1), reset value of each index. -/
structure Fld where
  obj : Nat
  pos : Nat
  width : Nat
  acc : Acc
  cls : Nat
  reset : Nat → Nat

/-- One object's register map: ID, indices, bytes of an index, rights as sets of roles (bit r for role code r of Table 14-2), fields. -/
structure ObjDef where
  id : Nat
  count : Nat
  size : Nat
  writers : Nat
  readers : Nat
  subscribers : Nat
  fields : List Fld

/-- Spare rows of each code region (spec/15 R419; regions 14 and 16 the MRAM rows, 15 the flash segments of spec/15 Tables 15-2, 15-9). -/
def spareRows (i : Nat) : Nat :=
  if i < 12 then 4
  else if i = 12 then 32 else if i = 13 then 16
  else if i = 14 then 255 else if i = 15 then 64 else if i = 16 then 32
  else if 35 ≤ i ∧ i ≤ 38 then 2 else 0

/-- The object store. -/
abbrev Store := Tab Nat

/-- The store's key of a field of an index: object, index, position, reset class. -/
def Fld.key (f : Fld) (i : Nat) : Nat := ((f.obj * 65536 + i) * 65536 + f.pos) * 4 + f.cls

/-- The reset class a key carries. -/
def keyCls (k : Nat) : Nat := k % 4

/-- A field's value at an index. -/
def Store.get (t : Store) (f : Fld) (i : Nat) : Nat := Tab.get t (f.key i) (f.reset i)

/-- The store with a field's value at an index, taken modulo the field's width. -/
def Store.put (t : Store) (f : Fld) (i : Nat) (v : Nat) : Store := Tab.set t (f.key i) (v % 2 ^ f.width)

/-- The store after a reset of the sides whose classes `p` names. -/
def Store.clear (t : Store) (p : Nat → Bool) : Store := t.filter fun e => !p (keyCls e.1)

/-- The canonical form of the store. -/
def Store.wf (t : Store) : Bool := Tab.wf t

/-- Two's complement reading of a `w`-bit field. -/
def toSigned (w v : Nat) : Int := if v < 2 ^ (w - 1) then (v : Int) else (v : Int) - (2 ^ w : Nat)

/-- Two's complement writing of a `w`-bit field. -/
def ofSigned (w : Nat) (x : Int) : Nat := (x % ((2 ^ w : Nat) : Int)).toNat

end Sys2Proof.Machine
end

