-- ==== Sys2Proof/Machine/ObjectsA.lean ====
section
/-! DEFINITION. The register maps of the objects 0x0000 to 0x0BFF: one field constant per row of the maps of spec/04 to spec/07, spec/14 and spec/16 (R7). -/

namespace Sys2Proof.Machine

/-! dev.ident (0x0000), 1 indices, 16 bytes. -/
def devIdentSerial : Fld := ⟨0x0000, 0, 64, .ro, 0, fun _ => Config.deviceSerial % 2 ^ 64⟩
def devIdentPart : Fld := ⟨0x0000, 64, 32, .ro, 0, fun _ => 1095585292⟩
def devIdentRomVer : Fld := ⟨0x0000, 112, 16, .ro, 0, fun _ => Config.romVer % 2 ^ 16⟩
def devIdentSilicon : Fld := ⟨0x0000, 96, 16, .ro, 0, fun _ => Config.silicon % 2 ^ 16⟩
def devIdentDef : ObjDef := ⟨0x0000, 1, 16, 0, 62, 62,
  [devIdentSerial, devIdentPart, devIdentRomVer, devIdentSilicon]⟩

/-! mode.state (0x0010), 1 indices, 20 bytes. -/
def modeStateReady : Fld := ⟨0x0010, 22, 1, .ro, 1, fun _ => 0⟩
def modeStateStraps : Fld := ⟨0x0010, 20, 2, .ro, 1, fun _ => 0⟩
def modeStateHold : Fld := ⟨0x0010, 16, 4, .ro, 0, fun _ => 0⟩
def modeStatePrev : Fld := ⟨0x0010, 8, 8, .ro, 1, fun _ => 0⟩
def modeStateMode : Fld := ⟨0x0010, 0, 8, .ro, 1, fun _ => 0⟩
def modeStateBlockers : Fld := ⟨0x0010, 32, 32, .ro, 1, fun _ => 0⟩
def modeStateSince : Fld := ⟨0x0010, 64, 64, .ro, 1, fun _ => 0⟩
def modeStateRole : Fld := ⟨0x0010, 144, 8, .ro, 1, fun _ => 0⟩
def modeStatePort : Fld := ⟨0x0010, 136, 8, .ro, 1, fun _ => 255⟩
def modeStateCause : Fld := ⟨0x0010, 128, 8, .ro, 1, fun _ => 0⟩
def modeStateDef : ObjDef := ⟨0x0010, 1, 20, 0, 62, 62,
  [modeStateReady, modeStateStraps, modeStateHold, modeStatePrev, modeStateMode, modeStateBlockers, modeStateSince, modeStateRole, modeStatePort, modeStateCause]⟩

/-! mode.config (0x0011), 1 indices, 8 bytes. -/
def modeConfigMaintS : Fld := ⟨0x0011, 16, 16, .rw, 0, fun _ => 3600⟩
def modeConfigAutoService : Fld := ⟨0x0011, 0, 1, .rw, 0, fun _ => 1⟩
def modeConfigAttn1Mask : Fld := ⟨0x0011, 48, 16, .rw, 0, fun _ => 836⟩
def modeConfigAttn0Mask : Fld := ⟨0x0011, 32, 16, .rw, 0, fun _ => 168⟩
def modeConfigDef : ObjDef := ⟨0x0011, 1, 8, 32, 62, 62,
  [modeConfigMaintS, modeConfigAutoService, modeConfigAttn1Mask, modeConfigAttn0Mask]⟩

/-! mode.boot (0x0012), 1 indices, 32 bytes. -/
def modeBootTStep (k : Nat) : Fld := ⟨0x0012, 0 + 32 * k, 32, .ro, 1, fun _ => 4294967295⟩
def modeBootTStandby : Fld := ⟨0x0012, 160, 32, .ro, 1, fun _ => 4294967295⟩
def modeBootTService : Fld := ⟨0x0012, 192, 32, .ro, 1, fun _ => 4294967295⟩
def modeBootSelftestFail : Fld := ⟨0x0012, 224, 14, .ro, 1, fun _ => 0⟩
def modeBootDef : ObjDef := ⟨0x0012, 1, 32, 0, 38, 38,
  [modeBootTStandby, modeBootTService, modeBootSelftestFail] ++ (List.range 5).map modeBootTStep⟩

/-! mode.reset (0x0013), 16 indices, 20 bytes. -/
def modeResetStamp : Fld := ⟨0x0013, 0, 64, .ro, 0, fun _ => 0⟩
def modeResetUtc : Fld := ⟨0x0013, 64, 64, .ro, 0, fun _ => 0⟩
def modeResetRole : Fld := ⟨0x0013, 144, 8, .ro, 0, fun _ => 0⟩
def modeResetPort : Fld := ⟨0x0013, 136, 8, .ro, 0, fun _ => 0⟩
def modeResetSide : Fld := ⟨0x0013, 135, 1, .ro, 0, fun _ => 0⟩
def modeResetCode : Fld := ⟨0x0013, 128, 7, .ro, 0, fun _ => 0⟩
def modeResetDef : ObjDef := ⟨0x0013, 16, 20, 0, 38, 38,
  [modeResetStamp, modeResetUtc, modeResetRole, modeResetPort, modeResetSide, modeResetCode]⟩

/-! mode.supply (0x0014), 1 indices, 16 bytes. -/
def modeSupplyVfld : Fld := ⟨0x0014, 16, 16, .ro, 1, fun _ => 0⟩
def modeSupplyVhost : Fld := ⟨0x0014, 0, 16, .ro, 1, fun _ => 0⟩
def modeSupplyVfldMin : Fld := ⟨0x0014, 48, 16, .ro, 1, fun _ => 0⟩
def modeSupplyVbat : Fld := ⟨0x0014, 32, 16, .ro, 1, fun _ => 0⟩
def modeSupplyWarnings : Fld := ⟨0x0014, 64, 32, .ro, 1, fun _ => 0⟩
def modeSupplyPfailf : Fld := ⟨0x0014, 112, 16, .ro, 0, fun _ => 0⟩
def modeSupplyPfailh : Fld := ⟨0x0014, 96, 16, .ro, 0, fun _ => 0⟩
def modeSupplyDef : ObjDef := ⟨0x0014, 1, 16, 0, 38, 38,
  [modeSupplyVfld, modeSupplyVhost, modeSupplyVfldMin, modeSupplyVbat, modeSupplyWarnings, modeSupplyPfailf, modeSupplyPfailh]⟩

/-! port.bind (0x0100), 5 indices, 4 bytes. -/
def portBindRole : Fld := ⟨0x0100, 0, 8, .rw, 0, fun i => if i = 4 then 5 else 0⟩
def portBindDef : ObjDef := ⟨0x0100, 5, 4, 32, 62, 62,
  [portBindRole]⟩

/-! port.state (0x0110), 6 indices, 20 bytes. -/
def portStateConsoleOn : Fld := ⟨0x0110, 18, 1, .ro, 2, fun _ => 0⟩
def portStateLink : Fld := ⟨0x0110, 16, 2, .ro, 2, fun _ => 0⟩
def portStateReqOut : Fld := ⟨0x0110, 8, 8, .ro, 2, fun _ => 0⟩
def portStateSubs : Fld := ⟨0x0110, 0, 8, .ro, 2, fun _ => 0⟩
def portStateNaks : Fld := ⟨0x0110, 32, 32, .ro, 2, fun _ => 0⟩
def portStateDuplicates : Fld := ⟨0x0110, 64, 32, .ro, 2, fun _ => 0⟩
def portStateNotifyDrops : Fld := ⟨0x0110, 96, 32, .ro, 2, fun _ => 0⟩
def portStateNtfCredits : Fld := ⟨0x0110, 128, 8, .ro, 2, fun _ => 8⟩
def portStateDef : ObjDef := ⟨0x0110, 6, 20, 0, 38, 38,
  [portStateConsoleOn, portStateLink, portStateReqOut, portStateSubs, portStateNaks, portStateDuplicates, portStateNotifyDrops, portStateNtfCredits]⟩

/-! key.praline (0x0140), 1024 indices, 104 bytes. -/
def pralineMagic : Fld := ⟨0x0140, 0, 32, .rw, 0, fun _ => 0⟩
def pralineFmt : Fld := ⟨0x0140, 32, 8, .rw, 0, fun _ => 0⟩
def pralineAlg : Fld := ⟨0x0140, 40, 8, .rw, 0, fun _ => 0⟩
def pralineAttr : Fld := ⟨0x0140, 48, 8, .rw, 0, fun _ => 0⟩
def pralineLcEpoch : Fld := ⟨0x0140, 56, 8, .rw, 0, fun _ => 0⟩
def pralineLabel : Fld := ⟨0x0140, 64, 64, .rw, 0, fun _ => 0⟩
def pralinePin : Fld := ⟨0x0140, 128, 1, .rw, 0, fun _ => 0⟩
def pralineWlen : Fld := ⟨0x0140, 144, 16, .rw, 0, fun _ => 0⟩
def pralineWrapped : Fld := ⟨0x0140, 192, 640, .rw, 0, fun _ => 0⟩
def pralineDef : ObjDef := ⟨0x0140, 1024, 104, 32, 32, 32,
  [pralineMagic, pralineFmt, pralineAlg, pralineAttr, pralineLcEpoch, pralineLabel, pralinePin, pralineWlen, pralineWrapped]⟩

/-! key.cert (0x0170), 16 indices, 256 bytes. -/
def keyCertPart : Fld := ⟨0x0170, 0, 2048, .ro, 0, fun _ => 0⟩
def keyCertDef : ObjDef := ⟨0x0170, 16, 256, 0, 62, 62,
  [keyCertPart]⟩

/-! lc.state (0x0180), 1 indices, 4 bytes. -/
def lcStateState : Fld := ⟨0x0180, 0, 8, .ro, 0, fun _ => 0⟩
def lcStateLcEpoch : Fld := ⟨0x0180, 8, 8, .ro, 0, fun _ => 0⟩
def lcStateDef : ObjDef := ⟨0x0180, 1, 4, 0, 62, 62,
  [lcStateState, lcStateLcEpoch]⟩

/-! lc.enroll (0x0181), 2 indices, 256 bytes. -/
def lcEnrollModulus : Fld := ⟨0x0181, 0, 2048, .rw, 0, fun _ => 0⟩
def lcEnrollDef : ObjDef := ⟨0x0181, 2, 256, 32, 32, 32,
  [lcEnrollModulus]⟩

/-! crq.state (0x01C0), 1 indices, 88 bytes. -/
def crqStateEpoch : Fld := ⟨0x01C0, 0, 32, .ro, 0, fun _ => 0⟩
def crqStateFlags : Fld := ⟨0x01C0, 32, 32, .ro, 1, fun _ => 0⟩
def crqStateRoot : Fld := ⟨0x01C0, 64, 512, .ro, 0, fun _ => 0⟩
def crqStateChanged : Fld := ⟨0x01C0, 576, 16, .ro, 1, fun _ => 0⟩
def crqStateChangeStamp : Fld := ⟨0x01C0, 640, 64, .ro, 1, fun _ => 0⟩
def crqStateDef : ObjDef := ⟨0x01C0, 1, 88, 0, 62, 62,
  [crqStateEpoch, crqStateFlags, crqStateRoot, crqStateChanged, crqStateChangeStamp]⟩

/-! crq.group (0x01C1), 16 indices, 72 bytes. -/
def crqGroupCount : Fld := ⟨0x01C1, 0, 16, .ro, 0, fun _ => 0⟩
def crqGroupLastEpoch : Fld := ⟨0x01C1, 32, 32, .ro, 0, fun _ => 0⟩
def crqGroupDigest : Fld := ⟨0x01C1, 64, 512, .ro, 0, fun _ => 0⟩
def crqGroupDef : ObjDef := ⟨0x01C1, 16, 72, 0, 46, 46,
  [crqGroupCount, crqGroupLastEpoch, crqGroupDigest]⟩

/-! crq.leaf (0x01C2), 16384 indices, 72 bytes. -/
def crqLeafObject : Fld := ⟨0x01C2, 0, 16, .ro, 0, fun _ => 0⟩
def crqLeafIndex : Fld := ⟨0x01C2, 16, 16, .ro, 0, fun _ => 0⟩
def crqLeafLeaf : Fld := ⟨0x01C2, 64, 512, .ro, 0, fun _ => 0⟩
def crqLeafDef : ObjDef := ⟨0x01C2, 16384, 72, 0, 44, 44,
  [crqLeafObject, crqLeafIndex, crqLeafLeaf]⟩

/-! attest.stmt (0x01E1), 4 indices, 256 bytes. -/
def attestStmtPart : Fld := ⟨0x01E1, 0, 2048, .ro, 1, fun _ => 0⟩
def attestStmtDef : ObjDef := ⟨0x01E1, 4, 256, 0, 62, 62,
  [attestStmtPart]⟩

/-! alloc.config (0x0200), 1 indices, 24 bytes. -/
def allocConfigStaleAction : Fld := ⟨0x0200, 24, 1, .rw, 0, fun _ => 0⟩
def allocConfigStaleEpochs : Fld := ⟨0x0200, 8, 16, .rw, 0, fun _ => 100⟩
def allocConfigEpochLenMs : Fld := ⟨0x0200, 0, 8, .rw, 0, fun _ => 10⟩
def allocConfigSiteRamp : Fld := ⟨0x0200, 32, 32, .rw, 0, fun _ => 5000⟩
def allocConfigRectLoss : Fld := ⟨0x0200, 64, 16, .rw, 0, fun _ => 200⟩
def allocConfigRectRating : Fld := ⟨0x0200, 96, 32, .rw, 0, fun _ => 250000⟩
def allocConfigVbusMin : Fld := ⟨0x0200, 128, 32, .rw, 0, fun _ => 900000⟩
def allocConfigVbusMax : Fld := ⟨0x0200, 160, 32, .rw, 0, fun _ => 1500000⟩
def allocConfigDef : ObjDef := ⟨0x0200, 1, 24, 4, 38, 38,
  [allocConfigStaleAction, allocConfigStaleEpochs, allocConfigEpochLenMs, allocConfigSiteRamp, allocConfigRectLoss, allocConfigRectRating, allocConfigVbusMin, allocConfigVbusMax]⟩

/-! alloc.site (0x0201), 1 indices, 28 bytes. -/
def allocSiteImportLimit : Fld := ⟨0x0201, 0, 32, .rw, 0, fun _ => 0⟩
def allocSiteAvail : Fld := ⟨0x0201, 32, 32, .rw, 1, fun _ => 4294967295⟩
def allocSiteAuxBudget : Fld := ⟨0x0201, 64, 32, .rw, 0, fun _ => 0⟩
def allocSiteAvailFallback : Fld := ⟨0x0201, 96, 32, .rw, 0, fun _ => 4294967295⟩
def allocSiteFeederTripped : Fld := ⟨0x0201, 128, 1, .ro, 1, fun _ => 0⟩
def allocSiteLEff : Fld := ⟨0x0201, 160, 32, .ro, 1, fun _ => 0⟩
def allocSiteBMax : Fld := ⟨0x0201, 192, 32, .ro, 1, fun _ => 0⟩
def allocSiteDef : ObjDef := ⟨0x0201, 1, 28, 4, 46, 46,
  [allocSiteImportLimit, allocSiteAvail, allocSiteAuxBudget, allocSiteAvailFallback, allocSiteFeederTripped, allocSiteLEff, allocSiteBMax]⟩

/-! alloc.outlet (0x0210), 12 indices, 28 bytes. -/
def allocOutletIRated : Fld := ⟨0x0210, 0, 32, .rw, 0, fun _ => 0⟩
def allocOutletVRated : Fld := ⟨0x0210, 32, 32, .rw, 0, fun _ => 0⟩
def allocOutletPRated : Fld := ⟨0x0210, 64, 32, .rw, 0, fun _ => 0⟩
def allocOutletIPhase : Fld := ⟨0x0210, 96, 32, .rw, 0, fun _ => 0⟩
def allocOutletRamp : Fld := ⟨0x0210, 128, 32, .rw, 0, fun _ => 500000⟩
def allocOutletIRetRated : Fld := ⟨0x0210, 160, 32, .rw, 0, fun _ => 0⟩
def allocOutletBpt : Fld := ⟨0x0210, 208, 1, .rw, 0, fun _ => 0⟩
def allocOutletConvLoss : Fld := ⟨0x0210, 192, 16, .rw, 0, fun _ => 300⟩
def allocOutletDef : ObjDef := ⟨0x0210, 12, 28, 32, 62, 62,
  [allocOutletIRated, allocOutletVRated, allocOutletPRated, allocOutletIPhase, allocOutletRamp, allocOutletIRetRated, allocOutletBpt, allocOutletConvLoss]⟩

/-! alloc.contract (0x0220), 12 indices, 8 bytes. -/
def allocContractPCeil : Fld := ⟨0x0220, 0, 32, .rw, 0, fun _ => 0⟩
def allocContractICeil : Fld := ⟨0x0220, 32, 32, .rw, 0, fun _ => 0⟩
def allocContractDef : ObjDef := ⟨0x0220, 12, 8, 4, 38, 38,
  [allocContractPCeil, allocContractICeil]⟩

/-! alloc.epoch (0x0240), 16 indices, 432 bytes. -/
def allocEpochEpoch : Fld := ⟨0x0240, 0, 32, .ro, 1, fun _ => 0⟩
def allocEpochRetractions : Fld := ⟨0x0240, 40, 8, .ro, 1, fun _ => 0⟩
def allocEpochState : Fld := ⟨0x0240, 32, 8, .ro, 1, fun _ => 0⟩
def allocEpochT0 : Fld := ⟨0x0240, 64, 64, .ro, 1, fun _ => 0⟩
def allocEpochLEff : Fld := ⟨0x0240, 128, 32, .ro, 1, fun _ => 0⟩
def allocEpochBMax : Fld := ⟨0x0240, 160, 32, .ro, 1, fun _ => 0⟩
def allocEpochImport : Fld := ⟨0x0240, 192, 32, .ro, 1, fun _ => 0⟩
def allocEpochBus : Fld := ⟨0x0240, 224, 32, .ro, 1, fun _ => 0⟩
def allocEpochPBat : Fld := ⟨0x0240, 256, 32, .ro, 1, fun _ => 0⟩
def allocEpochVbusRef : Fld := ⟨0x0240, 288, 32, .ro, 1, fun _ => 0⟩
def allocEpochSiteClamps : Fld := ⟨0x0240, 320, 16, .ro, 1, fun _ => 0⟩
def allocEpochIMax (k : Nat) : Fld := ⟨0x0240, 384 + 256 * k, 32, .ro, 1, fun _ => 0⟩
def allocEpochIMin (k : Nat) : Fld := ⟨0x0240, 416 + 256 * k, 32, .ro, 1, fun _ => 0⟩
def allocEpochPMax (k : Nat) : Fld := ⟨0x0240, 448 + 256 * k, 32, .ro, 1, fun _ => 0⟩
def allocEpochPMin (k : Nat) : Fld := ⟨0x0240, 480 + 256 * k, 32, .ro, 1, fun _ => 0⟩
def allocEpochVMax (k : Nat) : Fld := ⟨0x0240, 512 + 256 * k, 32, .ro, 1, fun _ => 0⟩
def allocEpochClamps (k : Nat) : Fld := ⟨0x0240, 547 + 256 * k, 16, .ro, 1, fun _ => 0⟩
def allocEpochOrigin (k : Nat) : Fld := ⟨0x0240, 544 + 256 * k, 3, .ro, 1, fun _ => 0⟩
def allocEpochTagO (k : Nat) : Fld := ⟨0x0240, 576 + 256 * k, 32, .ro, 1, fun _ => 0⟩
def allocEpochPrio (k : Nat) : Fld := ⟨0x0240, 616 + 256 * k, 3, .ro, 1, fun _ => 0⟩
def allocEpochProposer (k : Nat) : Fld := ⟨0x0240, 608 + 256 * k, 8, .ro, 1, fun _ => 0⟩
def allocEpochDef : ObjDef := ⟨0x0240, 16, 432, 0, 38, 38,
  [allocEpochEpoch, allocEpochRetractions, allocEpochState, allocEpochT0, allocEpochLEff, allocEpochBMax, allocEpochImport, allocEpochBus, allocEpochPBat, allocEpochVbusRef, allocEpochSiteClamps] ++ (List.range 12).map allocEpochIMax ++ (List.range 12).map allocEpochIMin ++ (List.range 12).map allocEpochPMax ++ (List.range 12).map allocEpochPMin ++ (List.range 12).map allocEpochVMax ++ (List.range 12).map allocEpochClamps ++ (List.range 12).map allocEpochOrigin ++ (List.range 12).map allocEpochTagO ++ (List.range 12).map allocEpochPrio ++ (List.range 12).map allocEpochProposer⟩

/-! ctl.engine (0x0400), 1 indices, 8 bytes. -/
def ctlEngineLoad : Fld := ⟨0x0400, 0, 32, .ro, 1, fun _ => 0⟩
def ctlEngineSparesLeft : Fld := ⟨0x0400, 40, 8, .ro, 1, fun _ => 8⟩
def ctlEngineAssigned : Fld := ⟨0x0400, 32, 8, .ro, 1, fun _ => 0⟩
def ctlEngineDef : ObjDef := ⟨0x0400, 1, 8, 0, 62, 62,
  [ctlEngineLoad, ctlEngineSparesLeft, ctlEngineAssigned]⟩

/-! ctl.slot (0x0410), 64 indices, 56 bytes. -/
def ctlSlotB0 : Fld := ⟨0x0410, 0, 32, .rw, 0, fun _ => 0⟩
def ctlSlotB1 : Fld := ⟨0x0410, 32, 32, .rw, 0, fun _ => 0⟩
def ctlSlotB2 : Fld := ⟨0x0410, 64, 32, .rw, 0, fun _ => 0⟩
def ctlSlotB3 : Fld := ⟨0x0410, 96, 32, .rw, 0, fun _ => 0⟩
def ctlSlotA1 : Fld := ⟨0x0410, 128, 32, .rw, 0, fun _ => 0⟩
def ctlSlotA2 : Fld := ⟨0x0410, 160, 32, .rw, 0, fun _ => 0⟩
def ctlSlotA3 : Fld := ⟨0x0410, 192, 32, .rw, 0, fun _ => 0⟩
def ctlSlotUMax : Fld := ⟨0x0410, 240, 16, .rw, 0, fun _ => 32767⟩
def ctlSlotUMin : Fld := ⟨0x0410, 224, 16, .rw, 0, fun _ => 32768⟩
def ctlSlotPol : Fld := ⟨0x0410, 283, 1, .rw, 0, fun _ => 0⟩
def ctlSlotOrder : Fld := ⟨0x0410, 282, 1, .rw, 0, fun _ => 0⟩
def ctlSlotKind : Fld := ⟨0x0410, 280, 2, .rw, 0, fun _ => 0⟩
def ctlSlotConv : Fld := ⟨0x0410, 272, 8, .rw, 0, fun _ => 255⟩
def ctlSlotRole : Fld := ⟨0x0410, 264, 4, .rw, 0, fun _ => 0⟩
def ctlSlotDivisor : Fld := ⟨0x0410, 288, 16, .rw, 0, fun _ => 1⟩
def ctlSlotStandsFor : Fld := ⟨0x0410, 328, 8, .ro, 0, fun _ => 255⟩
def ctlSlotState : Fld := ⟨0x0410, 320, 8, .ro, 1, fun _ => 0⟩
def ctlSlotUpdates : Fld := ⟨0x0410, 352, 32, .ro, 1, fun _ => 0⟩
def ctlSlotULast : Fld := ⟨0x0410, 384, 64, .ro, 1, fun _ => 0⟩
def ctlSlotDef : ObjDef := ⟨0x0410, 64, 56, 32, 38, 38,
  [ctlSlotB0, ctlSlotB1, ctlSlotB2, ctlSlotB3, ctlSlotA1, ctlSlotA2, ctlSlotA3, ctlSlotUMax, ctlSlotUMin, ctlSlotPol, ctlSlotOrder, ctlSlotKind, ctlSlotConv, ctlSlotRole, ctlSlotDivisor, ctlSlotStandsFor, ctlSlotState, ctlSlotUpdates, ctlSlotULast]⟩

/-! ctl.outlet (0x0480), 12 indices, 56 bytes. -/
def ctlOutletIFs : Fld := ⟨0x0480, 0, 32, .rw, 0, fun _ => 3276800⟩
def ctlOutletVFs : Fld := ⟨0x0480, 32, 32, .rw, 0, fun _ => 1638400⟩
def ctlOutletRLl : Fld := ⟨0x0480, 64, 32, .rw, 0, fun _ => 0⟩
def ctlOutletSsRate : Fld := ⟨0x0480, 96, 32, .rw, 0, fun _ => 50000⟩
def ctlOutletIFbMin : Fld := ⟨0x0480, 128, 32, .rw, 0, fun _ => 50000⟩
def ctlOutletIFbMax : Fld := ⟨0x0480, 160, 32, .rw, 0, fun _ => 0⟩
def ctlOutletVNom : Fld := ⟨0x0480, 192, 32, .rw, 0, fun _ => 0⟩
def ctlOutletPcImax : Fld := ⟨0x0480, 224, 32, .rw, 0, fun _ => 2000⟩
def ctlOutletPcTol : Fld := ⟨0x0480, 256, 32, .rw, 0, fun _ => 20000⟩
def ctlOutletPcTimeout : Fld := ⟨0x0480, 304, 16, .rw, 0, fun _ => 5000⟩
def ctlOutletOvMargin : Fld := ⟨0x0480, 288, 16, .rw, 0, fun _ => 20⟩
def ctlOutletISlew : Fld := ⟨0x0480, 320, 32, .rw, 0, fun _ => 100⟩
def ctlOutletStopRate : Fld := ⟨0x0480, 352, 32, .rw, 0, fun _ => 3000⟩
def ctlOutletNMin : Fld := ⟨0x0480, 408, 8, .rw, 0, fun _ => 2⟩
def ctlOutletShedLo : Fld := ⟨0x0480, 400, 8, .rw, 0, fun _ => 30⟩
def ctlOutletShedHi : Fld := ⟨0x0480, 392, 8, .rw, 0, fun _ => 60⟩
def ctlOutletTrimMax : Fld := ⟨0x0480, 384, 8, .rw, 0, fun _ => 20⟩
def ctlOutletShedHold : Fld := ⟨0x0480, 432, 16, .rw, 0, fun _ => 1000⟩
def ctlOutletIOpen : Fld := ⟨0x0480, 416, 16, .rw, 0, fun _ => 5⟩
def ctlOutletDef : ObjDef := ⟨0x0480, 12, 56, 32, 62, 62,
  [ctlOutletIFs, ctlOutletVFs, ctlOutletRLl, ctlOutletSsRate, ctlOutletIFbMin, ctlOutletIFbMax, ctlOutletVNom, ctlOutletPcImax, ctlOutletPcTol, ctlOutletPcTimeout, ctlOutletOvMargin, ctlOutletISlew, ctlOutletStopRate, ctlOutletNMin, ctlOutletShedLo, ctlOutletShedHi, ctlOutletTrimMax, ctlOutletShedHold, ctlOutletIOpen]⟩

/-! ctl.battery (0x0490), 1 indices, 12 bytes. -/
def ctlBatteryIFs : Fld := ⟨0x0490, 0, 32, .rw, 0, fun _ => 3276800⟩
def ctlBatteryVFs : Fld := ⟨0x0490, 32, 32, .rw, 0, fun _ => 1638400⟩
def ctlBatteryISlew : Fld := ⟨0x0490, 64, 32, .rw, 0, fun _ => 100⟩
def ctlBatteryDef : ObjDef := ⟨0x0490, 1, 12, 32, 62, 62,
  [ctlBatteryIFs, ctlBatteryVFs, ctlBatteryISlew]⟩

/-! ctl.state (0x04A0), 13 indices, 48 bytes. -/
def ctlStateHeldCause : Fld := ⟨0x04A0, 16, 8, .ro, 1, fun _ => 0⟩
def ctlStateDegraded : Fld := ⟨0x04A0, 15, 1, .ro, 1, fun _ => 0⟩
def ctlStateBusSupport : Fld := ⟨0x04A0, 14, 1, .ro, 1, fun _ => 0⟩
def ctlStateDivSub : Fld := ⟨0x04A0, 13, 1, .ro, 1, fun _ => 0⟩
def ctlStateIncomplete : Fld := ⟨0x04A0, 12, 1, .ro, 1, fun _ => 0⟩
def ctlStateAborts : Fld := ⟨0x04A0, 8, 4, .ro, 1, fun _ => 0⟩
def ctlStateState : Fld := ⟨0x04A0, 0, 8, .ro, 1, fun _ => 0⟩
def ctlStateNAvail : Fld := ⟨0x04A0, 32, 16, .ro, 1, fun _ => 0⟩
def ctlStateActiveMap : Fld := ⟨0x04A0, 64, 24, .ro, 1, fun _ => 0⟩
def ctlStateFailedMap : Fld := ⟨0x04A0, 96, 24, .ro, 1, fun _ => 0⟩
def ctlStateVOut : Fld := ⟨0x04A0, 128, 32, .ro, 1, fun _ => 0⟩
def ctlStateIOut : Fld := ⟨0x04A0, 160, 32, .ro, 1, fun _ => 0⟩
def ctlStateIHi : Fld := ⟨0x04A0, 192, 32, .ro, 1, fun _ => 0⟩
def ctlStateILo : Fld := ⟨0x04A0, 224, 32, .ro, 1, fun _ => 0⟩
def ctlStateVRef : Fld := ⟨0x04A0, 256, 32, .ro, 1, fun _ => 0⟩
def ctlStateHsTempMax : Fld := ⟨0x04A0, 288, 16, .ro, 1, fun _ => 0⟩
def ctlStateBackoffUntil : Fld := ⟨0x04A0, 320, 64, .ro, 1, fun _ => 0⟩
def ctlStateDef : ObjDef := ⟨0x04A0, 13, 48, 0, 62, 62,
  [ctlStateHeldCause, ctlStateDegraded, ctlStateBusSupport, ctlStateDivSub, ctlStateIncomplete, ctlStateAborts, ctlStateState, ctlStateNAvail, ctlStateActiveMap, ctlStateFailedMap, ctlStateVOut, ctlStateIOut, ctlStateIHi, ctlStateILo, ctlStateVRef, ctlStateHsTempMax, ctlStateBackoffUntil]⟩

/-! ctl.fault (0x0500), 13 indices, 288 bytes. -/
def ctlFaultSiteTime : Fld := ⟨0x0500, 0, 64, .ro, 0, fun _ => 0⟩
def ctlFaultLegalTime : Fld := ⟨0x0500, 64, 64, .ro, 0, fun _ => 0⟩
def ctlFaultDetail : Fld := ⟨0x0500, 144, 16, .ro, 0, fun _ => 0⟩
def ctlFaultCause : Fld := ⟨0x0500, 128, 16, .ro, 0, fun _ => 0⟩
def ctlFaultAborts : Fld := ⟨0x0500, 168, 8, .ro, 0, fun _ => 0⟩
def ctlFaultState : Fld := ⟨0x0500, 160, 8, .ro, 0, fun _ => 0⟩
def ctlFaultActiveMap : Fld := ⟨0x0500, 192, 24, .ro, 0, fun _ => 0⟩
def ctlFaultFailedMap : Fld := ⟨0x0500, 224, 24, .ro, 0, fun _ => 0⟩
def ctlFaultVOut : Fld := ⟨0x0500, 256, 32, .ro, 0, fun _ => 0⟩
def ctlFaultVIn : Fld := ⟨0x0500, 288, 32, .ro, 0, fun _ => 0⟩
def ctlFaultIOut : Fld := ⟨0x0500, 320, 32, .ro, 0, fun _ => 0⟩
def ctlFaultIRef : Fld := ⟨0x0500, 352, 32, .ro, 0, fun _ => 0⟩
def ctlFaultIPh (k : Nat) : Fld := ⟨0x0500, 384 + 32 * k, 32, .ro, 0, fun _ => 0⟩
def ctlFaultHsTemp (k : Nat) : Fld := ⟨0x0500, 1152 + 16 * k, 16, .ro, 0, fun _ => 0⟩
def ctlFaultSlot (k : Nat) : Fld := ⟨0x0500, 1216 + 320 * k, 8, .ro, 0, fun _ => 0⟩
def ctlFaultUHist0 (k : Nat) : Fld := ⟨0x0500, 1280 + 64 * k, 64, .ro, 0, fun _ => 0⟩
def ctlFaultUHist1 (k : Nat) : Fld := ⟨0x0500, 1600 + 64 * k, 64, .ro, 0, fun _ => 0⟩
def ctlFaultUHist2 (k : Nat) : Fld := ⟨0x0500, 1920 + 64 * k, 64, .ro, 0, fun _ => 0⟩
def ctlFaultEHist0 (k : Nat) : Fld := ⟨0x0500, 1472 + 16 * k, 16, .ro, 0, fun _ => 0⟩
def ctlFaultEHist1 (k : Nat) : Fld := ⟨0x0500, 1792 + 16 * k, 16, .ro, 0, fun _ => 0⟩
def ctlFaultEHist2 (k : Nat) : Fld := ⟨0x0500, 2112 + 16 * k, 16, .ro, 0, fun _ => 0⟩
def ctlFaultSeq : Fld := ⟨0x0500, 2176, 32, .ro, 0, fun _ => 0⟩
def ctlFaultDef : ObjDef := ⟨0x0500, 13, 288, 0, 38, 38,
  [ctlFaultSiteTime, ctlFaultLegalTime, ctlFaultDetail, ctlFaultCause, ctlFaultAborts, ctlFaultState, ctlFaultActiveMap, ctlFaultFailedMap, ctlFaultVOut, ctlFaultVIn, ctlFaultIOut, ctlFaultIRef, ctlFaultSeq] ++ (List.range 24).map ctlFaultIPh ++ (List.range 4).map ctlFaultHsTemp ++ (List.range 3).map ctlFaultSlot ++ (List.range 3).map ctlFaultUHist0 ++ (List.range 3).map ctlFaultUHist1 ++ (List.range 3).map ctlFaultUHist2 ++ (List.range 3).map ctlFaultEHist0 ++ (List.range 3).map ctlFaultEHist1 ++ (List.range 3).map ctlFaultEHist2⟩

/-! ctl.fault_hist (0x0520), 832 indices, 288 bytes. -/
def ctlFaultHistSiteTime : Fld := ⟨0x0520, 0, 64, .ro, 0, fun _ => 0⟩
def ctlFaultHistLegalTime : Fld := ⟨0x0520, 64, 64, .ro, 0, fun _ => 0⟩
def ctlFaultHistDetail : Fld := ⟨0x0520, 144, 16, .ro, 0, fun _ => 0⟩
def ctlFaultHistCause : Fld := ⟨0x0520, 128, 16, .ro, 0, fun _ => 0⟩
def ctlFaultHistAborts : Fld := ⟨0x0520, 168, 8, .ro, 0, fun _ => 0⟩
def ctlFaultHistState : Fld := ⟨0x0520, 160, 8, .ro, 0, fun _ => 0⟩
def ctlFaultHistActiveMap : Fld := ⟨0x0520, 192, 24, .ro, 0, fun _ => 0⟩
def ctlFaultHistFailedMap : Fld := ⟨0x0520, 224, 24, .ro, 0, fun _ => 0⟩
def ctlFaultHistVOut : Fld := ⟨0x0520, 256, 32, .ro, 0, fun _ => 0⟩
def ctlFaultHistVIn : Fld := ⟨0x0520, 288, 32, .ro, 0, fun _ => 0⟩
def ctlFaultHistIOut : Fld := ⟨0x0520, 320, 32, .ro, 0, fun _ => 0⟩
def ctlFaultHistIRef : Fld := ⟨0x0520, 352, 32, .ro, 0, fun _ => 0⟩
def ctlFaultHistIPh (k : Nat) : Fld := ⟨0x0520, 384 + 32 * k, 32, .ro, 0, fun _ => 0⟩
def ctlFaultHistHsTemp (k : Nat) : Fld := ⟨0x0520, 1152 + 16 * k, 16, .ro, 0, fun _ => 0⟩
def ctlFaultHistSlot (k : Nat) : Fld := ⟨0x0520, 1216 + 320 * k, 8, .ro, 0, fun _ => 0⟩
def ctlFaultHistUHist0 (k : Nat) : Fld := ⟨0x0520, 1280 + 64 * k, 64, .ro, 0, fun _ => 0⟩
def ctlFaultHistUHist1 (k : Nat) : Fld := ⟨0x0520, 1600 + 64 * k, 64, .ro, 0, fun _ => 0⟩
def ctlFaultHistUHist2 (k : Nat) : Fld := ⟨0x0520, 1920 + 64 * k, 64, .ro, 0, fun _ => 0⟩
def ctlFaultHistEHist0 (k : Nat) : Fld := ⟨0x0520, 1472 + 16 * k, 16, .ro, 0, fun _ => 0⟩
def ctlFaultHistEHist1 (k : Nat) : Fld := ⟨0x0520, 1792 + 16 * k, 16, .ro, 0, fun _ => 0⟩
def ctlFaultHistEHist2 (k : Nat) : Fld := ⟨0x0520, 2112 + 16 * k, 16, .ro, 0, fun _ => 0⟩
def ctlFaultHistSeq : Fld := ⟨0x0520, 2176, 32, .ro, 0, fun _ => 0⟩
def ctlFaultHistDef : ObjDef := ⟨0x0520, 832, 288, 0, 32, 32,
  [ctlFaultHistSiteTime, ctlFaultHistLegalTime, ctlFaultHistDetail, ctlFaultHistCause, ctlFaultHistAborts, ctlFaultHistState, ctlFaultHistActiveMap, ctlFaultHistFailedMap, ctlFaultHistVOut, ctlFaultHistVIn, ctlFaultHistIOut, ctlFaultHistIRef, ctlFaultHistSeq] ++ (List.range 24).map ctlFaultHistIPh ++ (List.range 4).map ctlFaultHistHsTemp ++ (List.range 3).map ctlFaultHistSlot ++ (List.range 3).map ctlFaultHistUHist0 ++ (List.range 3).map ctlFaultHistUHist1 ++ (List.range 3).map ctlFaultHistUHist2 ++ (List.range 3).map ctlFaultHistEHist0 ++ (List.range 3).map ctlFaultHistEHist1 ++ (List.range 3).map ctlFaultHistEHist2⟩

/-! cool.outlet (0x0600), 12 indices, 84 bytes. -/
def coolOutletR20 : Fld := ⟨0x0600, 0, 32, .rw, 0, fun _ => 0⟩
def coolOutletCCond : Fld := ⟨0x0600, 32, 32, .rw, 0, fun _ => 0⟩
def coolOutletCCool : Fld := ⟨0x0600, 64, 32, .rw, 0, fun _ => 0⟩
def coolOutletGCw : Fld := ⟨0x0600, 96, 32, .rw, 0, fun _ => 0⟩
def coolOutletKFlow : Fld := ⟨0x0600, 128, 32, .rw, 0, fun _ => 0⟩
def coolOutletRK : Fld := ⟨0x0600, 160, 32, .rw, 0, fun _ => 0⟩
def coolOutletCK : Fld := ⟨0x0600, 208, 16, .rw, 0, fun _ => 0⟩
def coolOutletGKw : Fld := ⟨0x0600, 192, 16, .rw, 0, fun _ => 0⟩
def coolOutletAlpha : Fld := ⟨0x0600, 240, 16, .rw, 0, fun _ => 3930⟩
def coolOutletTSet : Fld := ⟨0x0600, 224, 16, .rw, 0, fun _ => 350⟩
def coolOutletFlowMin : Fld := ⟨0x0600, 272, 16, .rw, 0, fun _ => 500⟩
def coolOutletPumpMin : Fld := ⟨0x0600, 264, 8, .rw, 0, fun _ => 20⟩
def coolOutletFanOn : Fld := ⟨0x0600, 256, 8, .rw, 0, fun _ => 40⟩
def coolOutletFallbackI : Fld := ⟨0x0600, 288, 32, .rw, 0, fun _ => 250000⟩
def coolOutletModelTol : Fld := ⟨0x0600, 344, 8, .rw, 0, fun _ => 5⟩
def coolOutletCkStart : Fld := ⟨0x0600, 368, 16, .rw, 0, fun _ => 900⟩
def coolOutletCkStop : Fld := ⟨0x0600, 352, 16, .rw, 0, fun _ => 1100⟩
def coolOutletPostRun : Fld := ⟨0x0600, 400, 16, .rw, 0, fun _ => 60⟩
def coolOutletChillHold : Fld := ⟨0x0600, 384, 16, .rw, 0, fun _ => 30⟩
def coolOutletCurveT (k : Nat) : Fld := ⟨0x0600, 432 + 32 * k, 16, .rw, 0, fun _ => if k = 0 then 800 else if k = 1 then 850 else if k = 2 then 900 else 950⟩
def coolOutletCurveF (k : Nat) : Fld := ⟨0x0600, 416 + 32 * k, 16, .rw, 0, fun _ => if k = 0 then 1000 else if k = 1 then 800 else if k = 2 then 500 else 0⟩
def coolOutletDef : ObjDef := ⟨0x0600, 12, 84, 32, 62, 62,
  [coolOutletR20, coolOutletCCond, coolOutletCCool, coolOutletGCw, coolOutletKFlow, coolOutletRK, coolOutletCK, coolOutletGKw, coolOutletAlpha, coolOutletTSet, coolOutletFlowMin, coolOutletPumpMin, coolOutletFanOn, coolOutletFallbackI, coolOutletModelTol, coolOutletCkStart, coolOutletCkStop, coolOutletPostRun, coolOutletChillHold] ++ (List.range 8).map coolOutletCurveT ++ (List.range 8).map coolOutletCurveF⟩

/-! cool.state (0x0620), 12 indices, 28 bytes. -/
def coolStateTIn : Fld := ⟨0x0620, 16, 16, .ro, 1, fun _ => 0⟩
def coolStateTOut : Fld := ⟨0x0620, 0, 16, .ro, 1, fun _ => 0⟩
def coolStateTDcp : Fld := ⟨0x0620, 48, 16, .ro, 1, fun _ => 0⟩
def coolStateTDcn : Fld := ⟨0x0620, 32, 16, .ro, 1, fun _ => 0⟩
def coolStateFlow : Fld := ⟨0x0620, 80, 16, .ro, 1, fun _ => 0⟩
def coolStatePump : Fld := ⟨0x0620, 72, 8, .ro, 1, fun _ => 0⟩
def coolStateFlags : Fld := ⟨0x0620, 64, 8, .ro, 1, fun _ => 0⟩
def coolStateTcPred : Fld := ⟨0x0620, 112, 16, .ro, 1, fun _ => 0⟩
def coolStateTwPred : Fld := ⟨0x0620, 96, 16, .ro, 1, fun _ => 0⟩
def coolStateTkpPred : Fld := ⟨0x0620, 144, 16, .ro, 1, fun _ => 0⟩
def coolStateTknPred : Fld := ⟨0x0620, 128, 16, .ro, 1, fun _ => 0⟩
def coolStateIDer : Fld := ⟨0x0620, 160, 32, .ro, 1, fun _ => 0⟩
def coolStateLimiter : Fld := ⟨0x0620, 192, 8, .ro, 1, fun _ => 0⟩
def coolStateDef : ObjDef := ⟨0x0620, 12, 28, 0, 62, 62,
  [coolStateTIn, coolStateTOut, coolStateTDcp, coolStateTDcn, coolStateFlow, coolStatePump, coolStateFlags, coolStateTcPred, coolStateTwPred, coolStateTkpPred, coolStateTknPred, coolStateIDer, coolStateLimiter]⟩

/-! therm.sensor (0x0650), 46 indices, 16 bytes. -/
def thermSensorTemp : Fld := ⟨0x0650, 16, 16, .ro, 1, fun _ => 0⟩
def thermSensorStatus : Fld := ⟨0x0650, 8, 8, .ro, 1, fun _ => 0⟩
def thermSensorRound : Fld := ⟨0x0650, 0, 8, .ro, 1, fun _ => 0⟩
def thermSensorSuspectRounds : Fld := ⟨0x0650, 32, 32, .ro, 1, fun _ => 0⟩
def thermSensorOutStamp : Fld := ⟨0x0650, 64, 64, .ro, 0, fun _ => 0⟩
def thermSensorDef : ObjDef := ⟨0x0650, 46, 16, 0, 38, 38,
  [thermSensorTemp, thermSensorStatus, thermSensorRound, thermSensorSuspectRounds, thermSensorOutStamp]⟩

/-! therm.ts (0x0680), 4 indices, 16 bytes. -/
def thermTsGroup : Fld := ⟨0x0680, 16, 8, .rw, 0, fun _ => 0⟩
def thermTsAction : Fld := ⟨0x0680, 8, 8, .rw, 0, fun _ => 0⟩
def thermTsKind : Fld := ⟨0x0680, 0, 8, .rw, 0, fun _ => 0⟩
def thermTsIdeality : Fld := ⟨0x0680, 48, 16, .rw, 0, fun _ => 10080⟩
def thermTsRSeries : Fld := ⟨0x0680, 32, 16, .rw, 0, fun _ => 0⟩
def thermTsBeta : Fld := ⟨0x0680, 80, 16, .rw, 0, fun _ => 3435⟩
def thermTsWarnT : Fld := ⟨0x0680, 64, 16, .rw, 0, fun _ => 950⟩
def thermTsStopT : Fld := ⟨0x0680, 96, 16, .rw, 0, fun _ => 1050⟩
def thermTsDef : ObjDef := ⟨0x0680, 4, 16, 32, 38, 38,
  [thermTsGroup, thermTsAction, thermTsKind, thermTsIdeality, thermTsRSeries, thermTsBeta, thermTsWarnT, thermTsStopT]⟩

/-! therm.state (0x0690), 1 indices, 16 bytes. -/
def thermStateThermal : Fld := ⟨0x0690, 24, 8, .ro, 1, fun _ => 0⟩
def thermStateHottest : Fld := ⟨0x0690, 16, 8, .ro, 1, fun _ => 0⟩
def thermStateTHot : Fld := ⟨0x0690, 0, 16, .ro, 1, fun _ => 0⟩
def thermStateSkipN : Fld := ⟨0x0690, 40, 8, .ro, 1, fun _ => 0⟩
def thermStateDiv : Fld := ⟨0x0690, 32, 8, .ro, 1, fun _ => 1⟩
def thermStateBands : Fld := ⟨0x0690, 64, 64, .ro, 1, fun _ => 0⟩
def thermStateDef : ObjDef := ⟨0x0690, 1, 16, 0, 62, 62,
  [thermStateThermal, thermStateHottest, thermStateTHot, thermStateSkipN, thermStateDiv, thermStateBands]⟩

/-! meter.site (0x0800), 1 indices, 24 bytes. -/
def meterSiteVNom : Fld := ⟨0x0800, 0, 32, .rw, 0, fun _ => 400000⟩
def meterSiteINom : Fld := ⟨0x0800, 32, 32, .rw, 0, fun _ => 0⟩
def meterSiteNet : Fld := ⟨0x0800, 81, 1, .rw, 0, fun _ => 0⟩
def meterSiteWiring : Fld := ⟨0x0800, 80, 1, .rw, 0, fun _ => 0⟩
def meterSiteFNom : Fld := ⟨0x0800, 64, 16, .rw, 0, fun _ => 50⟩
def meterSiteRevInW : Fld := ⟨0x0800, 96, 32, .rw, 0, fun _ => 500000⟩
def meterSiteRevInS : Fld := ⟨0x0800, 144, 16, .rw, 0, fun _ => 5⟩
def meterSiteCompatN : Fld := ⟨0x0800, 128, 16, .rw, 0, fun _ => 50⟩
def meterSitePBound : Fld := ⟨0x0800, 160, 32, .rw, 0, fun _ => 0⟩
def meterSiteDef : ObjDef := ⟨0x0800, 1, 24, 8, 44, 44,
  [meterSiteVNom, meterSiteINom, meterSiteNet, meterSiteWiring, meterSiteFNom, meterSiteRevInW, meterSiteRevInS, meterSiteCompatN, meterSitePBound]⟩

/-! meter.cal (0x0810), 43 indices, 40 bytes. -/
def meterCalOffset : Fld := ⟨0x0810, 0, 24, .rw, 0, fun _ => 0⟩
def meterCalGain : Fld := ⟨0x0810, 32, 24, .rw, 0, fun _ => 8388608⟩
def meterCalScale : Fld := ⟨0x0810, 64, 32, .rw, 0, fun _ => 0⟩
def meterCalTc : Fld := ⟨0x0810, 112, 16, .rw, 0, fun _ => 0⟩
def meterCalTRef : Fld := ⟨0x0810, 96, 16, .rw, 0, fun _ => 2000⟩
def meterCalDelay : Fld := ⟨0x0810, 128, 14, .rw, 0, fun _ => 0⟩
def meterCalHeadId : Fld := ⟨0x0810, 192, 64, .ro, 0, fun _ => 0⟩
def meterCalCalTime : Fld := ⟨0x0810, 256, 64, .ro, 0, fun _ => 0⟩
def meterCalDef : ObjDef := ⟨0x0810, 43, 40, 8, 40, 40,
  [meterCalOffset, meterCalGain, meterCalScale, meterCalTc, meterCalTRef, meterCalDelay, meterCalHeadId, meterCalCalTime]⟩

/-! meter.outlet_cfg (0x0840), 12 indices, 16 bytes. -/
def meterOutletCfgRCable : Fld := ⟨0x0840, 0, 32, .rw, 0, fun _ => 0⟩
def meterOutletCfgPBound : Fld := ⟨0x0840, 32, 32, .rw, 0, fun _ => 0⟩
def meterOutletCfgRevW : Fld := ⟨0x0840, 64, 32, .rw, 0, fun _ => 5000⟩
def meterOutletCfgBasis : Fld := ⟨0x0840, 113, 1, .rw, 0, fun _ => 0⟩
def meterOutletCfgNet : Fld := ⟨0x0840, 112, 1, .rw, 0, fun _ => 0⟩
def meterOutletCfgRevMs : Fld := ⟨0x0840, 96, 16, .rw, 0, fun _ => 10⟩
def meterOutletCfgDef : ObjDef := ⟨0x0840, 12, 16, 8, 44, 44,
  [meterOutletCfgRCable, meterOutletCfgPBound, meterOutletCfgRevW, meterOutletCfgBasis, meterOutletCfgNet, meterOutletCfgRevMs]⟩

/-! meter.outlet (0x0860), 12 indices, 80 bytes. -/
def meterOutletFlags : Fld := ⟨0x0860, 0, 8, .ro, 1, fun _ => 0⟩
def meterOutletK : Fld := ⟨0x0860, 64, 64, .ro, 1, fun _ => 0⟩
def meterOutletEDeliv : Fld := ⟨0x0860, 128, 64, .ro, 0, fun _ => 0⟩
def meterOutletERet : Fld := ⟨0x0860, 192, 64, .ro, 0, fun _ => 0⟩
def meterOutletENet : Fld := ⟨0x0860, 256, 64, .ro, 0, fun _ => 0⟩
def meterOutletESubst : Fld := ⟨0x0860, 320, 64, .ro, 0, fun _ => 0⟩
def meterOutletGapNs : Fld := ⟨0x0860, 384, 64, .ro, 0, fun _ => 0⟩
def meterOutletCDeliv : Fld := ⟨0x0860, 448, 32, .ro, 0, fun _ => 0⟩
def meterOutletCRet : Fld := ⟨0x0860, 480, 32, .ro, 0, fun _ => 0⟩
def meterOutletWRet : Fld := ⟨0x0860, 520, 8, .ro, 0, fun _ => 0⟩
def meterOutletWDeliv : Fld := ⟨0x0860, 512, 8, .ro, 0, fun _ => 0⟩
def meterOutletCK : Fld := ⟨0x0860, 576, 64, .ro, 0, fun _ => 0⟩
def meterOutletDef : ObjDef := ⟨0x0860, 12, 80, 0, 46, 46,
  [meterOutletFlags, meterOutletK, meterOutletEDeliv, meterOutletERet, meterOutletENet, meterOutletESubst, meterOutletGapNs, meterOutletCDeliv, meterOutletCRet, meterOutletWRet, meterOutletWDeliv, meterOutletCK]⟩

/-! meter.incomer (0x0880), 4 indices, 80 bytes. -/
def meterIncomerFlags : Fld := ⟨0x0880, 0, 8, .ro, 1, fun _ => 0⟩
def meterIncomerK : Fld := ⟨0x0880, 64, 64, .ro, 1, fun _ => 0⟩
def meterIncomerEDeliv : Fld := ⟨0x0880, 128, 64, .ro, 0, fun _ => 0⟩
def meterIncomerERet : Fld := ⟨0x0880, 192, 64, .ro, 0, fun _ => 0⟩
def meterIncomerENet : Fld := ⟨0x0880, 256, 64, .ro, 0, fun _ => 0⟩
def meterIncomerESubst : Fld := ⟨0x0880, 320, 64, .ro, 0, fun _ => 0⟩
def meterIncomerGapNs : Fld := ⟨0x0880, 384, 64, .ro, 0, fun _ => 0⟩
def meterIncomerCDeliv : Fld := ⟨0x0880, 448, 32, .ro, 0, fun _ => 0⟩
def meterIncomerCRet : Fld := ⟨0x0880, 480, 32, .ro, 0, fun _ => 0⟩
def meterIncomerWRet : Fld := ⟨0x0880, 520, 8, .ro, 0, fun _ => 0⟩
def meterIncomerWDeliv : Fld := ⟨0x0880, 512, 8, .ro, 0, fun _ => 0⟩
def meterIncomerCK : Fld := ⟨0x0880, 576, 64, .ro, 0, fun _ => 0⟩
def meterIncomerDef : ObjDef := ⟨0x0880, 4, 80, 0, 46, 46,
  [meterIncomerFlags, meterIncomerK, meterIncomerEDeliv, meterIncomerERet, meterIncomerENet, meterIncomerESubst, meterIncomerGapNs, meterIncomerCDeliv, meterIncomerCRet, meterIncomerWRet, meterIncomerWDeliv, meterIncomerCK]⟩

/-! meter.status (0x08A0), 1 indices, 24 bytes. -/
def meterStatusRevOut : Fld := ⟨0x08A0, 0, 12, .ro, 1, fun _ => 0⟩
def meterStatusSealOpen : Fld := ⟨0x08A0, 40, 1, .ro, 1, fun _ => 0⟩
def meterStatusTimeBase : Fld := ⟨0x08A0, 38, 2, .ro, 1, fun _ => 1⟩
def meterStatusEvents : Fld := ⟨0x08A0, 32, 6, .ro, 1, fun _ => 0⟩
def meterStatusGap : Fld := ⟨0x08A0, 64, 16, .ro, 1, fun _ => 0⟩
def meterStatusFreq : Fld := ⟨0x08A0, 96, 32, .ro, 1, fun _ => 0⟩
def meterStatusSealUntil : Fld := ⟨0x08A0, 128, 64, .ro, 1, fun _ => 0⟩
def meterStatusDef : ObjDef := ⟨0x08A0, 1, 24, 0, 62, 62,
  [meterStatusRevOut, meterStatusSealOpen, meterStatusTimeBase, meterStatusEvents, meterStatusGap, meterStatusFreq, meterStatusSealUntil]⟩

/-! meter.holdup (0x08B0), 1 indices, 148 bytes. -/
def meterHoldupFreezeK : Fld := ⟨0x08B0, 0, 64, .ro, 0, fun _ => 0⟩
def meterHoldupFreezeUtc : Fld := ⟨0x08B0, 64, 64, .ro, 0, fun _ => 0⟩
def meterHoldupResidual (k : Nat) : Fld := ⟨0x08B0, 128 + 64 * k, 64, .ro, 0, fun _ => 0⟩
def meterHoldupState : Fld := ⟨0x08B0, 1152, 8, .ro, 0, fun _ => 0⟩
def meterHoldupDef : ObjDef := ⟨0x08B0, 1, 148, 0, 40, 40,
  [meterHoldupFreezeK, meterHoldupFreezeUtc, meterHoldupState] ++ (List.range 16).map meterHoldupResidual⟩

/-! meter.gap (0x08C0), 16 indices, 152 bytes. -/
def meterGapKind : Fld := ⟨0x08C0, 0, 8, .ro, 0, fun _ => 0⟩
def meterGapSeq : Fld := ⟨0x08C0, 32, 32, .ro, 0, fun _ => 0⟩
def meterGapCheckUtc : Fld := ⟨0x08C0, 64, 64, .ro, 0, fun _ => 0⟩
def meterGapRestartUtc : Fld := ⟨0x08C0, 128, 64, .ro, 0, fun _ => 0⟩
def meterGapBound (k : Nat) : Fld := ⟨0x08C0, 192 + 64 * k, 64, .ro, 0, fun _ => 0⟩
def meterGapDef : ObjDef := ⟨0x08C0, 16, 152, 0, 40, 40,
  [meterGapKind, meterGapSeq, meterGapCheckUtc, meterGapRestartUtc] ++ (List.range 16).map meterGapBound⟩

/-! meter.pulse (0x08F0), 1 indices, 16 bytes. -/
def meterPulseWidth : Fld := ⟨0x08F0, 16, 8, .rw, 1, fun _ => 30⟩
def meterPulseQuantity : Fld := ⟨0x08F0, 8, 8, .rw, 1, fun _ => 0⟩
def meterPulseDir : Fld := ⟨0x08F0, 1, 1, .rw, 1, fun _ => 0⟩
def meterPulseEnable : Fld := ⟨0x08F0, 0, 1, .rw, 1, fun _ => 0⟩
def meterPulseConstant : Fld := ⟨0x08F0, 32, 32, .rw, 1, fun _ => 1000000⟩
def meterPulseBacklog : Fld := ⟨0x08F0, 64, 16, .ro, 1, fun _ => 0⟩
def meterPulseLost : Fld := ⟨0x08F0, 96, 32, .ro, 1, fun _ => 0⟩
def meterPulseDef : ObjDef := ⟨0x08F0, 1, 16, 8, 40, 8,
  [meterPulseWidth, meterPulseQuantity, meterPulseDir, meterPulseEnable, meterPulseConstant, meterPulseBacklog, meterPulseLost]⟩

end Sys2Proof.Machine
end

