-- ==== Sys2Proof/Machine/ObjectsB.lean ====
section
/-! DEFINITION. The register maps of the objects 0x0C00 to 0x1CFF: one field constant per row of the maps of spec/01, spec/03, spec/08 to spec/15 and spec/18 (R7). -/

namespace Sys2Proof.Machine

/-! bill.config (0x0C00), 1 indices, 8 bytes. -/
def billConfigSubint : Fld := ⟨0x0C00, 16, 8, .rw, 0, fun _ => 1⟩
def billConfigMode : Fld := ⟨0x0C00, 8, 8, .rw, 0, fun _ => 0⟩
def billConfigLength : Fld := ⟨0x0C00, 0, 8, .rw, 0, fun _ => 15⟩
def billConfigGridShift : Fld := ⟨0x0C00, 32, 32, .rw, 0, fun _ => 0⟩
def billConfigDef : ObjDef := ⟨0x0C00, 1, 8, 8, 8, 8,
  [billConfigSubint, billConfigMode, billConfigLength, billConfigGridShift]⟩

/-! bill.cal season (0x0C01), 32 indices, 8 bytes. -/
def calSeasonMonth : Fld := ⟨0x0C01, 8, 8, .rw, 0, fun _ => 0⟩
def calSeasonDay : Fld := ⟨0x0C01, 0, 8, .rw, 0, fun _ => 0⟩
def calSeasonWeek : Fld := ⟨0x0C01, 32, 8, .rw, 0, fun _ => 0⟩
def calSeasonDef : ObjDef := ⟨0x0C01, 32, 8, 8, 8, 8,
  [calSeasonMonth, calSeasonDay, calSeasonWeek]⟩

/-! bill.cal week (0x0C02), 16 indices, 8 bytes. -/
def calWeekDayProfile (k : Nat) : Fld := ⟨0x0C02, 0 + 8 * k, 8, .rw, 0, fun _ => 0⟩
def calWeekDef : ObjDef := ⟨0x0C02, 16, 8, 8, 8, 8,
  (List.range 7).map calWeekDayProfile⟩

/-! bill.cal day (0x0C03), 64 indices, 64 bytes. -/
def calDayMinute (k : Nat) : Fld := ⟨0x0C03, 16 + 32 * k, 16, .rw, 0, fun _ => 65535⟩
def calDayRate (k : Nat) : Fld := ⟨0x0C03, 0 + 32 * k, 8, .rw, 0, fun _ => 0⟩
def calDayDef : ObjDef := ⟨0x0C03, 64, 64, 8, 8, 8,
  (List.range 16).map calDayMinute ++ (List.range 16).map calDayRate⟩

/-! bill.cal special (0x0C04), 128 indices, 8 bytes. -/
def calSpecialYear : Fld := ⟨0x0C04, 16, 16, .rw, 0, fun _ => 0⟩
def calSpecialMonth : Fld := ⟨0x0C04, 8, 8, .rw, 0, fun _ => 0⟩
def calSpecialDay : Fld := ⟨0x0C04, 0, 8, .rw, 0, fun _ => 0⟩
def calSpecialDayProfile : Fld := ⟨0x0C04, 32, 8, .rw, 0, fun _ => 0⟩
def calSpecialDef : ObjDef := ⟨0x0C04, 128, 8, 8, 8, 8,
  [calSpecialYear, calSpecialMonth, calSpecialDay, calSpecialDayProfile]⟩

/-! bill.summary (0x0C10), 16 indices, 24 bytes. -/
def billSummaryDeliv : Fld := ⟨0x0C10, 0, 64, .ro, 0, fun _ => 0⟩
def billSummaryRet : Fld := ⟨0x0C10, 64, 64, .ro, 0, fun _ => 0⟩
def billSummaryDMax : Fld := ⟨0x0C10, 128, 32, .ro, 0, fun _ => 0⟩
def billSummaryFlags : Fld := ⟨0x0C10, 160, 32, .ro, 1, fun _ => 0⟩
def billSummaryDef : ObjDef := ⟨0x0C10, 16, 24, 0, 10, 10,
  [billSummaryDeliv, billSummaryRet, billSummaryDMax, billSummaryFlags]⟩

/-! bill.state (0x0C20), 1 indices, 52 bytes. -/
def billStateSeason : Fld := ⟨0x0C20, 24, 8, .ro, 1, fun _ => 0⟩
def billStateWeek : Fld := ⟨0x0C20, 16, 8, .ro, 1, fun _ => 0⟩
def billStateDay : Fld := ⟨0x0C20, 8, 8, .ro, 1, fun _ => 0⟩
def billStateRate : Fld := ⟨0x0C20, 0, 8, .ro, 1, fun _ => 0⟩
def billStateFlags : Fld := ⟨0x0C20, 32, 32, .ro, 1, fun _ => 0⟩
def billStateBLast : Fld := ⟨0x0C20, 64, 64, .ro, 0, fun _ => 0⟩
def billStateNextBoundary : Fld := ⟨0x0C20, 128, 64, .ro, 1, fun _ => 0⟩
def billStateIntervalStart : Fld := ⟨0x0C20, 192, 64, .ro, 0, fun _ => 0⟩
def billStateCalActiveVer : Fld := ⟨0x0C20, 256, 32, .ro, 0, fun _ => 0⟩
def billStateCalPassiveVer : Fld := ⟨0x0C20, 288, 32, .rw, 0, fun _ => 0⟩
def billStateActivationUtc : Fld := ⟨0x0C20, 320, 64, .ro, 1, fun _ => 0⟩
def billStatePeriod : Fld := ⟨0x0C20, 384, 32, .ro, 0, fun _ => 0⟩
def billStateDef : ObjDef := ⟨0x0C20, 1, 52, 8, 10, 10,
  [billStateSeason, billStateWeek, billStateDay, billStateRate, billStateFlags, billStateBLast, billStateNextBoundary, billStateIntervalStart, billStateCalActiveVer, billStateCalPassiveVer, billStateActivationUtc, billStatePeriod]⟩

/-! bill.now (0x0C30), 16 indices, 12 bytes. -/
def billNowEInt : Fld := ⟨0x0C30, 0, 64, .ro, 1, fun _ => 0⟩
def billNowFlags : Fld := ⟨0x0C30, 64, 8, .ro, 1, fun _ => 0⟩
def billNowDef : ObjDef := ⟨0x0C30, 16, 12, 0, 8, 8,
  [billNowEInt, billNowFlags]⟩

/-! bill.energy (0x0C40), 16 indices, 256 bytes. -/
def billEnergyDeliv (k : Nat) : Fld := ⟨0x0C40, 0 + 64 * k, 64, .ro, 0, fun _ => 0⟩
def billEnergyRet (k : Nat) : Fld := ⟨0x0C40, 1024 + 64 * k, 64, .ro, 0, fun _ => 0⟩
def billEnergyDef : ObjDef := ⟨0x0C40, 16, 256, 0, 8, 8,
  (List.range 16).map billEnergyDeliv ++ (List.range 16).map billEnergyRet⟩

/-! bill.demand (0x0C60), 16 indices, 256 bytes. -/
def billDemandDMax (k : Nat) : Fld := ⟨0x0C60, 0 + 128 * k, 32, .ro, 0, fun _ => 0⟩
def billDemandFlags (k : Nat) : Fld := ⟨0x0C60, 32 + 128 * k, 8, .ro, 0, fun _ => 0⟩
def billDemandEndUtc (k : Nat) : Fld := ⟨0x0C60, 64 + 128 * k, 64, .ro, 0, fun _ => 0⟩
def billDemandDef : ObjDef := ⟨0x0C60, 16, 256, 0, 8, 8,
  (List.range 16).map billDemandDMax ++ (List.range 16).map billDemandFlags ++ (List.range 16).map billDemandEndUtc⟩

/-! bill.period (0x0C80), 192 indices, 256 bytes. -/
def billPeriodDMax (k : Nat) : Fld := ⟨0x0C80, 0 + 128 * k, 32, .ro, 0, fun _ => 0⟩
def billPeriodFlags (k : Nat) : Fld := ⟨0x0C80, 32 + 128 * k, 8, .ro, 0, fun _ => 0⟩
def billPeriodEndUtc (k : Nat) : Fld := ⟨0x0C80, 64 + 128 * k, 64, .ro, 0, fun _ => 0⟩
def billPeriodDef : ObjDef := ⟨0x0C80, 192, 256, 0, 8, 8,
  (List.range 16).map billPeriodDMax ++ (List.range 16).map billPeriodFlags ++ (List.range 16).map billPeriodEndUtc⟩

/-! bill.receipt (0x0D00), 65536 indices, 256 bytes. -/
def billReceiptPart : Fld := ⟨0x0D00, 0, 2048, .ro, 0, fun _ => 0⟩
def billReceiptDef : ObjDef := ⟨0x0D00, 65536, 256, 0, 8, 8,
  [billReceiptPart]⟩

/-! bill.tamper (0x0E00), 24 indices, 24 bytes. -/
def billTamperCount : Fld := ⟨0x0E00, 0, 16, .ro, 0, fun _ => 0⟩
def billTamperDetail : Fld := ⟨0x0E00, 32, 32, .ro, 0, fun _ => 0⟩
def billTamperFirstUtc : Fld := ⟨0x0E00, 64, 64, .ro, 0, fun _ => 0⟩
def billTamperLastUtc : Fld := ⟨0x0E00, 128, 64, .ro, 0, fun _ => 0⟩
def billTamperDef : ObjDef := ⟨0x0E00, 24, 24, 0, 10, 10,
  [billTamperCount, billTamperDetail, billTamperFirstUtc, billTamperLastUtc]⟩

/-! vlink.outlet (0x1000), 12 indices, 20 bytes. -/
def vlOutletFlags : Fld := ⟨0x1000, 16, 6, .rw, 0, fun _ => 34⟩
def vlOutletPrefer : Fld := ⟨0x1000, 8, 8, .rw, 0, fun _ => 0⟩
def vlOutletProtocols : Fld := ⟨0x1000, 0, 8, .rw, 0, fun _ => 7⟩
def vlOutletKind : Fld := ⟨0x1000, 40, 8, .rw, 0, fun _ => 0⟩
def vlOutletAttenMax : Fld := ⟨0x1000, 32, 8, .rw, 0, fun _ => 35⟩
def vlOutletTSlac : Fld := ⟨0x1000, 80, 16, .rw, 0, fun _ => 50⟩
def vlOutletTSetup : Fld := ⟨0x1000, 64, 16, .rw, 0, fun _ => 20⟩
def vlOutletTSeq : Fld := ⟨0x1000, 112, 16, .rw, 0, fun _ => 60⟩
def vlOutletTAuth : Fld := ⟨0x1000, 96, 16, .rw, 0, fun _ => 120⟩
def vlOutletTCc : Fld := ⟨0x1000, 144, 16, .rw, 0, fun _ => 38⟩
def vlOutletTWeld : Fld := ⟨0x1000, 128, 16, .rw, 0, fun _ => 5000⟩
def vlOutletDef : ObjDef := ⟨0x1000, 12, 20, 32, 62, 62,
  [vlOutletFlags, vlOutletPrefer, vlOutletProtocols, vlOutletKind, vlOutletAttenMax, vlOutletTSlac, vlOutletTSetup, vlOutletTSeq, vlOutletTAuth, vlOutletTCc, vlOutletTWeld]⟩

/-! vlink.session (0x1020), 12 indices, 64 bytes. -/
def vlSessionSummary : Fld := ⟨0x1020, 0, 32, .ro, 1, fun _ => 0⟩
def vlSessionRetries : Fld := ⟨0x1020, 56, 8, .ro, 1, fun _ => 0⟩
def vlSessionPilot : Fld := ⟨0x1020, 48, 8, .ro, 1, fun _ => 0⟩
def vlSessionDetail : Fld := ⟨0x1020, 40, 8, .ro, 1, fun _ => 0⟩
def vlSessionReason : Fld := ⟨0x1020, 32, 8, .ro, 1, fun _ => 0⟩
def vlSessionSessionId : Fld := ⟨0x1020, 64, 64, .ro, 1, fun _ => 0⟩
def vlSessionEvccid : Fld := ⟨0x1020, 128, 64, .ro, 1, fun _ => 0⟩
def vlSessionContractId : Fld := ⟨0x1020, 192, 192, .ro, 1, fun _ => 0⟩
def vlSessionTransferStamp : Fld := ⟨0x1020, 384, 64, .ro, 1, fun _ => 0⟩
def vlSessionStateStamp : Fld := ⟨0x1020, 448, 64, .ro, 1, fun _ => 0⟩
def vlSessionDef : ObjDef := ⟨0x1020, 12, 64, 0, 62, 6,
  [vlSessionSummary, vlSessionRetries, vlSessionPilot, vlSessionDetail, vlSessionReason, vlSessionSessionId, vlSessionEvccid, vlSessionContractId, vlSessionTransferStamp, vlSessionStateStamp]⟩

/-! vlink.schedule (0x1040), 12 indices, 200 bytes. -/
def vlScheduleCount : Fld := ⟨0x1040, 0, 8, .rw, 0, fun _ => 0⟩
def vlScheduleStart (k : Nat) : Fld := ⟨0x1040, 96 + 64 * k, 32, .rw, 0, fun _ => 0⟩
def vlSchedulePower (k : Nat) : Fld := ⟨0x1040, 64 + 64 * k, 32, .rw, 0, fun _ => 0⟩
def vlScheduleDef : ObjDef := ⟨0x1040, 12, 200, 4, 38, 38,
  [vlScheduleCount] ++ (List.range 24).map vlScheduleStart ++ (List.range 24).map vlSchedulePower⟩

/-! vlink.trust (0x1060), 16 indices, 160 bytes. -/
def vlTrustAlg : Fld := ⟨0x1060, 0, 8, .rw, 0, fun _ => 0⟩
def vlTrustSubject : Fld := ⟨0x1060, 64, 64, .rw, 0, fun _ => 0⟩
def vlTrustNotAfter : Fld := ⟨0x1060, 128, 64, .rw, 0, fun _ => 0⟩
def vlTrustPubkey : Fld := ⟨0x1060, 192, 1064, .rw, 0, fun _ => 0⟩
def vlTrustDef : ObjDef := ⟨0x1060, 16, 160, 32, 38, 38,
  [vlTrustAlg, vlTrustSubject, vlTrustNotAfter, vlTrustPubkey]⟩

/-! vlink.secc (0x1080), 64 indices, 256 bytes. -/
def vlSeccChunk : Fld := ⟨0x1080, 0, 2048, .rw, 0, fun _ => 0⟩
def vlSeccDef : ObjDef := ⟨0x1080, 64, 256, 32, 62, 62,
  [vlSeccChunk]⟩

/-! safety.state (0x1100), 1 indices, 32 bytes. -/
def safetyStateInputs : Fld := ⟨0x1100, 16, 5, .ro, 1, fun _ => 0⟩
def safetyStateHold : Fld := ⟨0x1100, 15, 1, .ro, 1, fun _ => 0⟩
def safetyStateStuck : Fld := ⟨0x1100, 14, 1, .ro, 1, fun _ => 0⟩
def safetyStateDisc : Fld := ⟨0x1100, 12, 2, .ro, 1, fun _ => 0⟩
def safetyStateChanFault : Fld := ⟨0x1100, 10, 2, .ro, 1, fun _ => 0⟩
def safetyStateSoFault : Fld := ⟨0x1100, 8, 2, .ro, 1, fun _ => 0⟩
def safetyStateSoOn : Fld := ⟨0x1100, 6, 2, .ro, 1, fun _ => 0⟩
def safetyStateSf2 : Fld := ⟨0x1100, 5, 1, .ro, 1, fun _ => 0⟩
def safetyStateSf1 : Fld := ⟨0x1100, 4, 1, .ro, 1, fun _ => 0⟩
def safetyStateCommitted : Fld := ⟨0x1100, 3, 1, .ro, 0, fun _ => 0⟩
def safetyStatePermit : Fld := ⟨0x1100, 32, 12, .ro, 1, fun _ => 0⟩
def safetyStateStopped : Fld := ⟨0x1100, 64, 12, .ro, 1, fun _ => 0⟩
def safetyStateWelded : Fld := ⟨0x1100, 96, 12, .ro, 1, fun _ => 0⟩
def safetyStateUnlock : Fld := ⟨0x1100, 128, 12, .ro, 1, fun _ => 0⟩
def safetyStateXcmp : Fld := ⟨0x1100, 160, 32, .ro, 1, fun _ => 0⟩
def safetyStateSdMismatch : Fld := ⟨0x1100, 192, 32, .ro, 1, fun _ => 0⟩
def safetyStateSdAbsent : Fld := ⟨0x1100, 224, 32, .ro, 1, fun _ => 0⟩
def safetyStateDef : ObjDef := ⟨0x1100, 1, 32, 0, 62, 22,
  [safetyStateInputs, safetyStateHold, safetyStateStuck, safetyStateDisc, safetyStateChanFault, safetyStateSoFault, safetyStateSoOn, safetyStateSf2, safetyStateSf1, safetyStateCommitted, safetyStatePermit, safetyStateStopped, safetyStateWelded, safetyStateUnlock, safetyStateXcmp, safetyStateSdMismatch, safetyStateSdAbsent]⟩

/-! safety.param (0x1110), 2 indices, 16 bytes. -/
def safetyParamNFilt : Fld := ⟨0x1110, 16, 8, .rw, 0, fun _ => 4⟩
def safetyParamTCd : Fld := ⟨0x1110, 0, 16, .rw, 0, fun _ => 20⟩
def safetyParamSo0Map : Fld := ⟨0x1110, 56, 2, .rw, 0, fun _ => 3⟩
def safetyParamSo1Map : Fld := ⟨0x1110, 48, 2, .rw, 0, fun _ => 1⟩
def safetyParamGuardReset : Fld := ⟨0x1110, 32, 1, .rw, 0, fun _ => 0⟩
def safetyParamBatStage1 : Fld := ⟨0x1110, 88, 8, .rw, 0, fun _ => 255⟩
def safetyParamBatStage0 : Fld := ⟨0x1110, 80, 8, .rw, 0, fun _ => 255⟩
def safetyParamGuardMask : Fld := ⟨0x1110, 64, 12, .rw, 0, fun _ => 4095⟩
def safetyParamCrc : Fld := ⟨0x1110, 96, 32, .ro, 0, fun _ => 0⟩
def safetyParamDef : ObjDef := ⟨0x1110, 2, 16, 16, 52, 52,
  [safetyParamNFilt, safetyParamTCd, safetyParamSo0Map, safetyParamSo1Map, safetyParamGuardReset, safetyParamBatStage1, safetyParamBatStage0, safetyParamGuardMask, safetyParamCrc]⟩

/-! safety.outlet (0x1120), 24 indices, 8 bytes. -/
def safetyOutletCanCh : Fld := ⟨0x1120, 0, 8, .rw, 0, fun _ => 255⟩
def safetyOutletStage1 : Fld := ⟨0x1120, 48, 8, .rw, 0, fun _ => 255⟩
def safetyOutletStage0 : Fld := ⟨0x1120, 40, 8, .rw, 0, fun _ => 255⟩
def safetyOutletOutletHead : Fld := ⟨0x1120, 32, 8, .rw, 0, fun _ => 255⟩
def safetyOutletDef : ObjDef := ⟨0x1120, 24, 8, 16, 52, 52,
  [safetyOutletCanCh, safetyOutletStage1, safetyOutletStage0, safetyOutletOutletHead]⟩

/-! safety.so (0x1140), 2 indices, 8 bytes. -/
def safetySoFault : Fld := ⟨0x1140, 7, 1, .ro, 1, fun _ => 0⟩
def safetySoCond : Fld := ⟨0x1140, 4, 3, .ro, 1, fun _ => 0⟩
def safetySoHfb : Fld := ⟨0x1140, 3, 1, .ro, 1, fun _ => 0⟩
def safetySoLfb : Fld := ⟨0x1140, 2, 1, .ro, 1, fun _ => 0⟩
def safetySoHs : Fld := ⟨0x1140, 1, 1, .ro, 1, fun _ => 0⟩
def safetySoLs : Fld := ⟨0x1140, 0, 1, .ro, 1, fun _ => 0⟩
def safetySoTests : Fld := ⟨0x1140, 32, 32, .ro, 1, fun _ => 0⟩
def safetySoDef : ObjDef := ⟨0x1140, 2, 8, 0, 62, 62,
  [safetySoFault, safetySoCond, safetySoHfb, safetySoLfb, safetySoHs, safetySoLs, safetySoTests]⟩

/-! safety.trip (0x1150), 64 indices, 24 bytes. -/
def safetyTripStamp : Fld := ⟨0x1150, 0, 64, .ro, 0, fun _ => 0⟩
def safetyTripUtc : Fld := ⟨0x1150, 64, 64, .ro, 0, fun _ => 0⟩
def safetyTripOutlet : Fld := ⟨0x1150, 144, 8, .ro, 0, fun _ => 0⟩
def safetyTripCause : Fld := ⟨0x1150, 136, 8, .ro, 0, fun _ => 0⟩
def safetyTripFunction : Fld := ⟨0x1150, 128, 8, .ro, 0, fun _ => 0⟩
def safetyTripSeq : Fld := ⟨0x1150, 160, 32, .ro, 0, fun _ => 0⟩
def safetyTripDef : ObjDef := ⟨0x1150, 64, 24, 0, 50, 50,
  [safetyTripStamp, safetyTripUtc, safetyTripOutlet, safetyTripCause, safetyTripFunction, safetyTripSeq]⟩

/-! batt.config (0x1200), 1 indices, 16 bytes. -/
def battConfigNStr : Fld := ⟨0x1200, 8, 8, .rw, 0, fun _ => 0⟩
def battConfigUnresFrac : Fld := ⟨0x1200, 0, 8, .rw, 0, fun _ => 50⟩
def battConfigQDef : Fld := ⟨0x1200, 56, 8, .rw, 0, fun _ => 80⟩
def battConfigTRest : Fld := ⟨0x1200, 48, 8, .rw, 0, fun _ => 30⟩
def battConfigConvEff : Fld := ⟨0x1200, 32, 16, .rw, 0, fun _ => 9800⟩
def battConfigPConv : Fld := ⟨0x1200, 64, 32, .rw, 0, fun _ => 0⟩
def battConfigBmsLag : Fld := ⟨0x1200, 112, 16, .rw, 0, fun _ => 0⟩
def battConfigDef : ObjDef := ⟨0x1200, 1, 16, 32, 62, 62,
  [battConfigNStr, battConfigUnresFrac, battConfigQDef, battConfigTRest, battConfigConvEff, battConfigPConv, battConfigBmsLag]⟩

/-! batt.ocv (0x1201), 1 indices, 168 bytes. -/
def battOcvSp (k : Nat) : Fld := ⟨0x1201, 0 + 16 * k, 16, .rw, 0, fun _ => 0⟩
def battOcvTp (k : Nat) : Fld := ⟨0x1201, 256 + 16 * k, 16, .rw, 0, fun _ => 0⟩
def battOcvOcv (k : Nat) : Fld := ⟨0x1201, 320 + 16 * k, 16, .rw, 0, fun _ => 0⟩
def battOcvDef : ObjDef := ⟨0x1201, 1, 168, 32, 36, 36,
  (List.range 16).map battOcvSp ++ (List.range 4).map battOcvTp ++ (List.range 64).map battOcvOcv⟩

/-! batt.string (0x1210), 8 indices, 32 bytes. -/
def battStringCanCh : Fld := ⟨0x1210, 16, 8, .rw, 0, fun _ => 0⟩
def battStringNMod : Fld := ⟨0x1210, 8, 8, .rw, 0, fun _ => 0⟩
def battStringHead : Fld := ⟨0x1210, 0, 8, .rw, 0, fun _ => 255⟩
def battStringChan : Fld := ⟨0x1210, 32, 8, .rw, 0, fun _ => 0⟩
def battStringQNom : Fld := ⟨0x1210, 64, 32, .rw, 0, fun _ => 0⟩
def battStringR0Nom : Fld := ⟨0x1210, 96, 32, .rw, 0, fun _ => 0⟩
def battStringR1Nom : Fld := ⟨0x1210, 128, 32, .rw, 0, fun _ => 0⟩
def battStringTauNom : Fld := ⟨0x1210, 176, 16, .rw, 0, fun _ => 300⟩
def battStringCChg : Fld := ⟨0x1210, 168, 8, .rw, 0, fun _ => 5⟩
def battStringCDis : Fld := ⟨0x1210, 160, 8, .rw, 0, fun _ => 10⟩
def battStringVModMin : Fld := ⟨0x1210, 208, 16, .rw, 0, fun _ => 0⟩
def battStringVModMax : Fld := ⟨0x1210, 192, 16, .rw, 0, fun _ => 0⟩
def battStringTMin : Fld := ⟨0x1210, 248, 8, .rw, 0, fun _ => 236⟩
def battStringTChgMin : Fld := ⟨0x1210, 240, 8, .rw, 0, fun _ => 0⟩
def battStringTMax : Fld := ⟨0x1210, 232, 8, .rw, 0, fun _ => 55⟩
def battStringDef : ObjDef := ⟨0x1210, 8, 32, 32, 62, 62,
  [battStringCanCh, battStringNMod, battStringHead, battStringChan, battStringQNom, battStringR0Nom, battStringR1Nom, battStringTauNom, battStringCChg, battStringCDis, battStringVModMin, battStringVModMax, battStringTMin, battStringTChgMin, battStringTMax]⟩

/-! batt.state (0x1220), 8 indices, 44 bytes. -/
def battStateFlags : Fld := ⟨0x1220, 8, 8, .ro, 1, fun _ => 0⟩
def battStateBasis : Fld := ⟨0x1220, 0, 8, .ro, 1, fun _ => 0⟩
def battStateSoc : Fld := ⟨0x1220, 48, 16, .ro, 1, fun _ => 0⟩
def battStateSocV : Fld := ⟨0x1220, 32, 16, .ro, 1, fun _ => 0⟩
def battStateSocC : Fld := ⟨0x1220, 80, 16, .ro, 1, fun _ => 0⟩
def battStateI : Fld := ⟨0x1220, 96, 32, .ro, 1, fun _ => 0⟩
def battStateQ : Fld := ⟨0x1220, 128, 32, .ro, 1, fun _ => 0⟩
def battStateR0 : Fld := ⟨0x1220, 160, 32, .ro, 1, fun _ => 0⟩
def battStateR1 : Fld := ⟨0x1220, 192, 32, .ro, 1, fun _ => 0⟩
def battStateTau : Fld := ⟨0x1220, 240, 16, .ro, 1, fun _ => 0⟩
def battStateIChg : Fld := ⟨0x1220, 256, 32, .ro, 1, fun _ => 0⟩
def battStateIDis : Fld := ⟨0x1220, 288, 32, .ro, 1, fun _ => 0⟩
def battStateVLo : Fld := ⟨0x1220, 336, 16, .ro, 1, fun _ => 0⟩
def battStateVHi : Fld := ⟨0x1220, 320, 16, .ro, 1, fun _ => 0⟩
def battStateDef : ObjDef := ⟨0x1220, 8, 44, 0, 62, 4,
  [battStateFlags, battStateBasis, battStateSoc, battStateSocV, battStateSocC, battStateI, battStateQ, battStateR0, battStateR1, battStateTau, battStateIChg, battStateIDis, battStateVLo, battStateVHi]⟩

/-! batt.est_state (0x1230), 1 indices, 216 bytes. -/
def battEstVersion : Fld := ⟨0x1230, 0, 16, .rw, 1, fun _ => 1⟩
def battEstCount : Fld := ⟨0x1230, 16, 8, .rw, 1, fun _ => 0⟩
def battEstSeq : Fld := ⟨0x1230, 32, 32, .rw, 1, fun _ => 0⟩
def battEstSerial (k : Nat) : Fld := ⟨0x1230, 128 + 192 * k, 64, .rw, 1, fun _ => 0⟩
def battEstQ (k : Nat) : Fld := ⟨0x1230, 192 + 192 * k, 32, .rw, 1, fun _ => 0⟩
def battEstR0 (k : Nat) : Fld := ⟨0x1230, 224 + 192 * k, 32, .rw, 1, fun _ => 0⟩
def battEstR1 (k : Nat) : Fld := ⟨0x1230, 256 + 192 * k, 32, .rw, 1, fun _ => 0⟩
def battEstTau (k : Nat) : Fld := ⟨0x1230, 288 + 192 * k, 16, .rw, 1, fun _ => 0⟩
def battEstNLearn (k : Nat) : Fld := ⟨0x1230, 304 + 192 * k, 16, .rw, 1, fun _ => 0⟩
def battEstDigest : Fld := ⟨0x1230, 1664, 64, .rw, 1, fun _ => 0⟩
def battEstDef : ObjDef := ⟨0x1230, 1, 216, 4, 36, 36,
  [battEstVersion, battEstCount, battEstSeq, battEstDigest] ++ (List.range 8).map battEstSerial ++ (List.range 8).map battEstQ ++ (List.range 8).map battEstR0 ++ (List.range 8).map battEstR1 ++ (List.range 8).map battEstTau ++ (List.range 8).map battEstNLearn⟩

/-! batt.learn (0x1240), 8 indices, 32 bytes. -/
def battLearnSeq : Fld := ⟨0x1240, 0, 32, .ro, 1, fun _ => 0⟩
def battLearnLastDq : Fld := ⟨0x1240, 40, 8, .ro, 1, fun _ => 0⟩
def battLearnState : Fld := ⟨0x1240, 32, 8, .ro, 1, fun _ => 0⟩
def battLearnQLearn : Fld := ⟨0x1240, 64, 32, .ro, 1, fun _ => 0⟩
def battLearnQPrev : Fld := ⟨0x1240, 96, 32, .ro, 1, fun _ => 0⟩
def battLearnAh : Fld := ⟨0x1240, 128, 32, .ro, 1, fun _ => 0⟩
def battLearnDsoc : Fld := ⟨0x1240, 160, 16, .ro, 1, fun _ => 0⟩
def battLearnStamp : Fld := ⟨0x1240, 192, 64, .ro, 1, fun _ => 0⟩
def battLearnDef : ObjDef := ⟨0x1240, 8, 32, 0, 4, 4,
  [battLearnSeq, battLearnLastDq, battLearnState, battLearnQLearn, battLearnQPrev, battLearnAh, battLearnDsoc, battLearnStamp]⟩

/-! batt.summary (0x1250), 1 indices, 20 bytes. -/
def battSummaryRestored : Fld := ⟨0x1250, 8, 8, .ro, 1, fun _ => 0⟩
def battSummaryLastRefusal : Fld := ⟨0x1250, 0, 8, .ro, 1, fun _ => 0⟩
def battSummaryChgLim : Fld := ⟨0x1250, 32, 32, .ro, 1, fun _ => 0⟩
def battSummaryDisLim : Fld := ⟨0x1250, 64, 32, .ro, 1, fun _ => 0⟩
def battSummaryEstSeq : Fld := ⟨0x1250, 96, 32, .ro, 1, fun _ => 0⟩
def battSummaryRefused : Fld := ⟨0x1250, 128, 32, .ro, 1, fun _ => 0⟩
def battSummaryDef : ObjDef := ⟨0x1250, 1, 20, 0, 62, 4,
  [battSummaryRestored, battSummaryLastRefusal, battSummaryChgLim, battSummaryDisLim, battSummaryEstSeq, battSummaryRefused]⟩

/-! lane.state (0x1300), 16 indices, 16 bytes. -/
def laneStatePreset : Fld := ⟨0x1300, 16, 8, .ro, 1, fun _ => 0⟩
def laneStateInverted : Fld := ⟨0x1300, 15, 1, .ro, 1, fun _ => 0⟩
def laneStateGen : Fld := ⟨0x1300, 8, 7, .ro, 1, fun _ => 0⟩
def laneStateState : Fld := ⟨0x1300, 0, 8, .ro, 1, fun _ => 0⟩
def laneStateCodeErrors : Fld := ⟨0x1300, 32, 32, .ro, 1, fun _ => 0⟩
def laneStateRetrains : Fld := ⟨0x1300, 64, 32, .ro, 1, fun _ => 0⟩
def laneStateFramesLost : Fld := ⟨0x1300, 96, 32, .ro, 1, fun _ => 0⟩
def laneStateDef : ObjDef := ⟨0x1300, 16, 16, 0, 38, 38,
  [laneStatePreset, laneStateInverted, laneStateGen, laneStateState, laneStateCodeErrors, laneStateRetrains, laneStateFramesLost]⟩

/-! avenue.config (0x1310), 6 indices, 4 bytes. -/
def avenueConfigNExp : Fld := ⟨0x1310, 8, 8, .rw, 0, fun _ => 0⟩
def avenueConfigGenMax : Fld := ⟨0x1310, 0, 8, .rw, 0, fun _ => 3⟩
def avenueConfigDef : ObjDef := ⟨0x1310, 6, 4, 32, 38, 38,
  [avenueConfigNExp, avenueConfigGenMax]⟩

/-! avenue.state (0x1320), 6 indices, 20 bytes. -/
def avenueStateN : Fld := ⟨0x1320, 16, 8, .ro, 1, fun _ => 0⟩
def avenueStateDegraded : Fld := ⟨0x1320, 15, 1, .ro, 1, fun _ => 0⟩
def avenueStateGen : Fld := ⟨0x1320, 12, 3, .ro, 1, fun _ => 0⟩
def avenueStateMode : Fld := ⟨0x1320, 8, 4, .ro, 1, fun _ => 15⟩
def avenueStateSchedVer : Fld := ⟨0x1320, 0, 8, .ro, 1, fun _ => 0⟩
def avenueStateUnscheduled : Fld := ⟨0x1320, 32, 8, .ro, 1, fun _ => 0⟩
def avenueStateSplitSince : Fld := ⟨0x1320, 64, 64, .ro, 1, fun _ => 0⟩
def avenueStateLate : Fld := ⟨0x1320, 128, 32, .ro, 1, fun _ => 0⟩
def avenueStateDef : ObjDef := ⟨0x1320, 6, 20, 0, 62, 62,
  [avenueStateN, avenueStateDegraded, avenueStateGen, avenueStateMode, avenueStateSchedVer, avenueStateUnscheduled, avenueStateSplitSince, avenueStateLate]⟩

/-! head.record (0x1330), 48 indices, 96 bytes. -/
def headRecordRecVer : Fld := ⟨0x1330, 0, 16, .ro, 1, fun _ => 0⟩
def headRecordType : Fld := ⟨0x1330, 16, 8, .ro, 1, fun _ => 0⟩
def headRecordGenMax : Fld := ⟨0x1330, 24, 8, .ro, 1, fun _ => 0⟩
def headRecordHeadId : Fld := ⟨0x1330, 32, 64, .ro, 1, fun _ => 0⟩
def headRecordFwVer : Fld := ⟨0x1330, 96, 32, .ro, 1, fun _ => 0⟩
def headRecordTSamp : Fld := ⟨0x1330, 128, 16, .ro, 1, fun _ => 0⟩
def headRecordTPwm : Fld := ⟨0x1330, 144, 16, .ro, 1, fun _ => 0⟩
def headRecordUpBlocks : Fld := ⟨0x1330, 160, 8, .ro, 1, fun _ => 0⟩
def headRecordPhases : Fld := ⟨0x1330, 168, 8, .ro, 1, fun _ => 0⟩
def headRecordMode : Fld := ⟨0x1330, 176, 8, .ro, 1, fun _ => 0⟩
def headRecordDigest : Fld := ⟨0x1330, 256, 512, .ro, 1, fun _ => 0⟩
def headRecordDef : ObjDef := ⟨0x1330, 48, 96, 0, 62, 62,
  [headRecordRecVer, headRecordType, headRecordGenMax, headRecordHeadId, headRecordFwVer, headRecordTSamp, headRecordTPwm, headRecordUpBlocks, headRecordPhases, headRecordMode, headRecordDigest]⟩

/-! lane.host (0x1380), 4 indices, 16 bytes. -/
def laneHostGenMax : Fld := ⟨0x1380, 8, 8, .rw, 0, fun _ => 3⟩
def laneHostMode : Fld := ⟨0x1380, 0, 8, .rw, 0, fun _ => 0⟩
def laneHostMac : Fld := ⟨0x1380, 64, 48, .rw, 0, fun _ => 0⟩
def laneHostDef : ObjDef := ⟨0x1380, 4, 16, 32, 32, 32,
  [laneHostGenMax, laneHostMode, laneHostMac]⟩

/-! node.entry (0x1400), 1024 indices, 192 bytes. -/
def nodeEntryKind : Fld := ⟨0x1400, 0, 8, .rw, 0, fun _ => 0⟩
def nodeEntryMedium : Fld := ⟨0x1400, 8, 8, .ro, 1, fun _ => 0⟩
def nodeEntryChan : Fld := ⟨0x1400, 16, 8, .rw, 0, fun _ => 0⟩
def nodeEntryAddr : Fld := ⟨0x1400, 24, 8, .rw, 0, fun _ => 0⟩
def nodeEntryAutoReconcile : Fld := ⟨0x1400, 32, 1, .rw, 0, fun _ => 0⟩
def nodeEntryEui64 : Fld := ⟨0x1400, 64, 64, .rw, 0, fun _ => 0⟩
def nodeEntryPskSlot : Fld := ⟨0x1400, 128, 16, .rw, 0, fun _ => 65535⟩
def nodeEntryShortAddr : Fld := ⟨0x1400, 144, 16, .ro, 0, fun _ => 65535⟩
def nodeEntryFlags : Fld := ⟨0x1400, 176, 8, .ro, 1, fun _ => 0⟩
def nodeEntryCause : Fld := ⟨0x1400, 168, 8, .ro, 1, fun _ => 0⟩
def nodeEntryState : Fld := ⟨0x1400, 160, 8, .ro, 1, fun _ => 0⟩
def nodeEntrySince : Fld := ⟨0x1400, 192, 64, .ro, 1, fun _ => 0⟩
def nodeEntryLastHeard : Fld := ⟨0x1400, 256, 64, .ro, 1, fun _ => 0⟩
def nodeEntryBlobLen : Fld := ⟨0x1400, 320, 16, .ro, 0, fun _ => 0⟩
def nodeEntryExpected : Fld := ⟨0x1400, 384, 512, .rw, 0, fun _ => 0⟩
def nodeEntryReported : Fld := ⟨0x1400, 896, 512, .ro, 1, fun _ => 0⟩
def nodeEntryMismatches : Fld := ⟨0x1400, 1408, 32, .ro, 1, fun _ => 0⟩
def nodeEntryLosses : Fld := ⟨0x1400, 1440, 32, .ro, 1, fun _ => 0⟩
def nodeEntryDef : ObjDef := ⟨0x1400, 1024, 192, 36, 38, 38,
  [nodeEntryKind, nodeEntryMedium, nodeEntryChan, nodeEntryAddr, nodeEntryAutoReconcile, nodeEntryEui64, nodeEntryPskSlot, nodeEntryShortAddr, nodeEntryFlags, nodeEntryCause, nodeEntryState, nodeEntrySince, nodeEntryLastHeard, nodeEntryBlobLen, nodeEntryExpected, nodeEntryReported, nodeEntryMismatches, nodeEntryLosses]⟩

/-! node.blob (0x1401), 8192 indices, 256 bytes. -/
def nodeBlobPart : Fld := ⟨0x1401, 0, 2048, .rw, 0, fun _ => 0⟩
def nodeBlobDef : ObjDef := ⟨0x1401, 8192, 256, 36, 32, 32,
  [nodeBlobPart]⟩

/-! node.summary (0x1402), 1 indices, 16 bytes. -/
def nodeSummaryReconcileS : Fld := ⟨0x1402, 0, 16, .rw, 0, fun _ => 10⟩
def nodeSummaryCount (k : Nat) : Fld := ⟨0x1402, 32 + 16 * k, 16, .ro, 1, fun _ => 0⟩
def nodeSummaryDef : ObjDef := ⟨0x1402, 1, 16, 32, 62, 62,
  [nodeSummaryReconcileS] ++ (List.range 5).map nodeSummaryCount⟩

/-! can.config (0x1440), 4 indices, 16 bytes. -/
def canConfigRetries : Fld := ⟨0x1440, 16, 8, .rw, 0, fun _ => 8⟩
def canConfigFdMode : Fld := ⟨0x1440, 8, 8, .rw, 0, fun _ => 0⟩
def canConfigAutoRecover : Fld := ⟨0x1440, 1, 1, .rw, 0, fun _ => 1⟩
def canConfigEnable : Fld := ⟨0x1440, 0, 1, .rw, 0, fun _ => 0⟩
def canConfigNRate : Fld := ⟨0x1440, 32, 32, .rw, 0, fun _ => 500000⟩
def canConfigDRate : Fld := ⟨0x1440, 64, 32, .rw, 0, fun _ => 2000000⟩
def canConfigNSp : Fld := ⟨0x1440, 104, 8, .rw, 0, fun _ => 80⟩
def canConfigDSp : Fld := ⟨0x1440, 96, 8, .rw, 0, fun _ => 75⟩
def canConfigDef : ObjDef := ⟨0x1440, 4, 16, 32, 36, 36,
  [canConfigRetries, canConfigFdMode, canConfigAutoRecover, canConfigEnable, canConfigNRate, canConfigDRate, canConfigNSp, canConfigDSp]⟩

/-! can.state (0x1444), 4 indices, 32 bytes. -/
def canStateTec : Fld := ⟨0x1444, 16, 16, .ro, 1, fun _ => 0⟩
def canStateRec : Fld := ⟨0x1444, 8, 8, .ro, 1, fun _ => 0⟩
def canStateState : Fld := ⟨0x1444, 0, 8, .ro, 1, fun _ => 0⟩
def canStateBusOffs : Fld := ⟨0x1444, 32, 32, .ro, 1, fun _ => 0⟩
def canStateRx : Fld := ⟨0x1444, 64, 32, .ro, 1, fun _ => 0⟩
def canStateTx : Fld := ⟨0x1444, 96, 32, .ro, 1, fun _ => 0⟩
def canStateErrors : Fld := ⟨0x1444, 128, 32, .ro, 1, fun _ => 0⟩
def canStateStrangers : Fld := ⟨0x1444, 160, 32, .ro, 1, fun _ => 0⟩
def canStateHpOverruns : Fld := ⟨0x1444, 192, 32, .ro, 1, fun _ => 0⟩
def canStateLockTimeouts : Fld := ⟨0x1444, 224, 32, .ro, 1, fun _ => 0⟩
def canStateDef : ObjDef := ⟨0x1444, 4, 32, 0, 38, 38,
  [canStateTec, canStateRec, canStateState, canStateBusOffs, canStateRx, canStateTx, canStateErrors, canStateStrangers, canStateHpOverruns, canStateLockTimeouts]⟩

/-! can.filter (0x1448), 64 indices, 16 bytes. -/
def canFilterFId : Fld := ⟨0x1448, 0, 29, .rw, 0, fun _ => 0⟩
def canFilterMask : Fld := ⟨0x1448, 32, 29, .rw, 0, fun _ => 0⟩
def canFilterOwner : Fld := ⟨0x1448, 86, 2, .rw, 0, fun _ => 0⟩
def canFilterHp : Fld := ⟨0x1448, 85, 1, .rw, 0, fun _ => 0⟩
def canFilterFdOnly : Fld := ⟨0x1448, 84, 1, .rw, 0, fun _ => 0⟩
def canFilterIde : Fld := ⟨0x1448, 83, 1, .rw, 0, fun _ => 0⟩
def canFilterFirst : Fld := ⟨0x1448, 70, 6, .rw, 0, fun _ => 32⟩
def canFilterLast : Fld := ⟨0x1448, 64, 6, .rw, 0, fun _ => 32⟩
def canFilterOverruns : Fld := ⟨0x1448, 96, 32, .ro, 1, fun _ => 0⟩
def canFilterDef : ObjDef := ⟨0x1448, 64, 16, 32, 36, 36,
  [canFilterFId, canFilterMask, canFilterOwner, canFilterHp, canFilterFdOnly, canFilterIde, canFilterFirst, canFilterLast, canFilterOverruns]⟩

/-! mesh.config (0x1480), 1 indices, 16 bytes. -/
def meshConfigBand : Fld := ⟨0x1480, 16, 8, .rw, 0, fun _ => 0⟩
def meshConfigCoupling : Fld := ⟨0x1480, 8, 8, .rw, 0, fun _ => 3⟩
def meshConfigGmkDays : Fld := ⟨0x1480, 0, 8, .rw, 0, fun _ => 30⟩
def meshConfigPanId : Fld := ⟨0x1480, 32, 16, .rw, 0, fun _ => 0⟩
def meshConfigTmTtl : Fld := ⟨0x1480, 80, 16, .rw, 0, fun _ => 120⟩
def meshConfigHbMesh : Fld := ⟨0x1480, 64, 16, .rw, 0, fun _ => 60⟩
def meshConfigKWeights : Fld := ⟨0x1480, 96, 32, .rw, 0, fun _ => 168103682⟩
def meshConfigDef : ObjDef := ⟨0x1480, 1, 16, 32, 36, 36,
  [meshConfigBand, meshConfigCoupling, meshConfigGmkDays, meshConfigPanId, meshConfigTmTtl, meshConfigHbMesh, meshConfigKWeights]⟩

/-! mesh.state (0x1484), 1 indices, 16 bytes. -/
def meshStateJoined : Fld := ⟨0x1484, 0, 16, .ro, 1, fun _ => 0⟩
def meshStateStrangers : Fld := ⟨0x1484, 16, 16, .ro, 1, fun _ => 0⟩
def meshStateTmRefresh : Fld := ⟨0x1484, 32, 32, .ro, 1, fun _ => 0⟩
def meshStateFecFail : Fld := ⟨0x1484, 64, 32, .ro, 1, fun _ => 0⟩
def meshStateRepairs : Fld := ⟨0x1484, 96, 32, .ro, 1, fun _ => 0⟩
def meshStateDef : ObjDef := ⟨0x1484, 1, 16, 0, 38, 38,
  [meshStateJoined, meshStateStrangers, meshStateTmRefresh, meshStateFecFail, meshStateRepairs]⟩

/-! mesh.neighbour (0x1490), 960 indices, 32 bytes. -/
def meshNbrNode : Fld := ⟨0x1490, 0, 10, .ro, 1, fun _ => 0⟩
def meshNbrLqi : Fld := ⟨0x1490, 48, 16, .ro, 1, fun _ => 0⟩
def meshNbrDegraded : Fld := ⟨0x1490, 40, 8, .ro, 1, fun _ => 0⟩
def meshNbrPhase : Fld := ⟨0x1490, 32, 8, .ro, 1, fun _ => 0⟩
def meshNbrTmSet : Fld := ⟨0x1490, 64, 64, .ro, 1, fun _ => 0⟩
def meshNbrTmRx : Fld := ⟨0x1490, 128, 48, .ro, 1, fun _ => 0⟩
def meshNbrTmTx : Fld := ⟨0x1490, 192, 48, .ro, 1, fun _ => 0⟩
def meshNbrDef : ObjDef := ⟨0x1490, 960, 32, 0, 32, 32,
  [meshNbrNode, meshNbrLqi, meshNbrDegraded, meshNbrPhase, meshNbrTmSet, meshNbrTmRx, meshNbrTmTx]⟩

/-! durable.config (0x1800), 1 indices, 4 bytes. -/
def durableConfigPreApprove : Fld := ⟨0x1800, 0, 3, .rw, 0, fun _ => 0⟩
def durableConfigDef : ObjDef := ⟨0x1800, 1, 4, 32, 38, 38,
  [durableConfigPreApprove]⟩

/-! durable.spares (0x1810), 1 indices, 20 bytes. -/
def sparesAwaiting : Fld := ⟨0x1810, 24, 1, .ro, 1, fun _ => 0⟩
def sparesFailed : Fld := ⟨0x1810, 16, 8, .ro, 1, fun _ => 0⟩
def sparesStandsFor : Fld := ⟨0x1810, 8, 8, .ro, 1, fun _ => 255⟩
def sparesExhausted : Fld := ⟨0x1810, 0, 8, .ro, 1, fun _ => 0⟩
def sparesLost : Fld := ⟨0x1810, 40, 6, .ro, 1, fun _ => 0⟩
def sparesWarn : Fld := ⟨0x1810, 32, 8, .ro, 1, fun _ => 0⟩
def sparesFlashLeft : Fld := ⟨0x1810, 64, 16, .ro, 1, fun _ => 64⟩
def sparesMramLeft : Fld := ⟨0x1810, 80, 16, .ro, 1, fun _ => 512⟩
def sparesHostnvLeft : Fld := ⟨0x1810, 96, 8, .ro, 1, fun _ => 32⟩
def sparesSlotsLeft : Fld := ⟨0x1810, 104, 8, .ro, 1, fun _ => 8⟩
def sparesSramMin : Fld := ⟨0x1810, 112, 8, .ro, 1, fun _ => 2⟩
def sparesAvenuesSplit : Fld := ⟨0x1810, 128, 6, .ro, 1, fun _ => 0⟩
def sparesDef : ObjDef := ⟨0x1810, 1, 20, 0, 62, 38,
  [sparesAwaiting, sparesFailed, sparesStandsFor, sparesExhausted, sparesLost, sparesWarn, sparesFlashLeft, sparesMramLeft, sparesHostnvLeft, sparesSlotsLeft, sparesSramMin, sparesAvenuesSplit]⟩

/-! durable.ecc (0x1820), 39 indices, 32 bytes. -/
def eccCorrBlocks : Fld := ⟨0x1820, 0, 32, .ro, 0, fun _ => 0⟩
def eccCorrBytes : Fld := ⟨0x1820, 32, 32, .ro, 0, fun _ => 0⟩
def eccUncorr : Fld := ⟨0x1820, 64, 32, .ro, 0, fun _ => 0⟩
def eccMode : Fld := ⟨0x1820, 96, 8, .ro, 1, fun i => if i = 14 ∨ i = 16 ∨ i = 38 then 2 else 1⟩
def eccLastUncorrTime : Fld := ⟨0x1820, 128, 64, .ro, 0, fun _ => 0⟩
def eccLastUncorrLoc : Fld := ⟨0x1820, 192, 32, .ro, 0, fun _ => 0⟩
def eccDef : ObjDef := ⟨0x1820, 39, 32, 0, 38, 38,
  [eccCorrBlocks, eccCorrBytes, eccUncorr, eccMode, eccLastUncorrTime, eccLastUncorrLoc]⟩

/-! durable.wear (0x1830), 1 indices, 40 bytes. -/
def wearBytes30d : Fld := ⟨0x1830, 0, 64, .ro, 0, fun _ => 0⟩
def wearPhysTotal : Fld := ⟨0x1830, 64, 64, .ro, 0, fun _ => 0⟩
def wearEraseMax : Fld := ⟨0x1830, 128, 32, .ro, 0, fun _ => 0⟩
def wearEraseMin : Fld := ⟨0x1830, 160, 32, .ro, 0, fun _ => 0⟩
def wearOpenToday : Fld := ⟨0x1830, 192, 32, .ro, 0, fun _ => 0⟩
def wearLinkToday : Fld := ⟨0x1830, 224, 32, .ro, 0, fun _ => 0⟩
def wearLastScrub : Fld := ⟨0x1830, 256, 64, .ro, 0, fun _ => 0⟩
def wearDef : ObjDef := ⟨0x1830, 1, 40, 0, 38, 38,
  [wearBytes30d, wearPhysTotal, wearEraseMax, wearEraseMin, wearOpenToday, wearLinkToday, wearLastScrub]⟩

/-! durable.repair (0x1840), 39 indices, 24 bytes. -/
def repairSpareTotal : Fld := ⟨0x1840, 8, 8, .ro, 0, spareRows⟩
def repairSpareLeft : Fld := ⟨0x1840, 0, 8, .ro, 0, spareRows⟩
def repairUnrepaired : Fld := ⟨0x1840, 32, 32, .ro, 0, fun _ => 0⟩
def repairLastRow : Fld := ⟨0x1840, 64, 32, .ro, 0, fun _ => 0⟩
def repairLastStamp : Fld := ⟨0x1840, 128, 64, .ro, 0, fun _ => 0⟩
def repairDef : ObjDef := ⟨0x1840, 39, 24, 0, 32, 32,
  [repairSpareTotal, repairSpareLeft, repairUnrepaired, repairLastRow, repairLastStamp]⟩

/-! durable.recovery (0x1850), 1 indices, 24 bytes. -/
def recoveryKind : Fld := ⟨0x1850, 0, 8, .ro, 1, fun _ => 0⟩
def recoveryCkSeq : Fld := ⟨0x1850, 32, 32, .ro, 1, fun _ => 0⟩
def recoveryCkK : Fld := ⟨0x1850, 64, 64, .ro, 1, fun _ => 0⟩
def recoveryReplayed : Fld := ⟨0x1850, 128, 32, .ro, 1, fun _ => 0⟩
def recoveryDuration : Fld := ⟨0x1850, 160, 32, .ro, 1, fun _ => 0⟩
def recoveryDef : ObjDef := ⟨0x1850, 1, 24, 0, 62, 62,
  [recoveryKind, recoveryCkSeq, recoveryCkK, recoveryReplayed, recoveryDuration]⟩

/-! diag.events (0x1900), 32 indices, 24 bytes. -/
def diagEventsCount : Fld := ⟨0x1900, 0, 32, .ro, 0, fun _ => 0⟩
def diagEventsFirst : Fld := ⟨0x1900, 64, 64, .ro, 0, fun _ => 0⟩
def diagEventsLast : Fld := ⟨0x1900, 128, 64, .ro, 0, fun _ => 0⟩
def diagEventsDef : ObjDef := ⟨0x1900, 32, 24, 0, 38, 38,
  [diagEventsCount, diagEventsFirst, diagEventsLast]⟩

/-! diag.inj_ecc (0x1908), 39 indices, 32 bytes. -/
def injEccCorrBlocks : Fld := ⟨0x1908, 0, 32, .ro, 0, fun _ => 0⟩
def injEccCorrBytes : Fld := ⟨0x1908, 32, 32, .ro, 0, fun _ => 0⟩
def injEccUncorr : Fld := ⟨0x1908, 64, 32, .ro, 0, fun _ => 0⟩
def injEccMode : Fld := ⟨0x1908, 96, 8, .ro, 1, fun i => if i = 14 ∨ i = 16 ∨ i = 38 then 2 else 1⟩
def injEccLastUncorrTime : Fld := ⟨0x1908, 128, 64, .ro, 0, fun _ => 0⟩
def injEccLastUncorrLoc : Fld := ⟨0x1908, 192, 32, .ro, 0, fun _ => 0⟩
def injEccDef : ObjDef := ⟨0x1908, 39, 32, 0, 34, 34,
  [injEccCorrBlocks, injEccCorrBytes, injEccUncorr, injEccMode, injEccLastUncorrTime, injEccLastUncorrLoc]⟩

/-! diag.head (0x1910), 48 indices, 28 bytes. -/
def diagHeadAbsentSlots : Fld := ⟨0x1910, 0, 32, .ro, 1, fun _ => 0⟩
def diagHeadUncorrBlocks : Fld := ⟨0x1910, 32, 32, .ro, 1, fun _ => 0⟩
def diagHeadLate : Fld := ⟨0x1910, 64, 32, .ro, 1, fun _ => 0⟩
def diagHeadMbDropped : Fld := ⟨0x1910, 96, 32, .ro, 1, fun _ => 0⟩
def diagHeadUptime : Fld := ⟨0x1910, 128, 32, .ro, 1, fun _ => 0⟩
def diagHeadFwVer : Fld := ⟨0x1910, 160, 32, .ro, 1, fun _ => 0⟩
def diagHeadTempMax : Fld := ⟨0x1910, 192, 16, .ro, 1, fun _ => 0⟩
def diagHeadDef : ObjDef := ⟨0x1910, 48, 28, 0, 38, 38,
  [diagHeadAbsentSlots, diagHeadUncorrBlocks, diagHeadLate, diagHeadMbDropped, diagHeadUptime, diagHeadFwVer, diagHeadTempMax]⟩

/-! diag.node (0x1920), 1024 indices, 16 bytes. -/
def diagNodeHeard : Fld := ⟨0x1920, 0, 32, .ro, 1, fun _ => 0⟩
def diagNodeLateHb : Fld := ⟨0x1920, 32, 32, .ro, 1, fun _ => 0⟩
def diagNodeRetries : Fld := ⟨0x1920, 64, 32, .ro, 1, fun _ => 0⟩
def diagNodeHops : Fld := ⟨0x1920, 96, 8, .ro, 1, fun _ => 0⟩
def diagNodeLqi : Fld := ⟨0x1920, 104, 8, .ro, 1, fun _ => 0⟩
def diagNodeDef : ObjDef := ⟨0x1920, 1024, 16, 0, 38, 38,
  [diagNodeHeard, diagNodeLateHb, diagNodeRetries, diagNodeHops, diagNodeLqi]⟩

/-! diag.causeway (0x1930), 2 indices, 32 bytes. -/
def diagCwState : Fld := ⟨0x1930, 0, 8, .ro, 1, fun _ => 0⟩
def diagCwSent : Fld := ⟨0x1930, 32, 32, .ro, 1, fun _ => 0⟩
def diagCwResent : Fld := ⟨0x1930, 64, 32, .ro, 1, fun _ => 0⟩
def diagCwLnak : Fld := ⟨0x1930, 96, 32, .ro, 1, fun _ => 0⟩
def diagCwLockLosses : Fld := ⟨0x1930, 128, 32, .ro, 1, fun _ => 0⟩
def diagCwRetiredStamp : Fld := ⟨0x1930, 192, 64, .ro, 1, fun _ => 0⟩
def diagCwDef : ObjDef := ⟨0x1930, 2, 32, 0, 38, 38,
  [diagCwState, diagCwSent, diagCwResent, diagCwLnak, diagCwLockLosses, diagCwRetiredStamp]⟩

/-! diag.inject (0x1940), 8 indices, 48 bytes. -/
def injectMedium : Fld := ⟨0x1940, 16, 8, .rw, 1, fun _ => 0⟩
def injectAction : Fld := ⟨0x1940, 8, 8, .rw, 1, fun _ => 0⟩
def injectDir : Fld := ⟨0x1940, 0, 8, .rw, 1, fun _ => 0⟩
def injectTarget : Fld := ⟨0x1940, 32, 16, .rw, 1, fun _ => 0⟩
def injectBytes : Fld := ⟨0x1940, 80, 8, .rw, 1, fun _ => 1⟩
def injectEveryN : Fld := ⟨0x1940, 64, 16, .rw, 1, fun _ => 1⟩
def injectLimit : Fld := ⟨0x1940, 96, 32, .rw, 1, fun _ => 0⟩
def injectDuration : Fld := ⟨0x1940, 128, 16, .rw, 1, fun _ => 60⟩
def injectState : Fld := ⟨0x1940, 160, 8, .ro, 1, fun _ => 0⟩
def injectStart : Fld := ⟨0x1940, 192, 64, .ro, 1, fun _ => 0⟩
def injectEnd : Fld := ⟨0x1940, 256, 64, .ro, 1, fun _ => 0⟩
def injectApplied : Fld := ⟨0x1940, 320, 32, .ro, 1, fun _ => 0⟩
def injectConsequences : Fld := ⟨0x1940, 352, 32, .ro, 1, fun _ => 0⟩
def injectDef : ObjDef := ⟨0x1940, 8, 48, 32, 34, 34,
  [injectMedium, injectAction, injectDir, injectTarget, injectBytes, injectEveryN, injectLimit, injectDuration, injectState, injectStart, injectEnd, injectApplied, injectConsequences]⟩

/-! diag.inj_stats (0x1950), 1 indices, 16 bytes. -/
def injStatsSafety : Fld := ⟨0x1950, 0, 32, .ro, 1, fun _ => 0⟩
def injStatsTamper : Fld := ⟨0x1950, 32, 32, .ro, 1, fun _ => 0⟩
def injStatsMetrology : Fld := ⟨0x1950, 64, 32, .ro, 1, fun _ => 0⟩
def injStatsNodes : Fld := ⟨0x1950, 96, 32, .ro, 1, fun _ => 0⟩
def injStatsDef : ObjDef := ⟨0x1950, 1, 16, 0, 34, 34,
  [injStatsSafety, injStatsTamper, injStatsMetrology, injStatsNodes]⟩

/-! partition.image (0x1A00), 6 indices, 4 bytes. -/
def partImageReason : Fld := ⟨0x1A00, 0, 8, .ro, 1, fun _ => 0⟩
def partImageDef : ObjDef := ⟨0x1A00, 6, 4, 0, 62, 62,
  [partImageReason]⟩

/-! partition.irq (0x1A20), 256 indices, 32 bytes. -/
def irqCountEn : Fld := ⟨0x1A20, 13, 1, .rw, 0, fun _ => 0⟩
def irqLevel : Fld := ⟨0x1A20, 12, 1, .ro, 0, fun i => if i = 0x83 ∨ i = 0x87 ∨ i = 0x8B ∨ i = 0x8F then 1 else 0⟩
def irqOwner : Fld := ⟨0x1A20, 8, 4, .ro, 0, fun i => if i < 0x10 then 0 else if i < 0x30 then 1 else if i < 0x50 then 2 else if i < 0x80 then 1 else if i < 0xA0 then 0 else 15⟩
def irqPri : Fld := ⟨0x1A20, 4, 4, .rw, 0, fun _ => 0⟩
def irqTargets : Fld := ⟨0x1A20, 32, 5, .rw, 0, fun _ => 0⟩
def irqLatched : Fld := ⟨0x1A20, 65, 1, .ro, 1, fun _ => 0⟩
def irqPending : Fld := ⟨0x1A20, 64, 1, .ro, 1, fun _ => 0⟩
def irqCount : Fld := ⟨0x1A20, 96, 16, .ro, 1, fun _ => 0⟩
def irqCoalesced : Fld := ⟨0x1A20, 128, 32, .ro, 1, fun _ => 0⟩
def irqDelivered : Fld := ⟨0x1A20, 160, 32, .ro, 1, fun _ => 0⟩
def irqFirstStamp : Fld := ⟨0x1A20, 192, 64, .ro, 1, fun _ => 0⟩
def irqDef : ObjDef := ⟨0x1A20, 256, 32, 36, 38, 38,
  [irqCountEn, irqLevel, irqOwner, irqPri, irqTargets, irqLatched, irqPending, irqCount, irqCoalesced, irqDelivered, irqFirstStamp]⟩

/-! partition.stage (0x1A50), 32768 indices, 256 bytes. -/
def stagePart : Fld := ⟨0x1A50, 0, 2048, .rw, 2, fun _ => 0⟩
def stageDef : ObjDef := ⟨0x1A50, 32768, 256, 36, 32, 32,
  [stagePart]⟩

/-! time.config (0x1B00), 1 indices, 4 bytes. -/
def timeConfigRtcTrim : Fld := ⟨0x1B00, 16, 16, .rw, 0, fun _ => 0⟩
def timeConfigAdjustLim : Fld := ⟨0x1B00, 0, 8, .rw, 0, fun _ => 30⟩
def timeConfigDef : ObjDef := ⟨0x1B00, 1, 4, 8, 62, 62,
  [timeConfigRtcTrim, timeConfigAdjustLim]⟩

/-! time.now (0x1B01), 1 indices, 16 bytes. -/
def timeNowUtc : Fld := ⟨0x1B01, 0, 64, .ro, 1, fun _ => 0⟩
def timeNowOffset : Fld := ⟨0x1B01, 64, 32, .ro, 1, fun _ => 0⟩
def timeNowStatus : Fld := ⟨0x1B01, 96, 8, .ro, 1, fun _ => 0⟩
def timeNowDef : ObjDef := ⟨0x1B01, 1, 16, 0, 62, 62,
  [timeNowUtc, timeNowOffset, timeNowStatus]⟩

/-! time.offset (0x1B10), 32 indices, 12 bytes. -/
def timeOffsetUtcFrom : Fld := ⟨0x1B10, 0, 64, .rw, 0, fun _ => 0⟩
def timeOffsetOffset : Fld := ⟨0x1B10, 64, 32, .rw, 0, fun _ => 0⟩
def timeOffsetDef : ObjDef := ⟨0x1B10, 32, 12, 8, 14, 14,
  [timeOffsetUtcFrom, timeOffsetOffset]⟩

/-! time.log (0x1B40), 64 indices, 32 bytes. -/
def timeLogKind : Fld := ⟨0x1B40, 0, 8, .ro, 0, fun _ => 0⟩
def timeLogPort : Fld := ⟨0x1B40, 40, 8, .ro, 0, fun _ => 0⟩
def timeLogRole : Fld := ⟨0x1B40, 32, 8, .ro, 0, fun _ => 0⟩
def timeLogBefore : Fld := ⟨0x1B40, 64, 64, .ro, 0, fun _ => 0⟩
def timeLogAfter : Fld := ⟨0x1B40, 128, 64, .ro, 0, fun _ => 0⟩
def timeLogSiteTime : Fld := ⟨0x1B40, 192, 64, .ro, 0, fun _ => 0⟩
def timeLogDef : ObjDef := ⟨0x1B40, 64, 32, 0, 40, 40,
  [timeLogKind, timeLogPort, timeLogRole, timeLogBefore, timeLogAfter, timeLogSiteTime]⟩

/-! AMN-4 block (0x1C00), 16 indices, 16 bytes. -/
def amnLatchCDeliv : Fld := ⟨0x1C00, 0, 32, .ro, 0, fun _ => 0⟩
def amnLatchCRet : Fld := ⟨0x1C00, 32, 32, .ro, 0, fun _ => 0⟩
def amnLatchWRet : Fld := ⟨0x1C00, 72, 8, .ro, 0, fun _ => 0⟩
def amnLatchWDeliv : Fld := ⟨0x1C00, 64, 8, .ro, 0, fun _ => 0⟩
def amnLatchLatchNo : Fld := ⟨0x1C00, 96, 32, .ro, 0, fun _ => 0⟩
def amnLatchDef : ObjDef := ⟨0x1C00, 16, 16, 0, 10, 10,
  [amnLatchCDeliv, amnLatchCRet, amnLatchWRet, amnLatchWDeliv, amnLatchLatchNo]⟩

/-! AMN-4 block (0x1C10), 1 indices, 8 bytes. -/
def amnCyclesN : Fld := ⟨0x1C10, 0, 16, .ro, 0, fun _ => 50⟩
def amnCyclesCycles : Fld := ⟨0x1C10, 32, 32, .ro, 1, fun _ => 0⟩
def amnCyclesDef : ObjDef := ⟨0x1C10, 1, 8, 0, 10, 10,
  [amnCyclesN, amnCyclesCycles]⟩

end Sys2Proof.Machine
end

