-- ==== Sys2Proof/Machine/ObjTable.lean ====
section
/-! DEFINITION. The table of every object that has a register map (R388, Table 14-6 and the object tables of each chapter). -/

namespace Sys2Proof.Machine

def objTable0 : List ObjDef := [devIdentDef, modeStateDef, modeConfigDef, modeBootDef, modeResetDef, modeSupplyDef, portBindDef, portStateDef, pralineDef, keyCertDef, lcStateDef, lcEnrollDef]

def objTable1 : List ObjDef := [crqStateDef, crqGroupDef, crqLeafDef, attestStmtDef, allocConfigDef, allocSiteDef, allocOutletDef, allocContractDef, allocEpochDef, ctlEngineDef, ctlSlotDef, ctlOutletDef]

def objTable2 : List ObjDef := [ctlBatteryDef, ctlStateDef, ctlFaultDef, ctlFaultHistDef, coolOutletDef, coolStateDef, thermSensorDef, thermTsDef, thermStateDef, meterSiteDef, meterCalDef, meterOutletCfgDef]

def objTable3 : List ObjDef := [meterOutletDef, meterIncomerDef, meterStatusDef, meterHoldupDef, meterGapDef, meterPulseDef, billConfigDef, calSeasonDef, calWeekDef, calDayDef, calSpecialDef, billSummaryDef]

def objTable4 : List ObjDef := [billStateDef, billNowDef, billEnergyDef, billDemandDef, billPeriodDef, billReceiptDef, billTamperDef, vlOutletDef, vlSessionDef, vlScheduleDef, vlTrustDef, vlSeccDef]

def objTable5 : List ObjDef := [safetyStateDef, safetyParamDef, safetyOutletDef, safetySoDef, safetyTripDef, battConfigDef, battOcvDef, battStringDef, battStateDef, battEstDef, battLearnDef, battSummaryDef]

def objTable6 : List ObjDef := [laneStateDef, avenueConfigDef, avenueStateDef, headRecordDef, laneHostDef, nodeEntryDef, nodeBlobDef, nodeSummaryDef, canConfigDef, canStateDef, canFilterDef, meshConfigDef]

def objTable7 : List ObjDef := [meshStateDef, meshNbrDef, durableConfigDef, sparesDef, eccDef, wearDef, repairDef, recoveryDef, diagEventsDef, injEccDef, diagHeadDef, diagNodeDef]

def objTable8 : List ObjDef := [diagCwDef, injectDef, injStatsDef, partImageDef, irqDef, stageDef, timeConfigDef, timeNowDef, timeOffsetDef, timeLogDef, amnLatchDef, amnCyclesDef]

/-- Every object with a register map, by rising object ID. -/
def objTable : List ObjDef :=
  objTable0 ++ objTable1 ++ objTable2 ++ objTable3 ++ objTable4 ++ objTable5 ++ objTable6 ++ objTable7 ++ objTable8

/-- The register map of an object ID (Table 14-7: none outside the tables). -/
def findObj (id : Nat) : Option ObjDef := objTable.find? fun d => d.id == id

end Sys2Proof.Machine
end

