-- ==== Sys2Proof/Machine/StateBatt.lean ====
section
/-! DEFINITION. The state of the battery estimator (spec/11). Voltages of modules in mV, v1 and open-circuit voltages in nV, currents in mA,
charge in mA·ms, resistances in µΩ. -/

namespace Sys2Proof.Machine

/-- One module (spec/11 R292, R294, R297, R298): voltage and temperature byte of the last set it was present in, open-circuit voltage then,
whether it was present in the last complete set, sets in a row it has been absent from, voltage changes (stamp, mV; newest first). -/
structure Module where
  v : Nat
  temp : Nat
  ocv : Int
  present : Bool
  absent : Nat
  hist : List (Nat × Nat)
  deriving DecidableEq, Repr

/-- The set being received (spec/11 R292): its instant, the current and the polarisation then, frames so far, whether it has ended. -/
structure SetIn where
  instant : Nat
  iSet : Int
  v1 : Int
  mv : Tab (List Nat)
  mt : Tab (List Nat)
  done : Bool
  deriving DecidableEq, Repr

/-- A load step being followed (spec/11 R299, R300): its stamp, current after it, change of current, v_b before, measured r0, charge counted
since, state of charge and charge at the step, g at 10 s. -/
structure LoadStep where
  at_ : Nat
  iPost : Int
  dI : Int
  vBefore : Int
  r0New : Int
  charge : Int
  socAt : Nat
  g10 : Option Int
  deriving DecidableEq, Repr

/-- A learning cycle (spec/11 R306): SoC at its rest point, charge, sum of |i|, end of the starting rest, first disqualifier. -/
structure Cycle where
  socA : Nat
  charge : Int
  absSum : Nat
  active : Option Nat
  dq : Nat
  deriving DecidableEq, Repr

/-- The values of a batt.est_state entry (spec/11 Table 11-3). -/
structure EstEntry where
  serial : Nat
  q : Nat
  r0 : Nat
  r1 : Nat
  tau : Nat
  nLearn : Nat
  deriving DecidableEq, Repr

/-- One string (spec/11): set in progress, BMS flags and limits, stamp of the last complete set, out by R294's set conditions, out for want of
current, modules; current samples of the millisecond (sum, count), stamp of the last valid mean, recent means (stamp, mA); v1 and its recent values (stamp, nV); soc_c in
2^-32; whether a first set has been taken; idle since; load step; learning cycle; serial; entry waiting for its serial. -/
structure Str where
  set : Option SetIn
  closed : Bool
  fault : Bool
  chgA : Nat
  disA : Nat
  setOk : Option Nat
  setOut : Bool
  curOut : Bool
  mods : Tab Module
  iSum : Int
  iN : Nat
  iAt : Option Nat
  means : List (Nat × Int)
  v1 : Int
  v1s : List (Nat × Int)
  socC : Nat
  first : Bool
  idle : Option Nat
  step : Option LoadStep
  cycle : Option Cycle
  serial : Option Nat
  waiting : Option EstEntry
  nLearn : Nat
  deriving DecidableEq, Repr

/-- The estimator: strings, samples of v_b of the millisecond, mean v_b and the one before, 1 s sums of each string's current with their
count and last 1 s means, limits computed, stamp of the last step and of the last publication, whether a restore has been accepted. -/
structure Batt where
  strs : Tab Str
  vSum : Int
  vN : Nat
  vMean : Int
  vPrev : Int
  secSum : Tab Int
  secN : Nat
  secMean : Tab Int
  chg : Nat
  dis : Nat
  steps : Nat
  published : Nat
  restored : Bool
  deriving DecidableEq, Repr

/-- A module not heard of. -/
def Module.reset : Module := { v := 0, temp := 255, ocv := 0, present := false, absent := 0, hist := [] }
/-- A string before its first set: out until one is complete. -/
def Str.reset : Str :=
  { set := none, closed := false, fault := false, chgA := 0, disA := 0, setOk := none, setOut := true, curOut := true, mods := [], iSum := 0,
    iN := 0, iAt := none, means := [], v1 := 0, v1s := [], socC := 0, first := false, idle := none, step := none, cycle := none, serial := none,
    waiting := none, nLearn := 0 }
/-- The estimator at a start of the field side. -/
def Batt.reset : Batt :=
  { strs := [], vSum := 0, vN := 0, vMean := 0, vPrev := 0, secSum := [], secN := 0, secMean := [], chg := 0, dis := 0, steps := 0,
    published := 0, restored := false }

end Sys2Proof.Machine
end

