-- ==== Sys2Proof/Machine/StateBill.lean ====
section
/-! DEFINITION. The state of billing (spec/08): sub-intervals, sessions, receipts on their way, a pending time step. -/

namespace Sys2Proof.Machine

/-- A closed demand sub-interval (spec/08 R225): delivered energy and flags by quantity, span in site time, whether it lay within one
field-side run. -/
structure SubInt where
  e : List Nat
  flags : List Nat
  start : Nat
  stop : Nat
  whole : Bool
  deriving DecidableEq, Repr

/-- An open billing session (spec/08 R230, Table 8-9): start index and legal time, registers at the start, energies by rate since, highest
1 ms power, flags, local offset at the start. -/
structure BillSess where
  startK : Nat
  startUtc : Nat
  regStart : Int
  retStart : Nat
  substStart : Nat
  gapStart : Nat
  deliv : Tab Nat
  ret : Tab Nat
  pMax : Int
  flags : Nat
  offset : Int
  deriving DecidableEq, Repr

/-- A clock step whose effect on the demand interval waits for the first index at or after its mark (spec/08 R216, R227): stamp, UTC second the
RTC would have given, UTC second set, whether beyond adjust_lim. -/
structure ClockStep where
  at_ : Nat
  old : Nat
  new : Nat
  large : Bool
  deriving DecidableEq, Repr

/-- A boundary bundle as the hot tier holds it (spec/08 R228, spec/15 R407): number, index, the fields of the bill objects after
it, the closed sub-intervals and the start of the one in progress. -/
structure Bundle where
  seq : Nat
  k : Nat
  fields : Store
  subs : List SubInt
  subStart : Nat
  deriving DecidableEq, Repr

/-- Billing: stamps of entries into Transfer and leavings of Stopping that await their index, open sessions, closed sub-intervals since the
last opening event (newest first), start of the one in progress and whether it lies in one run, next receipt number, receipts that
await their signature (number, body), receipts to be delivered in order, time.set pending (UTC, port, role), a step not yet seen by the interval, entries written to time.log,
newest bundle and the one before it in the other copy, whether boundaries of an outage are still to be crossed (R229). -/
structure Bill where
  enterAt : Tab Nat
  leaveAt : Tab Nat
  sessions : Tab BillSess
  subs : List SubInt
  subStart : Nat
  subWhole : Bool
  nextReceipt : Nat
  unsigned : List (Nat × Nat)
  sendQ : List Nat
  step : Option (Nat × Nat × Nat)
  stepped : Option ClockStep
  logNo : Nat
  bundle : Option Bundle
  bundleOld : Option Bundle
  cut : Bool
  deriving DecidableEq, Repr

/-- Billing at the first reset: receipts are numbered from 1 (spec/08 Table 8-9). -/
def Bill.reset : Bill :=
  { enterAt := [], leaveAt := [], sessions := [], subs := [], subStart := 0, subWhole := true, nextReceipt := 1, unsigned := [], sendQ := [],
    step := none, stepped := none, logNo := 0, bundle := none, bundleOld := none, cut := false }

end Sys2Proof.Machine
end

