-- ==== Sys2Proof/Machine/StateCool.lean ====
section
/-! DEFINITION. The state of cable cooling and of the thermal monitor (spec/06). Temperatures in 0.1 °C, model nodes in 1/1,024 K. -/

namespace Sys2Proof.Machine

/-- The four nodes of a cable model (spec/06 R169), 1/1,024 °C: conductor, coolant, the two contacts. -/
structure Nodes where
  tc : Int
  tw : Int
  kp : Int
  kn : Int
  deriving DecidableEq, Repr

/-- What FJ and FC remember of one outlet's cooling (spec/06): the model, once initialised; readings of the last block (none where absent
or invalid) and last valid T_in; starts of the conditions of Table 6-1; findings in force (bit 0 loss of flow, 1 model disagrees, 2 coolant
sensor, 3 contact sensor, 4 outlet head); since when none has held; fallback in force; stamp of the last block; sum and count of i² of
the step, mA²; since when the slot's output has stayed at u_max; the computed derate current; initial node temperature. -/
structure CoolRec where
  nodes : Option Nodes
  tIn : Option Int
  tOut : Option Int
  tDcp : Option Int
  tDcn : Option Int
  flow : Option Nat
  lastIn : Option Int
  lowSince : Option Nat
  offSince : Option Nat
  coolSince : Option Nat
  contSince : Option Nat
  found : Nat
  clearAt : Nat
  fallback : Bool
  lastBlock : Option Nat
  i2 : Nat
  i2n : Nat
  maxSince : Option Nat
  computed : Int
  tInit : Int
  deriving DecidableEq, Repr

/-- The thermal monitor and cooling: outlets; levels of throttling of the site cores and of the host processors; stamp of the orderly stop
in progress; the crystal-drift channels as last read (R179). -/
structure Cool where
  outlets : Tab CoolRec
  siteLevel : Nat
  hostLevel : Nat
  stopAt : Option Nat
  drift : List Int
  deriving DecidableEq, Repr

/-- An outlet with nothing heard yet. -/
def CoolRec.reset : CoolRec :=
  { nodes := none, tIn := none, tOut := none, tDcp := none, tDcn := none, flow := none, lastIn := none, lowSince := none, offSince := none,
    coolSince := none, contSince := none, found := 0, clearAt := 0, fallback := false, lastBlock := none, i2 := 0, i2n := 0,
    maxSince := none, computed := 0, tInit := 900 }

/-- Cooling at reset. -/
def Cool.reset : Cool := { outlets := [], siteLevel := 0, hostLevel := 0, stopAt := none, drift := [] }

end Sys2Proof.Machine
end

