-- ==== Sys2Proof/Machine/StateCore.lean ====
section
/-! DEFINITION. The state of one Primel core P0–P5 (spec/02, spec/03). -/

namespace Sys2Proof.Machine

/-- One store held in the effect queue (spec/03 R80): address, whether 64 bits wide, data. -/
structure EqEntry where
  addr : Nat
  wide : Bool
  data : Word
  deriving DecidableEq, Repr

/-- One message on a channel (spec/02 R68): arrival stamp and payload. -/
structure ChanMsg where
  stamp : Nat
  payload : Payload
  deriving DecidableEq, Repr

/-- One request in a gate's queue (spec/02 R70): calling core, g1–g6, stamp, deadline. -/
structure GateReq where
  caller : Nat
  args : List Word
  stamp : Nat
  deadline : Nat
  deriving DecidableEq, Repr

/-- The XCALL a core has out (spec/02 R70–R73): its pc, result register, gate, stamp, deadline, whether its request was accepted, whether the
gate is effecting, and the results held for it with their status. -/
structure XCall where
  pc : Addr
  rd : Nat
  gate : Nat
  stamp : Nat
  deadline : Nat
  accepted : Bool
  effecting : Bool
  result : Option (List Word)
  deriving DecidableEq, Repr

/-- What a core is doing (spec/02 R60, R62, R66, R70, R77). -/
inductive RunState
  /-- in reset: no image runs -/
  | inReset
  | running
  /-- waiting in XRECV: result register, buffer, channel, deadline -/
  | xrecv (rd : Nat) (buf : Nat) (ch : Nat) (deadline : Nat)
  /-- waiting in WAITD: result register, deadline -/
  | waitd (rd : Nat) (deadline : Nat)
  | halted
  | xcall
  /-- a double fault that completes once the retired entries have left (spec/03 R87) -/
  | failing
  /-- stopped by a double fault, control words frozen -/
  | failed
  deriving DecidableEq, Repr

/-- What the loader keeps of the image a core runs (spec/02 R74–R76). -/
structure Loaded where
  kind : Nat
  imgVer : Nat
  digest : Nat
  exports : List Export
  imports : List Import
  chans : List ChanDecl
  grants : List Grant
  deriving DecidableEq, Repr

/-- One core: general registers, accumulators, pc, control words, what it does, image, effect queue, channel queues (by channel),
gate queues (by gate, of the gates it serves), the gate call it serves, the XCALL it has out, when it last took an interrupt, the clock
cycles since its reset that CWR has shown (notes/assumptions/11.md), blocks of instruction SRAM known to be uncorrectable (by byte address; spec/01 Table 1-6), read-to-clear words (0 channel drops, 1 discarded gate results, 2 clamp notices, 3 dropped entries; spec/02 R46). -/
structure Core where
  regs : Tab Word
  accs : Tab Acc96
  pc : Addr
  cw : Tab Word
  run : RunState
  image : Option Loaded
  eq : List EqEntry
  queues : Tab (List ChanMsg)
  gateQ : Tab (List GateReq)
  serving : Option (Nat × GateReq)
  call : Option XCall
  lastIrq : Nat
  cycles : Nat
  badFetch : List Nat
  rc : Tab Nat
  deriving DecidableEq, Repr

/-- The reset value of a control word of core `c` (spec/02 Table 2-1). -/
def cwReset (c n : Nat) : Word :=
  if n = 9 then 15
  else if n = 13 then BitVec.ofNat 64 (c * 65536 + c)
  else if n = 18 then 1
  else 0

/-- The images (spec/02 R76, spec/16 R444): minimum version per kind, active image per target (0–4 the site cores, 5 port, 6 safety). -/
structure Images where
  minVer : Tab Nat
  active : Tab Image
  deriving DecidableEq, Repr

/-- A core in reset. -/
def Core.reset : Core :=
  { regs := [], accs := [], pc := 0, cw := [], run := .inReset, image := none, eq := [], queues := [], gateQ := [],
    serving := none, call := none, lastIrq := 0, cycles := 0, badFetch := [], rc := [] }

end Sys2Proof.Machine
end

