-- ==== Sys2Proof/Machine/StateCtl.lean ====
section
/-! DEFINITION. The state of the converter control engine (spec/05): compensator histories and what each converter remembers. -/

namespace Sys2Proof.Machine

/-- A compensator's histories (spec/05 R134, R135): the last three errors in Q1.15, the last three outputs in Q1.47, and the trigger
blocks counted towards its divisor (R138). -/
structure SlotHist where
  e1 : Int
  e2 : Int
  e3 : Int
  u1 : Int
  u2 : Int
  u3 : Int
  arrivals : Nat
  deriving DecidableEq, Repr

/-- A soft-start ramp (spec/05 R146, R153): stamp of its first update, v_out then, target, whether the half-way check was made, whether v_ref
has reached its unramped value. -/
structure Ramp where
  tStart : Nat
  vStart : Int
  vTarget : Int
  checked : Bool
  reached : Bool
  deriving DecidableEq, Repr

/-- What a converter remembers of one stage head (spec/05 R151, R158, R160): heatsink temperature in 0.1 °C, stamp of the last valid one,
whether it is in derate, k_hs in 1/300, stage input voltage in mV, consecutive absences of its block, consecutive high mid-points of each
phase, whether it reported its gates off. -/
structure StageRec where
  temp : Int
  at_ : Nat
  derate : Bool
  k : Int
  vIn : Int
  absent : Nat
  mids : Tab Nat
  gatesOff : Bool
  deriving DecidableEq, Repr

/-- One phase (spec/05 R155, R158): its sample of the current update in 0.1 A (none where absent or invalid), that of the update before,
consecutive findings of an open phase and of a failed sense, the trim in Q1.47. -/
structure PhaseRec where
  i : Option Int
  prev : Option Int
  opens : Nat
  stuck : Nat
  trim : Int
  deriving DecidableEq, Repr

/-- What a converter remembers (spec/05): stamp of entry into its state, ramp, last voltage samples and updates (newest first),
consecutive over-voltage and bad-voltage findings, whether it has ever changed state, current bounds and reference, phases and stage heads, shed phases, when the load fell
below shed_lo, stamp at which the gates turned off, whether the discharge path is driven, controlled stop (start stamp, |i_out| then), cause
that stopped it, heatsink shutdown during DISCHARGE, insulation monitor byte, battery-side voltage, last output of the cascading slot,
duty of the current slot. -/
structure Conv where
  since : Nat
  ramp : Option Ramp
  volts : List (Nat × Int)
  updates : List (Nat × Bool)
  ov : Nat
  vBad : Nat
  moved : Bool
  boundAt : Nat
  iRef : Int
  cascade : Int
  duty : Int
  phases : Tab PhaseRec
  stages : Tab StageRec
  shed : Nat
  lowSince : Option Nat
  gatesOff : Option Nat
  discharge : Bool
  stopFrom : Option (Nat × Int)
  cause : Nat
  heat : Bool
  insulation : Nat
  vB : Int
  deriving DecidableEq, Repr

/-- The control engine: slot histories and converters. -/
structure Ctl where
  slots : Tab SlotHist
  convs : Tab Conv
  deriving DecidableEq, Repr

/-- Cleared histories (spec/05 R134). -/
def SlotHist.zero : SlotHist := { e1 := 0, e2 := 0, e3 := 0, u1 := 0, u2 := 0, u3 := 0, arrivals := 0 }

/-- A stage head not heard of yet. -/
def StageRec.zero : StageRec :=
  { temp := 0, at_ := 0, derate := false, k := 300, vIn := 0, absent := 0, mids := [], gatesOff := false }

/-- A phase before its first sample. -/
def PhaseRec.zero : PhaseRec := { i := some 0, prev := none, opens := 0, stuck := 0, trim := 0 }

/-- A converter at reset: OFF, gates off, discharge path on (spec/12 R335). -/
def Conv.reset : Conv :=
  { since := 0, ramp := none, volts := [], updates := [], ov := 0, vBad := 0, moved := false, boundAt := 0, iRef := 0, cascade := 0,
    duty := 0, phases := [], stages := [], shed := 0, lowSince := none, gatesOff := none, discharge := true,
    stopFrom := none, cause := 0, heat := false, insulation := 0, vB := 0 }

/-- The engine at reset. -/
def Ctl.reset : Ctl := { slots := [], convs := [] }

end Sys2Proof.Machine
end

