-- ==== Sys2Proof/Machine/StateHost.lean ====
section
/-! DEFINITION. The state of the host ports (spec/14 R374–R387). -/

namespace Sys2Proof.Machine

/-- A subscription (spec/14 R385): object, first and last index, minimum interval and period in ms; source address of the SUBSCRIBE on a
1000BASE-X lane (spec/12 R345). -/
structure Sub where
  obj : Nat
  first : Nat
  last : Nat
  minMs : Nat
  period : Nat
  peer : Nat
  deriving DecidableEq, Repr

/-- A NOTIFY waiting for a credit (spec/14 R386): object, index, flags [0], bytes. -/
structure Ntf where
  obj : Nat
  idx : Nat
  ack : Bool
  payload : Payload
  deriving DecidableEq, Repr

/-- A NOTIFY with flags [0] that awaits its acknowledgement (spec/14 R387): seq, what was sent, stamp of this sending and of the first. -/
structure Await where
  seq : Nat
  ntf : Ntf
  sentAt : Nat
  first : Nat
  deriving DecidableEq, Repr

/-- A host message (spec/14 Table 14-2): the request's stamp, port, seq, index and payload, and its type, flags and object. -/
structure HostMsg where
  req : Req
  typ : Nat
  flags : Nat
  obj : Nat
  deriving DecidableEq, Repr

/-- A port (spec/14 R381–R387): responses to the last 16 requests answered (newest first: seq, status, payload), requests being executed,
subscriptions, NOTIFYs waiting, NOTIFYs awaiting acknowledgement, next number of a NOTIFY, last NOTIFY of each index (stamp, bytes;
by object × 65536 + index), messages the port has to be read by HP4; on a 1000BASE-X lane the source address of the frame taken last and
the address the message sent last went to (spec/12 R345). -/
structure Port where
  answered : List (Nat × Nat × Payload)
  running : List Nat
  subs : List Sub
  queue : List Ntf
  awaits : List Await
  nextSeq : Nat
  last : Tab (Nat × Payload)
  toRead : List Payload
  peer : Nat
  dest : Nat
  deriving DecidableEq, Repr

/-- The ports, and until when the console is enabled in SEALED (spec/14 R378). -/
structure Hosts where
  ports : Tab Port
  consoleUntil : Option Nat
  deriving DecidableEq, Repr

/-- A port after a reset of the host side. -/
def Port.reset : Port :=
  { answered := [], running := [], subs := [], queue := [], awaits := [], nextSeq := 0, last := [], toRead := [], peer := 0, dest := 0 }

/-- The ports after a reset of the host side. -/
def Hosts.reset : Hosts := { ports := [], consoleUntil := none }

end Sys2Proof.Machine
end

