-- ==== Sys2Proof/Machine/StateOut.lean ====
section
/-! DEFINITION. What the device sends to the outside: the model's own record, newest first (notes/assumptions/2.md). -/

namespace Sys2Proof.Machine

/-- One thing the device sent. -/
inductive Out
  /-- the ACK (status 0) or NAK of a request (spec/14 R380) -/
  | response (port seq status : Nat) (payload : Payload)
  /-- a NOTIFY (spec/14 R385), with flags [0] when `ack` -/
  | notify (port seq obj idx : Nat) (ack : Bool) (payload : Payload)
  /-- a CREDIT (spec/14 R386) -/
  | credit (port credits : Nat) (restart : Bool)
  /-- a Causeway message of a type: sending side, link, ctype, lseq, retransmission flag, value of its descriptor (spec/01 R16) -/
  | causeway (src : Side) (link ctype lseq : Nat) (retrans : Bool) (desc : Nat)
  /-- a CAN frame: channel, identifier, bytes (spec/13 Table 13-4) -/
  | can (ch id len data : Nat)
  /-- a command or safe-data block for a head: head, block kind, fields (spec/12 Table 12-7) -/
  | block (head kind : Nat) (args : List Int)
  /-- epoch entry or retraction for a head (spec/12 Table 12-7) -/
  | entry (outlet epoch : Nat) (vals : List Int)
  | retraction (first : Nat) (caps : List (Nat × Int × Int))
  /-- an ordered set on a lane: name code, payload (spec/12 Table 12-3) -/
  | orderedSet (lane set arg : Nat)
  /-- an avenue frame on a lane (spec/12 R324) -/
  | frame (lane number mode grant : Nat)
  /-- content a mailbox sends to its head (spec/12 R341) -/
  | mailbox (head typ len data : Nat)
  /-- a mesh frame: node ID, type, bytes (spec/13 Table 13-9) -/
  | mesh (node typ len data : Nat)
  /-- what P3 answers a vehicle: outlet, message code, fields (spec/09) -/
  | vehicle (outlet msg : Nat) (args : List Int)
  /-- a safe-data item sent (spec/10 R276) -/
  | safeData (ch : Chan) (item : Nat)
  /-- a land driven: land code, level (spec/17) -/
  | pin (land : Nat) (high : Bool)
  /-- bytes the SPI port returns (spec/14 R377) -/
  | spi (bytes : List (BitVec 8))
  /-- a metering pulse (spec/17 R461) -/
  | pulse (width : Nat)
  /-- a RESET of a side began (spec/16 R436) -/
  | reset (side : Side) (code : Nat)
  deriving DecidableEq, Repr

end Sys2Proof.Machine
end

