-- ==== Sys2Proof/Machine/StateDiag.lean ====
section
/-! DEFINITION. What the injection slots remember beside diag.inject (spec/18 R473). -/

namespace Sys2Proof.Machine

/-- A unit a reorder injection can hold (spec/18 Table 18-5): a mesh frame or heartbeat received, a mesh frame being sent, a host message
received, one being sent by a port. -/
inductive DiagUnit
  | mesh (m : MeshRx)
  | beat (h : Heartbeat)
  | meshSent (node : Nat) (o : Out)
  | host (m : HostMsg)
  | sent (port : Nat) (o : Out) (bytes : Payload)
  deriving DecidableEq, Repr

/-- A unit that a reorder injection holds, and the stamp at which it was held (spec/18 R473). -/
structure HeldUnit where
  unit : DiagUnit
  at_ : Nat
  deriving DecidableEq, Repr

/-- The injector: units each slot has seen since it was started, units held, how often in a row a Causeway message was acted on, by lseq (256 up:
towards the host side; spec/18 R477). -/
structure Diag where
  seen : Tab Nat
  held : Tab HeldUnit
  cwHits : Tab Nat
  deriving DecidableEq, Repr

/-- No slot has seen a unit. -/
def Diag.reset : Diag := { seen := [], held := [], cwHits := [] }

end Sys2Proof.Machine
end

