-- ==== Sys2Proof/Machine/StateMet.lean ====
section
/-! DEFINITION. The state of metrology (spec/07). Voltages in nV, currents in nA, power in aW, energy remainders in aW·samples. -/

namespace Sys2Proof.Machine

/-- The calibration a channel runs with (spec/07 R189, R210). -/
structure Cal where
  offset : Int
  gain : Nat
  scale : Nat
  tc : Int
  tRef : Int
  delay : Int
  deriving DecidableEq, Repr

/-- One channel (spec/07 R187–R190): the calibration it ran with before a written one takes effect, samples received by index (none: declared
absent), samples used by index with the shunt temperature they were taken at (the last valid one in an absent one's place), the last valid
one, how many samples in a row were absent up to each index. -/
structure Chan43 where
  cal : Option Cal
  raw : Tab (Option Int)
  used : Tab (Option (Int × Int))
  last : Option (Int × Int)
  runs : Tab Nat
  deriving DecidableEq, Repr

/-- The hidden remainders of a quantity's registers (spec/07 R194), whether it is in GAP, the index at which GAP began, consecutive indices
with every channel present, substituted indices of the block, residual in µWh with its remainder (R206). -/
structure Quantity where
  rhoD : Int
  rhoR : Int
  rhoN : Int
  rhoS : Int
  gap : Bool
  gapFrom : Nat
  whole : Nat
  substAt : Option Nat
  residual : Int
  rhoX : Int
  deriving DecidableEq, Repr

/-- Sums over a line cycle (spec/07 R193, R195, R200): indices, power of total and phases 1–3, squares of V1–V3 and I1–I4, square of the sum
of the voltages. -/
structure CycleAcc where
  n : Nat
  p : List Int
  vv : List Int
  ii : List Int
  nn : Int
  deriving DecidableEq, Repr

/-- A line cycle that has ended and waits for its processing (spec/07 R193): the instant of its end, its first index, the first index after it,
its sums, the order of the crossings in it (0 none of the two, 1 L1–L2–L3, 2 L1–L3–L2). -/
structure EndedCycle where
  at_ : Nat
  first : Nat
  stop : Nat
  acc : CycleAcc
  seq : Nat
  deriving DecidableEq, Repr

/-- A voltage channel's crossing detector (spec/07 R193): below the lower threshold since the last crossing, instant of the last zero
crossing candidate, sample before. -/
structure Zero where
  armed : Bool
  at_ : Option Nat
  prev : Int
  deriving DecidableEq, Repr

/-- Sums over a 1 ms block of an outlet (spec/07 R212): connector and converter-side voltage, current, power, i². -/
structure BlockAcc where
  vc : Int
  vv : Int
  i : Int
  p : Int
  ii : Int
  deriving DecidableEq, Repr

/-- Metrology: next index to form, channels, quantities, shunt temperatures (value, stamp of the last valid one), blocks; the cycle being
summed and its first index, the part since an unconfirmed crossing with its first index, cycles that have ended and wait for their processing;
detectors; last confirmed crossing, the last one that ended a valid cycle; durations of the last valid cycles; synthetic mode, valid cycles
seen in it, number of the next synthetic boundary; counts of incomer cycles and outlet ticks; crossings of the cycle being summed (instant,
voltage); counters of reverse power by outlet; runs of cycles that meet a condition of Table 7-3 (first index, cycles); consecutive indices of
R201's low voltages and the index after the last trip; what has begun or ended and waits for its step, with its stamp; windows' sequence words;
stamp of the power-fail edge while frozen and of its end while indices up to it are still to be formed (R206, R207), whether the residual
record is written; channels whose head reports another identity than their calibration names (R203), channels whose written calibration awaits
its index (R210), boundary indices whose latch is due (R198), channel of a phase loss. -/
structure Met where
  next : Nat
  chans : Tab Chan43
  quants : Tab Quantity
  shunt : Tab (Int × Nat)
  blocks : Tab BlockAcc
  cycle : CycleAcc
  cycleFrom : Nat
  since : Option (Nat × CycleAcc)
  ended : List EndedCycle
  zeros : Tab Zero
  lastCross : Option Nat
  lastValid : Nat
  valid : List Nat
  synthetic : Bool
  synthValid : Nat
  synthNext : Nat
  cycles : Nat
  tick : Nat
  order : List (Nat × Nat)
  revBad : Tab Nat
  revGood : Tab Nat
  runs : Tab (Nat × Nat)
  low : Nat
  tripAt : Nat
  due : Tab Nat
  seqs : Tab Nat
  frozen : Option Nat
  thaw : Option Nat
  residualDone : Bool
  swapped : Tab Bool
  applyCal : Tab Nat
  latchIn : Option Nat
  latchOut : Option Nat
  lossCh : Nat
  deriving DecidableEq, Repr

/-- An empty cycle. -/
def CycleAcc.zero : CycleAcc := { n := 0, p := [0, 0, 0, 0], vv := [0, 0, 0], ii := [0, 0, 0, 0], nn := 0 }
/-- An empty block. -/
def BlockAcc.zero : BlockAcc := { vc := 0, vv := 0, i := 0, p := 0, ii := 0 }
/-- A channel before its first sample. -/
def Chan43.zero : Chan43 := { cal := none, raw := [], used := [], last := none, runs := [] }
/-- A quantity before its first index. -/
def Quantity.zero : Quantity :=
  { rhoD := 0, rhoR := 0, rhoN := 0, rhoS := 0, gap := false, gapFrom := 0, whole := 0, substAt := none, residual := 0, rhoX := 0 }

/-- Metrology at a reset of the field side. -/
def Met.reset : Met :=
  { next := 0, chans := [], quants := [], shunt := [], blocks := [], cycle := CycleAcc.zero, cycleFrom := 0, since := none, ended := [],
    zeros := [], lastCross := none, lastValid := 0, valid := [], synthetic := false, synthValid := 0, synthNext := 0, cycles := 0, tick := 0,
    order := [], revBad := [], revGood := [], runs := [], low := 0, tripAt := 0, due := [], seqs := [], frozen := none, thaw := none,
    residualDone := false, swapped := [], applyCal := [], latchIn := none, latchOut := none, lossCh := 0 }

end Sys2Proof.Machine
end

