-- ==== Sys2Proof/Machine/StateDur.lean ====
section
/-! DEFINITION. The state of the hot tier's two-copy areas and of scrubbing (spec/15 R406–R421). -/

namespace Sys2Proof.Machine

/-- An accumulator checkpoint (spec/15 R406): sequence number, index, site time, legal time, whether of a frozen state, sequence number of
the bundle it holds, fields of the registers, remainders, closed sub-intervals, start of the interval, open billing sessions. -/
structure Checkpoint where
  seq : Nat
  k : Nat
  siteTime : Nat
  legal : Nat
  frozen : Bool
  bundleSeq : Nat
  fields : Store
  quants : Tab Quantity
  subs : List SubInt
  subStart : Nat
  sessions : Tab BillSess
  deriving DecidableEq, Repr

/-- A segment of the Millefeuille (spec/15 Table 15-3, R413): the area whose log it belongs to (the class codes 0–5; 6 erased, 7 spare, 8
retired), its erase count, its place in the log, coded blocks programmed. -/
structure Seg where
  area : Nat
  erases : Nat
  place : Nat
  blocks : Nat
  deriving DecidableEq, Repr

/-- The segments written or erased since manufacture, the next place in a log, segments taken from an area for want of a spare (spec/15
R412). -/
structure Flash where
  segs : Tab Seg
  next : Nat
  taken : Tab Nat
  deriving DecidableEq, Repr

/-- A segment as manufactured: 448 erased, 64 spare. -/
def Seg.fresh (n : Nat) : Seg := { area := if n < 448 then 6 else 7, erases := 0, place := 0, blocks := 0 }

/-- The Millefeuille as manufactured. -/
def Flash.reset : Flash := { segs := [], next := 1, taken := [] }

/-- Durable state beside objects and journal: both checkpoint copies, newest deep checkpoint and the bundle and stamp it was taken at, the
state at the last index of a whole second that waits to be committed, whether the freeze in force is committed, whether its residual record stood at the last field-side
reset, counters of R36 as last checkpointed and when, hot-tier scrub (rows corrected in the last one, its stamp), UTC day of the quotas,
bytes appended on the last 29 days, stamps of corrections by region × 2^32 + row, cores whose takeover is approved, the segments of the
Millefeuille. -/
structure Dur where
  a : Option Checkpoint
  b : Option Checkpoint
  deep : Option Checkpoint
  deepBundle : Nat
  deepAt : Nat
  ready : Option Checkpoint
  frozenDone : Bool
  residual : Bool
  ecc : Store
  eccAt : Nat
  hotRows : List Nat
  hotAt : Nat
  day : Nat
  days : List Nat
  sram : Tab (List Nat)
  approved : List Nat
  flash : Flash
  deriving DecidableEq, Repr

/-- Nothing written yet. -/
def Dur.reset : Dur :=
  { a := none, b := none, deep := none, deepBundle := 0, deepAt := 0, ready := none, frozenDone := false, residual := false, ecc := [],
    eccAt := 0, hotRows := [], hotAt := 0, day := 0, days := [], sram := [], approved := [], flash := Flash.reset }

end Sys2Proof.Machine
end

