-- ==== Sys2Proof/Machine/StateJournal.lean ====
section
/-! DEFINITION. The state of the journal: records in the staging ring and in the areas of the Millefeuille (spec/15). -/

namespace Sys2Proof.Machine

/-- A sealed record (spec/15 R410, Table 15-4), with whether an uncorrectable block has lost it (Table 1-6) and the segment that holds it (512
none: in the staging ring). -/
structure Record where
  cls : Nat
  flags : Nat
  typ : Nat
  len : Nat
  data : Nat
  seq : Nat
  siteTime : Nat
  legal : Nat
  lost : Bool
  seg : Nat
  deriving DecidableEq, Repr

/-- The journal: sealed records of the staging ring, oldest first (spec/15 R408), records in flash by rising age, next sequence number of
each class, outcome of each core's latest append on each page (by 8 × core + class; R411). -/
structure Journal where
  ring : List Record
  flash : List Record
  seqs : Tab Nat
  results : Tab Nat
  deriving DecidableEq, Repr

/-- An empty journal: sequence numbers start at 1 (spec/15 Table 15-4). -/
def Journal.reset : Journal := { ring := [], flash := [], seqs := [], results := [] }

/-- Coded bytes of a record in the ring: header, payload and seal in whole blocks of 36 (spec/15 R410, spec/01 R34). -/
def Record.coded (r : Record) : Nat := (2 + (r.len + 31) / 32) * 36

/-- Parts of 4,032 bytes an image's module is kept in (spec/15 R410; notes/assumptions/46.md). -/
def imageParts (len : Nat) : Nat := (len + 4031) / 4032

/-- The staging ring's size (spec/15 Table 15-2). -/
def ringSize : Nat := 2 * 1024 * 1024

/-- Coded bytes held in the ring. -/
def Journal.held (j : Journal) : Nat := j.ring.foldl (fun n r => n + r.coded) 0

end Sys2Proof.Machine
end

