-- ==== Sys2Proof/Machine/StateKerb.lean ====
section
/-! DEFINITION. The state of the Kerb (spec/04). Powers in W, currents in mA, voltages in mV, signs of spec/00 R1. -/

namespace Sys2Proof.Machine

/-- What a proposal asks for one outlet (spec/04 Table 4-1). -/
structure PropOutlet where
  iMax : Int
  iMin : Int
  pMax : Int
  vMax : Int
  prio : Nat
  deriving DecidableEq, Repr

/-- A proposal held in the queue (spec/04 R111, Table 4-1). -/
structure Proposal where
  epoch : Nat
  core : Nat
  stamp : Nat
  mask : Nat
  assist : Bool
  tag : Nat
  pBat : Int
  vbus : Int
  rectLim : List Nat
  outs : List PropOutlet
  deriving DecidableEq, Repr

/-- One outlet's entry of an epoch (spec/04 Table 4-9); `cable` is set while its converter is before transfer, so its draw is a reserve. -/
structure Entry where
  iMax : Int
  iMin : Int
  pMax : Int
  pMin : Int
  vMax : Int
  prio : Nat
  tag : Nat
  proposer : Nat
  origin : Nat
  clamps : Nat
  deriving DecidableEq, Repr

/-- An epoch the Kerb holds or retains (spec/04 Table 4-9): `closed` once its composition is fixed (R110), `gone` the outlets (12 the battery)
whose entry a retraction deleted since the latest commit (R122), `stamp` of its latest commit. -/
structure Epoch where
  num : Nat
  t0 : Nat
  state : Nat
  retractions : Nat
  lEff : Int
  bMax : Int
  importW : Int
  bus : Int
  pBat : Int
  vbus : Int
  rectLim : List Nat
  assist : Bool
  siteClamps : Nat
  closed : Bool
  gone : List Nat
  stamp : Nat
  outs : List Entry
  deriving DecidableEq, Repr

/-- Caps of a retraction that heads and the control engine hold (spec/04 R122): outlet (12 the battery), first epoch, current cap and
power cap. -/
structure Cap where
  outlet : Nat
  first : Nat
  iCap : Int
  pCap : Int
  deriving DecidableEq, Repr

/-- The values in force for one outlet (spec/04 R118, R125). -/
structure Force where
  iMax : Int
  iMin : Int
  pMax : Int
  pMin : Int
  vMax : Int
  prio : Nat
  deriving DecidableEq, Repr

/-- A fast-path override (spec/04 R125): outlets' bounds, battery power, when it was set. -/
structure Override where
  outs : List Force
  pBat : Int
  stamp : Nat
  deriving DecidableEq, Repr

/-- What was in force before the last change of it (spec/05 R139): bounds, battery power, bus reference, rectifier limits, override. -/
structure Prior where
  outs : List Force
  bat : Int
  vbus : Int
  rectLim : List Nat
  override : Option Override
  deriving DecidableEq, Repr

/-- The Kerb: started, epoch in progress with its t0 and length, the length that the next boundary brings, proposals, epochs by number
modulo 16, caps held, override, consecutive carry-forwards and stale flag per outlet, values in force since the last activation instant,
battery power in force, inputs last used (l_eff, b_max), whether an epoch is in progress, the epoch last activated plus 1, number of the
last retraction. `staleAt` is the epoch whose carry-forward entry made an outlet stale (R115);
`forceAt` is the instant since which what is in force is so, `prior` what was before (spec/05 R139). -/
structure Kerb where
  started : Bool
  cur : Nat
  t0 : Nat
  len : Nat
  props : List Proposal
  epochs : Tab Epoch
  caps : List Cap
  override : Option Override
  carries : Tab Nat
  stale : Tab Bool
  staleAt : Tab Nat
  force : List Force
  forceBat : Int
  forceVbus : Int
  forceRect : List Nat
  forceAt : Nat
  prior : Option Prior
  lastL : Int
  lastB : Int
  seq : Nat
  begun : Bool
  activated : Nat
  retractNo : Nat
  deriving DecidableEq, Repr

/-- An entry of zeros. -/
def Entry.zero : Entry :=
  { iMax := 0, iMin := 0, pMax := 0, pMin := 0, vMax := 0, prio := 0, tag := 0, proposer := 255, origin := 1, clamps := 0 }

/-- An epoch of zeros: what an epoch with no committed predecessor carries forward (spec/04 R114). -/
def Epoch.zero : Epoch :=
  { num := 0, t0 := 0, state := 0, retractions := 0, lEff := 0, bMax := 0, importW := 0, bus := 0, pBat := 0, vbus := 0,
    rectLim := [0, 0, 0, 0], assist := false, siteClamps := 0, closed := false, gone := [], stamp := 0, outs := [] }

/-- Bounds of zero. -/
def Force.zero : Force := { iMax := 0, iMin := 0, pMax := 0, pMin := 0, vMax := 0, prio := 0 }

/-- The Kerb before it starts (spec/04 R107). -/
def Kerb.reset : Kerb :=
  { started := false, cur := 0, t0 := 0, len := 0, props := [], epochs := [], caps := [], override := none, carries := [], stale := [], staleAt := [],
    force := [], forceBat := 0, forceVbus := 0, forceRect := [0, 0, 0, 0], forceAt := 0, prior := none, lastL := 0, lastB := 0, seq := 0, begun := false, activated := 0, retractNo := 0 }

end Sys2Proof.Machine
end

