-- ==== Sys2Proof/Machine/StateKeys.lean ====
section
/-! DEFINITION. The state of HK: key slots, pralines loaded, keys of the device (spec/14 R389–R394). -/

namespace Sys2Proof.Machine

/-- A slot that holds a private or secret key (spec/14 Table 14-9): the praline it came from (1024 for a transient key), algorithm, attribute
(codes of Table 14-11), pinned, key, and the use count at its last use. -/
structure KeySlot where
  praline : Nat
  alg : Nat
  attr : Nat
  pin : Bool
  key : Nat
  used : Nat
  deriving DecidableEq, Repr

/-- A key operation a field engine has asked for and has no answer to (spec/14 R394, spec/01 R26): its tag, reference, operation, core,
data. -/
structure KeyPend where
  tag : Nat
  ref : Nat
  op : KeyOp
  core : Nat
  data : Payload
  deriving DecidableEq, Repr

/-- HK: slots 8–63, count of uses, keys generated so far, whether the identity key, the root key and the legal signing key exist, seals so
far, modulus of the integrator image key, stamp of an unused approval, operations without an answer, stamp of the last change
statement, references whose record in host NV is lost (spec/01 Table 1-6). -/
structure Keys where
  slots : Tab KeySlot
  uses : Nat
  made : Nat
  identity : Bool
  root : Bool
  legal : Option Nat
  seals : Nat
  integrator : Option Nat
  approval : Option Nat
  pend : List KeyPend
  lastChange : Nat
  stated : Nat
  unusable : List Nat
  deriving DecidableEq, Repr

/-- HK as it leaves manufacture (spec/14 Table 14-9): identity and root key; no legal key, no integrator key. -/
def Keys.reset : Keys :=
  { slots := [], uses := 0, made := 0, identity := true, root := true, legal := none, seals := 0, integrator := none, approval := none,
    pend := [], lastChange := 0, stated := 0, unusable := [] }

end Sys2Proof.Machine
end

