-- ==== Sys2Proof/Machine/StateLane.lean ====
section
/-! DEFINITION. The state of lanes, avenues and mailboxes (spec/12). -/

namespace Sys2Proof.Machine

/-- One lane end (spec/12 R317–R319): stamp of entry into its state, own receiver locked, TB sent and received, consecutive failures, wait
before DETECT is left again, partner's hop record, stamp of the GENCHG it retrains for, next frame number (on a host lane the frames taken so far), number of the frame last returned. -/
structure LaneRec where
  since : Nat
  locked : Bool
  sent : Nat
  got : Nat
  fails : Nat
  waitUntil : Nat
  hop : Option HopRec
  genAt : Option Nat
  frame : Nat
  back : Nat
  deriving DecidableEq, Repr

/-- Service content waiting for a slot (spec/12 R327): precedence (0 retraction, 1 safety item, 2 SCHED, 3 entry, 4 mailbox), slots it
still needs, head a mailbox message goes to (48 for other content), what it is. -/
structure Svc where
  prec : Nat
  left : Nat
  head : Nat
  item : Out
  deriving DecidableEq, Repr

/-- An avenue (spec/12 R322–R340): step of formation (0 none, 1 DISCOVER, 2 ranging, 3 records, 4 change of generation, 5 ranging again),
offsets by 2 × position + lane, heads whose record has come, heads placed in every schedule, heads with upstream service content, broken
hops, slot whose injection covered the split, heads whose command block has left since their lane's last frame, service content by lane. -/
structure Avn where
  forming : Nat
  offsets : Tab Nat
  records : Nat
  placed : Nat
  pend : Nat
  broken : List Nat
  splitSlot : Option Nat
  told : Nat
  svc : Tab (List Svc)
  deriving DecidableEq, Repr

/-- What a head has counted since its last heartbeat was taken (spec/18 R472) and its mailbox's message number. -/
structure HeadCount where
  absent : Nat
  bad : Nat
  late : Nat
  dropped : Nat
  temp : Int
  seq : Nat
  deriving DecidableEq, Repr

/-- Lanes by lane.state index, avenues, heads. -/
structure Lanes where
  lanes : Tab LaneRec
  avns : Tab Avn
  heads : Tab HeadCount
  deriving DecidableEq, Repr

/-- A lane in DETECT. -/
def LaneRec.reset : LaneRec :=
  { since := 0, locked := false, sent := 0, got := 0, fails := 0, waitUntil := 0, hop := none, genAt := none, frame := 0, back := 0 }
/-- An avenue not formed. -/
def Avn.reset : Avn :=
  { forming := 0, offsets := [], records := 0, placed := 0, pend := 0, broken := [], splitSlot := none, told := 0, svc := [] }
/-- A head nothing is known of. -/
def HeadCount.reset : HeadCount := { absent := 0, bad := 0, late := 0, dropped := 0, temp := 0, seq := 0 }
/-- Lanes at reset. -/
def Lanes.reset : Lanes := { lanes := [], avns := [], heads := [] }

end Sys2Proof.Machine
end

