-- ==== Sys2Proof/Machine/StateLink.lean ====
section
/-! DEFINITION. The state of the link partition's sessions (spec/09). -/

namespace Sys2Proof.Machine

/-- SLAC matching of one plug-in (spec/09 R241): run in progress, sounds announced and received, sum of their attenuations, accepted,
NMK drawn for the match. -/
structure Slac where
  run : Option Nat
  sounds : Nat
  got : Nat
  sum : Nat
  accepted : Bool
  nmk : Option Nat
  deriving DecidableEq, Repr

/-- One outlet's session (spec/09 R239–R256): state of Table 9-5, pilot class reported and since when, class that counts (codes of
spec/12 Table 12-8); deadlines of Table 9-6 and the end of the 4 s at 100 %; returns to Plugged; SLAC; port drawn, TCP connected, TLS up;
protocol and service codes of Table 9-11; scheduled mode; authorisation (0 none, 1 pending, 2 accepted, 3 authorised), how it was asked
(PnC), its chain's validity, EIM acceptance; parameters exchanged, maxima, BPT; PreChargeReq and PowerDeliveryReq start received, their
voltages, targets; vehicle's state of charge, departure and energy request; stop recorded (stamp, whether immediate); welded. -/
structure Sess where
  st : Nat
  raw : Nat
  rawAt : Nat
  pilot : Nat
  tSlac : Option Nat
  tRetry : Option Nat
  tSetup : Option Nat
  tSeq : Option Nat
  tAuth : Option Nat
  tCc : Option Nat
  tWeld : Option Nat
  retries : Nat
  slac : Slac
  port : Nat
  tcp : Bool
  tls : Bool
  tlsDue : Bool
  proto : Nat
  service : Nat
  scheduled : Bool
  auth : Nat
  pnc : Bool
  pncOk : Bool
  eim : Bool
  params : Bool
  bpt : Bool
  iMax : Nat
  vMax : Nat
  pMax : Nat
  iDis : Nat
  pcReq : Bool
  pd : Bool
  vTest : Nat
  vPc : Nat
  vTarget : Nat
  iTarget : Nat
  iDisTarget : Nat
  soc : Nat
  departure : Nat
  energy : Nat
  stopAt : Option Nat
  stopImm : Bool
  welded : Bool
  deriving DecidableEq, Repr

/-- SLAC not begun. -/
def Slac.reset : Slac := { run := none, sounds := 0, got := 0, sum := 0, accepted := false, nmk := none }

/-- An Idle session. -/
def Sess.reset : Sess :=
  { st := 0, raw := 0, rawAt := 0, pilot := 0, tSlac := none, tRetry := none, tSetup := none, tSeq := none, tAuth := none, tCc := none,
    tWeld := none, retries := 0, slac := Slac.reset, port := 0, tcp := false, tls := false, tlsDue := false, proto := 0, service := 0,
    scheduled := false, auth := 0, pnc := false, pncOk := false, eim := false, params := false, bpt := false, iMax := 0, vMax := 0,
    pMax := 0, iDis := 0, pcReq := false, pd := false, vTest := 0, vPc := 0, vTarget := 0, iTarget := 0, iDisTarget := 0, soc := 255,
    departure := 0, energy := 0, stopAt := none, stopImm := false, welded := false }

end Sys2Proof.Machine
end

