-- ==== Sys2Proof/Machine/StateNet.lean ====
section
/-! DEFINITION. The state of the site networks (spec/13): what the node table remembers beside its objects, CAN channels, the mesh. -/

namespace Sys2Proof.Machine

/-- What FN remembers of a node-table entry (spec/13 R350–R354): end of the grace of R352, stamp of a rectifier's last status frame, trip
(0 none, 1 it went LOST on a reported trip, 2 a status frame has shown tripped clear since), mesh bootstrap completed, length of the blob
being written (0 none) with its parts so far, and a CONFIG transfer in progress (0 none, 1 first, 2 restarted), sequence number of mesh messages,
retries, LQI and route length since the last heartbeat (spec/18 R472). -/
structure NodeRec where
  graceAt : Option Nat
  statusAt : Nat
  trip : Nat
  booted : Bool
  staged : Nat
  parts : Tab Nat
  xfer : Nat
  seq : Nat
  retries : Nat
  lqi : Nat
  hops : Nat
  deriving DecidableEq, Repr

/-- A receive buffer (spec/13 R358, R359): filled and not released, lock (core, stamp). Its words stand in the effect page. -/
structure CanBuf where
  filled : Bool
  lock : Option (Nat × Nat)
  deriving DecidableEq, Repr

/-- A frame in a channel's transmit queue (spec/13 R361, R362): group (0 SYNC, 1 safe data, 2 other device frames, 3 auxiliary), slot of an
auxiliary request with its core, header, data, retries left allowed, attempts made, deadline (0 none), node it goes to. -/
structure CanReq where
  cls : Nat
  slot : Option (Nat × Nat)
  ide : Bool
  fdf : Bool
  brs : Bool
  id : Nat
  dlc : Nat
  data : Nat
  retries : Nat
  attempts : Nat
  deadline : Nat
  node : Nat
  deriving DecidableEq, Repr

/-- A CAN channel (spec/13): buffers 32–63 and the high-priority buffer as 64, next buffer of each filter's rotation, frames received by each
filter, frame being transmitted, transmit queue in its order, stamps of its bus-offs within 60 s, whether it is held because of a
bus-off during an injection (spec/18 R477). -/
structure CanChan where
  bufs : Tab CanBuf
  turn : Tab Nat
  got : Tab Nat
  cur : Option CanReq
  queue : List CanReq
  offs : List Nat
  injHeld : Bool
  deriving DecidableEq, Repr

/-- An AUX message waiting to be acknowledged end to end: core, slot, node, length and bytes as the doorbell found them. -/
structure MeshReq where
  core : Nat
  slot : Nat
  node : Nat
  len : Nat
  data : Nat
  deriving DecidableEq, Repr

/-- The mesh (spec/13 R364–R372): receive slots, messages dropped, requests not yet acknowledged, whether the oldest that waits for no route is out at the mesh head, carrier sensed, frames waiting for a route repair (core × 8 + slot, node, when it began), neighbours whose refresh was asked for, group master key generation and its stamp. -/
structure Mesh where
  slots : Tab CanBuf
  dropped : Nat
  reqs : List MeshReq
  txOut : Bool
  busy : Bool
  waiting : List (Nat × Nat × Nat)
  asked : Tab Bool
  gmkNo : Nat
  gmkAt : Nat
  deriving DecidableEq, Repr

/-- The site networks: entries, channels, mesh. -/
structure Networks where
  nodes : Tab NodeRec
  chans : Tab CanChan
  mesh : Mesh
  deriving DecidableEq, Repr

/-- An entry nothing is remembered of. -/
def NodeRec.reset : NodeRec := { graceAt := none, statusAt := 0, trip := 0, booted := false, staged := 0, parts := [], xfer := 0, seq := 0,
                                 retries := 0, lqi := 0, hops := 0 }
/-- A free buffer. -/
def CanBuf.reset : CanBuf := { filled := false, lock := none }
/-- A channel at reset. -/
def CanChan.reset : CanChan := { bufs := [], turn := [], got := [], cur := none, queue := [], offs := [], injHeld := false }
/-- The mesh at reset. -/
def Mesh.reset : Mesh :=
  { slots := [], dropped := 0, reqs := [], txOut := false, busy := false, waiting := [], asked := [], gmkNo := 0,
    gmkAt := 0 }
/-- The networks at reset. -/
def Networks.reset : Networks := { nodes := [], chans := [], mesh := Mesh.reset }

end Sys2Proof.Machine
end

