-- ==== Sys2Proof/Machine/StatePage.lean ====
section
/-! DEFINITION. The outlet command page as FC takes it (spec/09 R252, Table 9-8). -/

namespace Sys2Proof.Machine

/-- The fields of an outlet command page that were handed over with its last request word (spec/09 Table 9-8), the pilot duty staged since,
and the stamp of the last request word (R254). -/
structure CmdPage where
  request : Nat
  reason : Nat
  state : Nat
  bpt : Bool
  vSet : Nat
  iTarget : Nat
  iDisTarget : Nat
  vTest : Nat
  vPc : Nat
  iEvMax : Nat
  vEvMax : Nat
  pEvMax : Nat
  iEvDis : Nat
  pilotDuty : Nat
  stagedDuty : Nat
  at_ : Nat
  deriving DecidableEq, Repr

/-- The page at reset (spec/09 Table 9-8). -/
def CmdPage.reset : CmdPage :=
  { request := 0, reason := 0, state := 0, bpt := false, vSet := 0, iTarget := 0, iDisTarget := 0, vTest := 0, vPc := 0, iEvMax := 0,
    vEvMax := 0, pEvMax := 0, iEvDis := 0, pilotDuty := 1000, stagedDuty := 1000, at_ := 0 }

end Sys2Proof.Machine
end

