-- ==== Sys2Proof/Machine/StatePins.lean ====
section
/-! DEFINITION. The state of the tamper loops and of the metrology test pulse (spec/17 R460, R461). -/

namespace Sys2Proof.Machine

/-- A tamper loop: class of the last check from VHOST (0 closed), since when none found it closed, whether that opening is counted, an
opening found from VBAT with its class and legal time. -/
structure Loop where
  cls : Nat
  since : Option Nat
  counted : Bool
  latched : Option (Nat × Nat)
  deriving DecidableEq, Repr

/-- The loops; the selected register as last seen by the pulse counter, µWh since the last multiple, end of the low time after the last pulse. -/
structure Pins where
  loops : Tab Loop
  pulseLast : Int
  pulseSum : Nat
  pulseEnd : Nat
  deriving DecidableEq, Repr

/-- A loop never checked. -/
def Loop.reset : Loop := { cls := 0, since := none, counted := false, latched := none }
/-- Nothing checked, no pulse counted. -/
def Pins.reset : Pins := { loops := [], pulseLast := 0, pulseSum := 0, pulseEnd := 0 }

end Sys2Proof.Machine
end

