-- ==== Sys2Proof/Machine/StateSafe.lean ====
section
/-! DEFINITION. The state of the two safety channels, the safe outputs and the safe-data streams (spec/10). -/

namespace Sys2Proof.Machine

/-- What a channel takes at its next cycle (spec/10 R261, R277): restrictive content of a first copy, an accepted kind-1 item, an accepted
kind-3 item, a stream of an outlet fallen to its safe state; with the outlet or head. -/
inductive SafeIn
  | first (o st : Nat)
  | fail (o : Nat)
  | item1 (o st vConn vConv : Nat)
  | item3 (h st : Nat)
  deriving DecidableEq, Repr

/-- A channel's view of an outlet head (spec/10 Table 10-3 kind 1): state and voltages accepted last, contactor feedback in the latest accepted
or first copy, consecutive accepted items that allow an unlock (R282), when one was accepted last. -/
structure View1 where
  st : Nat
  vConn : Nat
  vConv : Nat
  fb : Nat
  clear : Nat
  at_ : Option Nat
  deriving DecidableEq, Repr

/-- A channel's view of a stage head (kind 3): state accepted last and when. -/
structure View3 where
  st : Nat
  at_ : Option Nat
  deriving DecidableEq, Repr

/-- One safety channel (spec/10 R261–R269): whether it runs, start of its last cycle, cycle count; filtered levels (bits 0–4: ESTOP_A,
ESTOP_B, GUARD_A, GUARD_B, SRESET) and contrary samples of each; per pair (0 ESTOP, 1 GUARD): since when its lands differ, progress of
leaving a discrepancy, since when it is healthy; discrepancies and functions in force; filtered fall of SRESET, edge accepted; masks
of permissions, contactor closing and unlock it grants; differing comparison records in a row; views; items not taken yet; start of the
1 s window of R263 with both counts then. -/
structure Chn where
  started : Bool
  at_ : Nat
  cycles : Nat
  lvl : Nat
  cnt : Tab Nat
  diff : Tab Nat
  prog : Tab Nat
  okAt : Tab Nat
  disc : Nat
  sf1 : Bool
  sf2 : Bool
  fall : Option Nat
  edge : Option Nat
  permit : Nat
  close : Nat
  unlock : Nat
  diffs : Nat
  v1 : Tab View1
  v3 : Tab View3
  inbox : List (Nat × SafeIn)
  winAt : Nat
  winOwn : Nat
  winOther : Nat
  deriving DecidableEq, Repr

/-- A first copy that waits for its partner (spec/10 R277): network, seq, item bytes, stamp, whether its absence has been declared. -/
structure Pend where
  net : Sys2Proof.Net
  seq : Nat
  item : Nat
  t1 : Nat
  gone : Bool
  deriving DecidableEq, Repr

/-- The receiving side of a stream (spec/10 R276, R277): last accepted seq, discards in a row, waiting copies, stamp of the last acceptance
and whether the watchdog has acted since. -/
structure Recv where
  last : Option Nat
  discards : Nat
  pends : List Pend
  okAt : Nat
  out : Bool
  deriving DecidableEq, Repr

/-- The sending side of a stream: seq, content (cmd_a, cmd_b) and stamp of the last item. -/
structure Sent where
  seq : Nat
  cmd : Nat
  at_ : Option Nat
  deriving DecidableEq, Repr

/-- What the channels hold of an outlet (spec/10 R279–R285): SF3 and SF5 demands (bits 0 request 5, 1 vehicle emergency stop, 2 SAFETY stop,
3 safe data, 4 trip, 5 contactor discrepancy, 6 a SAFETY stop released that waits for OFF and Idle), whether it must be OFF before it is permitted again (R286), when contactor closing is to be
withdrawn, whether it is granted and when it was withdrawn last, no-weld verdict, since when a feedback is open while closing is granted,
whether SF6 holds it, since when its stage heads confirm gates off and whether v_conv
has read 11 or less since. -/
structure OutSafe where
  stop : Nat
  after : Bool
  closeEnd : Option Nat
  closing : Bool
  withdrawnAt : Nat
  noWeld : Bool
  openSince : Option Nat
  held : Bool
  gatesAt : Option Nat
  discharged : Bool
  deriving DecidableEq, Repr

/-- A safe output group (spec/10 R270–R273): step (0 off, 1 HS on, 2 both on and unchecked, 3 on), stamp of the last command. -/
structure Grp where
  step : Nat
  at_ : Nat
  deriving DecidableEq, Repr

/-- The safety functions: channels, outlets, receiving streams of kinds 1 and 3, sending streams of kinds 0 and 2, groups; stamps at which
the preconditions of SAFE-HOLD's causes were last met (1 channel fault, 2 group fault, 3 thermal; R430). -/
structure Safe where
  sa : Chn
  sb : Chn
  outs : Tab OutSafe
  recv1 : Tab Recv
  recv3 : Tab Recv
  sent0 : Tab Sent
  sent2 : Tab Sent
  groups : Tab Grp
  clearAt : Tab Nat
  deriving DecidableEq, Repr

/-- Nothing heard of an outlet head. -/
def View1.reset : View1 := { st := 0, vConn := 255, vConv := 255, fb := 0, clear := 0, at_ := none }
/-- Nothing heard of a stage head. -/
def View3.reset : View3 := { st := 0, at_ := none }
/-- A channel before its first cycle. -/
def Chn.reset : Chn :=
  { started := false, at_ := 0, cycles := 0, lvl := 0, cnt := [], diff := [], prog := [], okAt := [], disc := 0, sf1 := false, sf2 := false,
    fall := none, edge := none, permit := 0, close := 0, unlock := 0, diffs := 0, v1 := [], v3 := [], inbox := [], winAt := 0,
    winOwn := 0, winOther := 0 }
/-- A stream with nothing received. -/
def Recv.reset : Recv := { last := none, discards := 0, pends := [], okAt := 0, out := false }
/-- A stream with nothing sent. -/
def Sent.reset : Sent := { seq := 0, cmd := 0, at_ := none }
/-- An outlet at the start of the channels. -/
def OutSafe.reset : OutSafe :=
  { stop := 0, after := false, closeEnd := none, closing := false, withdrawnAt := 0, noWeld := false, openSince := none, held := false,
    gatesAt := none, discharged := false }
/-- A group switched off. -/
def Grp.reset : Grp := { step := 0, at_ := 0 }
/-- The safety functions at a reset of the field side. -/
def Safe.reset : Safe :=
  { sa := Chn.reset, sb := Chn.reset, outs := [], recv1 := [], recv3 := [], sent0 := [], sent2 := [], groups := [], clearAt := [] }

end Sys2Proof.Machine
end

