-- ==== Sys2Proof/Machine/StateSite.lean ====
section
/-! DEFINITION. The state of the Causeway and of site time (spec/01). -/

namespace Sys2Proof.Machine

/-- A message a Causeway half keeps until it is acknowledged (spec/01 R16): how often it was sent on the link in service, whether it was ever
sent, the instants of its first and last byte on the wire. It takes its lseq when it first enters the link. -/
structure Kept where
  msg : CwMsg
  sends : Nat
  sent : Bool
  startAt : Nat
  lastAt : Nat
  deriving DecidableEq, Repr

/-- One direction of the Causeway, named by its sending side (spec/01 R16): next number to send, next number the receiver expects, the
messages kept, how many messages the receiver has delivered. -/
structure CwDir where
  nextSeq : Nat
  expected : Nat
  kept : List Kept
  delivered : Nat
  deriving DecidableEq, Repr

/-- What the field side keeps for the host side in the journal while that is absent, in one order (spec/01 R13): a notification for a port,
a key request, a receipt. -/
inductive Queued
  | notify (port obj idx : Nat) (ack : Bool) (payload : Payload)
  | key (tag core : Nat)
  | receipt (no : Nat)
  deriving DecidableEq, Repr

/-- The Causeway (spec/01 R13–R18): link in service (0 A, 1 B), whether B is down, stamps of the uncorrectable blocks of the last
second on the link in service, next retrain of B, the two directions, whether each side sees the other as absent and the stamp of the
last STATUS it had, what the field side queued for the host side, BULK transfers (by 2 × number + receiving side: next chunk, 1 once the
last has come, bytes so far), what diag.causeway shows at the next STATUS (by 4 × link: sent, resent, LNAKs, lock losses; spec/18 R472),
stamp at which link A was taken out of service, request whose RESET awaits its LACK (spec/16 R436), the sides in a cold reset not yet left. -/
structure Causeway where
  link : Fin 2
  down : Bool
  retrainAt : Nat
  uncorr : List Nat
  toField : CwDir
  toHost : CwDir
  hostAbsent : Bool
  hostHeard : Nat
  fieldAbsent : Bool
  fieldHeard : Nat
  hostAbsentSince : Nat
  queued : List Queued
  bulk : Tab (Nat × Nat × Payload)
  counts : Tab Nat
  retiredAt : Nat
  resetAsk : Option Req
  hostCold : Bool
  fieldCold : Bool
  deriving DecidableEq, Repr

/-- The states of site time (spec/01 R30). -/
inductive TimeBase | locked | free | holdover | degraded
  deriving DecidableEq, Repr

/-- The real-time clock (spec/08 R213): the UTC second it last showed and the site time of that second's edge, oscillator cycles its trim has
added since then, the part of a cycle still to be added in 10^-8. -/
structure Rtc where
  second : Nat
  at_ : Int
  cycles : Int
  frac : Int
  deriving DecidableEq, Repr

/-- Site time's discipline (spec/01 R28–R31): increment per cycle and calibrated nominal in 2^-32 ns, stamp of the last trim, state, the
pair (site time, UTC) and the one in force before it, the mark that the next TIME labels, last accepted mark of each source, source of the series, intervals of the
series (newest first, at most 16), accepted marks since reset, rejected marks, field clock fallback engaged and
since when, legal time invalid (spec/08 R215), whether the last TIME said the RTC gives the marks (R214), stamp of the last of R213's
32 s trims, the real-time clock. -/
structure Clock where
  inc : Nat
  nominal : Nat
  trimAt : Nat
  base : TimeBase
  pair : Option (Nat × Nat)
  before : Option (Nat × Nat)
  mark : Option Nat
  lastHsync : Option Nat
  lastRtc : Option Nat
  series : Option MarkSource
  intervals : List Nat
  accepted : Nat
  rejected : Nat
  fallback : Bool
  fallbackAt : Nat
  legalInvalid : Bool
  rtcMark : Bool
  trimmedAt : Nat
  rtc : Rtc
  deriving DecidableEq, Repr

/-- 4.8828125 ns in units of 2^-32 ns (spec/01 "Site time"). -/
def nominalInc : Nat := 48828125 * 2 ^ 32 / 10000000

/-- Site time at a reset of the field side (spec/01 R28, R30). -/
def Clock.reset : Clock :=
  { inc := nominalInc, nominal := nominalInc, trimAt := 0, base := .free, pair := none, before := none, mark := none, lastHsync := none,
    lastRtc := none, series := none, intervals := [], accepted := 0, rejected := 0, fallback := false, fallbackAt := 0,
    legalInvalid := false, rtcMark := false, trimmedAt := 0,
    rtc := { second := 0, at_ := 0, cycles := 0, frac := 0 } }

/-- An idle direction. -/
def CwDir.reset : CwDir := { nextSeq := 0, expected := 0, kept := [], delivered := 0 }

/-- The Causeway at power-up: link A in service (spec/01 "The Causeway"). -/
def Causeway.reset : Causeway :=
  { link := 0, down := false, retrainAt := 0, uncorr := [], toField := CwDir.reset, toHost := CwDir.reset, hostAbsent := false,
    hostHeard := 0, fieldAbsent := false, fieldHeard := 0, hostAbsentSince := 0, queued := [], bulk := [], counts := [], retiredAt := 0, resetAsk := none,
    hostCold := false, fieldCold := false }

end Sys2Proof.Machine
end

