-- ==== Sys2Proof/Machine/StateSup.lean ====
section
/-! DEFINITION. The state of supplies, start-up, resets and watchdogs (spec/16). -/

namespace Sys2Proof.Machine

/-- Power and start-up (spec/16 R432–R443): PFAILF_N low since an edge; the power-fail warning in force, with t_f and whether it is the
internal one; whether its 100 ms hold has acted; PFAILH_N low; supply warnings in force; VBAT low; last kick of each watchdog source;
stamps of field watchdog resets within 1 h; watchdog loop; host side out of reset and serving; field side out of reset; steps of start-up
done; stamp of power good; straps; host recovery; end of WDO_N's 100 ms after a watchdog reset; number of mode.reset entries written;
when the host side last left reset; outputs driven (land code, high); site time at the field side's resets
added up. -/
structure Sup where
  pfailf : Option Nat
  warn : Option (Nat × Bool)
  warnHeld : Bool
  pfailhLow : Bool
  fieldWarn : Bool
  hostWarn : Bool
  vbatLow : Bool
  kicks : Tab Nat
  wdResets : List Nat
  wdLoop : Bool
  hostUp : Bool
  hostServing : Bool
  fieldUp : Bool
  bootStep : Nat
  goodAt : Nat
  straps : Nat
  recovery : Bool
  wdoUntil : Nat
  resets : Nat
  hostUpAt : Nat
  lands : Tab Bool
  upBase : Nat
  deriving DecidableEq, Repr

/-- Before power: both sides in reset, no warning in force. -/
def Sup.reset : Sup :=
  { pfailf := none, warn := none, warnHeld := false, pfailhLow := false, fieldWarn := false, hostWarn := false, vbatLow := false, kicks := [],
    wdResets := [], wdLoop := false, hostUp := false, hostServing := false, fieldUp := false, bootStep := 0, goodAt := 0, straps := 0,
    recovery := false, wdoUntil := 0, resets := 0, hostUpAt := 0, lands := [], upBase := 0 }

end Sys2Proof.Machine
end

