-- ==== Sys2Proof/Machine/State.lean ====
section
/-! DEFINITION. The state of the AMN-12, its faults and refusals, and the state after reset. -/

namespace Sys2Proof.Machine

/-- The state: queue of commands, largest stamp, free-value counter, what was sent, object fields, change counters, bytes, cores, and the
engines chapter by chapter. -/
structure State where
  pending : List Instr
  now : Nat
  free : Nat
  out : List Out
  objs : Store
  chg : Tab Nat
  mem : List Host.Cell
  jr : Journal
  cores : Tab Core
  imgs : Images
  openChan : Tab ChanMsg
  cway : Causeway
  clk : Clock
  kerb : Kerb
  pages : Tab CmdPage
  ctl : Ctl
  cool : Cool
  met : Met
  bill : Bill
  link : Tab Sess
  safe : Safe
  net : Networks
  sup : Sup
  lanes : Lanes
  diag : Diag
  hosts : Hosts
  keys : Keys
  batt : Batt
  dur : Dur
  pins : Pins
  deriving DecidableEq, Repr

/-- Reasons a step can stop with a fault: none is raised, since every command of this block has an effect on State. -/
inductive Fault
  /-- Raised by no command; safe. -/
  | none
  deriving DecidableEq, Repr

/-- Reasons a step can be refused. -/
inductive Refusal
  /-- Raised by an arm of exec whose command has no meaning yet; safe. -/
  | notModelled (mnemonic : String)
  deriving DecidableEq, Repr

/-- What a meaning answers. -/
abbrev Res := Host.Outcome State Fault Refusal

/-- The machine right after its first reset: both sides in reset, nothing in any register, memory or queue but the reset values the spec
states and those notes/assumptions/5.md names. -/
def State.reset : State :=
  { pending := []
    now := 0
    free := 0
    out := []
    objs := []
    chg := []
    mem := []
    jr := Journal.reset
    cores := []
    imgs := { minVer := [], active := [] }
    openChan := []
    cway := Causeway.reset
    clk := Clock.reset
    kerb := Kerb.reset
    pages := []
    pins := Pins.reset
    dur := Dur.reset
    batt := Batt.reset
    keys := Keys.reset
    hosts := Hosts.reset
    diag := Diag.reset
    lanes := Lanes.reset
    sup := Sup.reset
    net := Networks.reset
    safe := Safe.reset
    link := []
    bill := Bill.reset
    met := Met.reset
    cool := Cool.reset
    ctl := Ctl.reset }

end Sys2Proof.Machine
end

