-- ==== Sys2Proof/Machine/Ops.lean ====
section
/-! DEFINITION. The named operations over the state that every chapter uses: registers, fields, memory, stamps, events, journal records,
Roundabout sources, and taking an exception (spec/02 R65) with the return from one. -/

namespace Sys2Proof.Machine

/-! ### Stamps, fields, free values, output -/

/-- The state when a command with stamp `t` runs (notes/assumptions/3.md). -/
def State.at (s : State) (t : Nat) : State := { s with now := max s.now t }

/-- A field of an object. -/
def State.get (s : State) (f : Fld) (i : Nat) : Nat := s.objs.get f i

/-- A signed field of an object. -/
def State.geti (s : State) (f : Fld) (i : Nat) : Int := toSigned f.width (s.get f i)

/-- A field written. -/
def State.put (s : State) (f : Fld) (i v : Nat) : State := { s with objs := s.objs.put f i v }

/-- A signed field written. -/
def State.puti (s : State) (f : Fld) (i : Nat) (x : Int) : State := s.put f i (ofSigned f.width x)

/-- A flag of an object. -/
def State.flag (s : State) (f : Fld) (i : Nat) : Bool := s.get f i != 0

/-- A flag written. -/
def State.putFlag (s : State) (f : Fld) (i : Nat) (b : Bool) : State := s.put f i (if b then 1 else 0)

/-- Bit `n` of a field. -/
def State.bit (s : State) (f : Fld) (i n : Nat) : Bool := (s.get f i).testBit n

/-- Bit `n` of a field written. -/
def State.putBit (s : State) (f : Fld) (i n : Nat) (b : Bool) : State :=
  let v := s.get f i
  s.put f i (if b then v ||| 2 ^ n else v - (v &&& 2 ^ n))

/-- A saturating counter raised by `n`. -/
def State.inc (s : State) (f : Fld) (i n : Nat) : State := s.put f i (min (s.get f i + n) (2 ^ f.width - 1))

/-- A wrapping counter raised by `n`. -/
def State.incWrap (s : State) (f : Fld) (i n : Nat) : State := s.put f i (s.get f i + n)

/-- A free value and the state that has used it (notes/assumptions/4.md). -/
def State.fresh (s : State) : Nat × State := (Config.freeValue s.free, { s with free := s.free + 1 })

/-- Something sent outside. -/
def State.emit (s : State) (o : Out) : State := { s with out := o :: s.out }

/-- A change the device makes to an index's RW fields, or an accepted write: the change counter rises, wrapping (spec/14 R382). -/
def State.touch (s : State) (obj i : Nat) : State :=
  let k := obj * 65536 + i
  { s with chg := Tab.set s.chg k ((Tab.get s.chg k 0 + 1) % 2 ^ 32) }

/-- An index's change counter. -/
def State.counter (s : State) (obj i : Nat) : Nat := Tab.get s.chg (obj * 65536 + i) 0

/-! ### Legal time (spec/08 R214) -/

/-- Whether legal time is valid at all: a pair exists and the RTC has not lost time (spec/08 R215). -/
def State.legalValid (s : State) : Bool := s.clk.pair.isSome && !s.clk.legalInvalid

/-- L(t) in ns by the pair in force at `t` (spec/08 R214); 0 without a pair. -/
def State.legalNs (s : State) (t : Nat) : Nat :=
  match s.clk.pair with
  | none => 0
  | some p =>
    let q := if p.1 ≤ t then p else s.clk.before.getD p
    (((q.2 * 1000000000 : Nat) : Int) + ((t : Int) - (q.1 : Int))).toNat

/-- Legal time of an instant in UTC seconds (spec/00 R3); 0 while it is invalid. -/
def State.legal (s : State) (t : Nat) : Nat := if s.legalValid then s.legalNs t / 1000000000 else 0

/-! ### Journal and event log -/

/-- Whether the staging ring has no room for a record of a length (spec/15 R408). -/
def State.ringFull (s : State) (len : Nat) : Bool := decide (ringSize < s.jr.held + (2 + (len + 31) / 32) * 36)

/-- A record appended: sealed in the staging ring under the next number of its class (spec/15 R408, R410; bytes counted under R416). -/
def State.append (s : State) (cls typ flags len data t : Nat) : State :=
  let n := Tab.get s.jr.seqs cls 1
  let r : Record := { cls := cls, flags := flags, typ := typ, len := len, data := data, seq := n, siteTime := t,
                      legal := s.legal t, lost := false, seg := 512 }
  let s := { s with jr := { s.jr with ring := s.jr.ring ++ [r], seqs := Tab.set s.jr.seqs cls (n + 1) } }
  s.incWrap wearBytes30d 0 len

/-- An event of spec/18 Table 18-1: logged as a diagnostic record with the payload of Table 18-2 and counted in diag.events (R471). -/
def State.event (s : State) (code subject detail value t : Nat) : State :=
  let data := subject % 65536 + (detail % 65536) * 2 ^ 16 + 0xFF * 2 ^ 40 + (value % 2 ^ 64) * 2 ^ 64
  let s := s.append 2 code 0 16 data t
  let s := if s.get diagEventsCount code = 0 then s.put diagEventsFirst code t else s
  (s.inc diagEventsCount code 1).put diagEventsLast code t

/-- The same event as the consequence of an injection in slot `j`: logged with flags [1], its record with header flag [0], and counted in the
slot and nowhere else (spec/18 R471, R478). -/
def State.eventProvoked (s : State) (code subject detail value t j : Nat) : State :=
  let data := subject % 65536 + (detail % 65536) * 2 ^ 16 + 2 * 2 ^ 32 + j * 2 ^ 40 + (value % 2 ^ 64) * 2 ^ 64
  let s := s.append 2 code 1 16 data t
  s.inc injectConsequences j 1

/-- A requester's event: port and role in the payload (spec/18 Table 18-2). -/
def State.eventBy (s : State) (code subject detail value port role t : Nat) : State :=
  let data := subject % 65536 + (detail % 65536) * 2 ^ 16 + 0xFF * 2 ^ 40 + (role % 256) * 2 ^ 48 + (port % 256) * 2 ^ 56
    + (value % 2 ^ 64) * 2 ^ 64
  let s := s.append 2 code 0 16 data t
  let s := if s.get diagEventsCount code = 0 then s.put diagEventsFirst code t else s
  (s.inc diagEventsCount code 1).put diagEventsLast code t

/-! ### The attribution window of provoked faults (spec/18 R478) -/

/-- Whether slot `j` acts or has acted within the last second on a medium and target; target 0x3FF of the mesh is every node. -/
def State.slotCovers (s : State) (j medium target t : Nat) : Bool :=
  s.get injectMedium j == medium && s.get injectState j != 0
  && (s.get injectTarget j == target || (medium == 6 && s.get injectTarget j == 0x3FF))
  && decide (s.get injectStart j ≤ t)
  && (s.get injectState j == 1 || decide (t ≤ s.get injectEnd j + 1000000000))

/-- The slot whose injection an event on a medium and target is a consequence of. -/
def State.provoked (s : State) (medium target t : Nat) : Option Nat :=
  (List.range 8).find? fun j => s.slotCovers j medium target t

/-- The same for avenue `a`: its lanes are lane.state 4 + 2a and 5 + 2a. -/
def State.provokedAvenue (s : State) (a t : Nat) : Option Nat :=
  (List.range 8).find? fun j => s.slotCovers j 1 (4 + 2 * a) t || s.slotCovers j 1 (5 + 2 * a) t

/-- An event of Table 18-1, or the consequence of an injection. -/
def State.eventOn (s : State) (slot : Option Nat) (code subject detail value t : Nat) : State :=
  match slot with
  | none => s.event code subject detail value t
  | some j => s.eventProvoked code subject detail value t j

/-! ### Code regions (spec/01 R27, R35–R37) -/

/-- The regions in mode C1D3 (spec/01 Table 1-6): hot tier, host NV, accumulator memory. -/
def c1d3 (r : Nat) : Bool := r == 14 || r == 16 || r == 38

/-- An error pattern of `n` bytes as the decoder of region `r` reports it: C2 corrects two, C1D3 one (spec/01 R35). -/
def regionResult (r : Nat) (b : BlockResult) : BlockResult :=
  match b with
  | .corrected n => if c1d3 r && decide (2 ≤ n) then .uncorrectable else b
  | .provoked j n => if c1d3 r && decide (2 ≤ n) then .provoked j 0 else b
  | _ => b

/-- The slot whose injection covers the medium and target of a region's links: the Causeway's, a field lane's, a host lane's with its port's
messages. -/
def State.regionSlot (s : State) (r t : Nat) : Option Nat :=
  if r = 17 ∨ r = 18 then s.provoked 3 (r - 17) t
  else if 19 ≤ r ∧ r ≤ 30 then s.provoked 1 (r - 15) t
  else if 31 ≤ r ∧ r ≤ 34 then (s.provoked 2 (r - 31) t).orElse fun _ => s.provoked 4 (r - 31) t
  else none

/-- What a decoder reports of region `r` counted: corrected and uncorrectable blocks in durable.ecc, blocks an injection altered in
diag.inj_ecc and nowhere else (spec/01 R36, R37); an uncorrectable block raises event 0x05, the consequence of an injection where one
covers its link (spec/18 R478). -/
def State.countBlock (s : State) (r : Nat) (b : BlockResult) (loc t : Nat) : State :=
  match regionResult r b with
  | .clean => s
  | .corrected n => (s.inc eccCorrBlocks r 1).inc eccCorrBytes r n
  | .uncorrectable =>
    let s := ((s.inc eccUncorr r 1).put eccLastUncorrTime r t).put eccLastUncorrLoc r loc
    s.eventOn (s.regionSlot r t) 0x05 r 0 loc t
  | .provoked _ 0 => ((s.inc injEccUncorr r 1).put injEccLastUncorrTime r t).put injEccLastUncorrLoc r loc
  | .provoked _ n => (s.inc injEccCorrBlocks r 1).inc injEccCorrBytes r n

/-- Whether the block was lost. -/
def BlockResult.lost : BlockResult → Bool
  | .uncorrectable => true
  | .provoked _ n => n == 0
  | _ => false

/-! ### Configuration epoch (spec/14 R399) -/

/-- A change of one or more leaves of group `g`: the configuration epoch rises, the recompute is pending, group and stamp are shown. -/
def State.crqChange (s : State) (g t : Nat) : State :=
  let s := s.incWrap crqStateEpoch 0 1
  let s := ((s.put crqStateFlags 0 1).put crqStateChanged 0 (2 ^ g)).put crqStateChangeStamp 0 t
  s.put crqGroupLastEpoch g (s.get crqStateEpoch 0)

/-! ### Mode and spares (spec/16 R425–R427, spec/15 R422, R423) -/

/-- A mode transition (spec/16 R427): new mode, row of Table 16-2, requester's port and role (0xFF and 0 for the device), stamped with its
cause; event 0x01. -/
def State.setMode (s : State) (m row port role t : Nat) : State :=
  let s := s.put modeStatePrev 0 (s.get modeStateMode 0)
  let s := ((s.put modeStateMode 0 m).put modeStateSince 0 t).put modeStateCause 0 row
  let s := (s.put modeStatePort 0 port).put modeStateRole 0 role
  s.eventBy 0x01 m row 0 (if port = 0xFF then 0 else port) role t

/-- Whether any capacity is exhausted or lost (spec/15 R423). -/
def State.reduced (s : State) : Bool := s.get sparesExhausted 0 != 0 || s.get sparesLost 0 != 0

/-- The moves between SERVICE and DEGRADED that a change of exhausted or lost brings (spec/15 R423, spec/16 Table 16-2). -/
def State.degradeCheck (s : State) (t : Nat) : State :=
  if s.get modeStateMode 0 = 2 ∧ s.reduced then s.setMode 3 7 0xFF 0 t
  else if s.get modeStateMode 0 = 3 ∧ s.reduced = false then s.setMode 2 8 0xFF 0 t
  else s

/-- durable.spares.exhausted and .lost set to new values: a change of either is an event record and may move the mode (spec/15 R423). -/
def State.setSpares (s : State) (exhausted lost t : Nat) : State :=
  if s.get sparesExhausted 0 = exhausted ∧ s.get sparesLost 0 = lost then s
  else
    let s := (s.put sparesExhausted 0 exhausted).put sparesLost 0 lost
    (s.event 0x04 0 (exhausted % 256 + lost % 256 * 256) 0 t).degradeCheck t

/-- `v` with bit `n` as `b` says. -/
def withBit (v n : Nat) (b : Bool) : Nat := if b then v ||| 2 ^ n else v - (v &&& 2 ^ n)

/-- One bit of durable.spares.exhausted (spec/15 Table 15-7). -/
def State.setExhausted (s : State) (n : Nat) (b : Bool) (t : Nat) : State :=
  s.setSpares (withBit (s.get sparesExhausted 0) n b) (s.get sparesLost 0) t

/-- One bit of durable.spares.lost (spec/15 Table 15-9). -/
def State.setLost (s : State) (n : Nat) (b : Bool) (t : Nat) : State :=
  s.setSpares (s.get sparesExhausted 0) (withBit (s.get sparesLost 0) n b) t

/-! ### Cores -/

/-- A core's state. -/
def State.core (s : State) (c : Nat) : Core := Tab.get s.cores c Core.reset

/-- A core's state replaced. -/
def State.setCore (s : State) (c : Nat) (k : Core) : State := { s with cores := Tab.set s.cores c k }

/-- A general register: g0 reads as zero (spec/02 R38). -/
def Core.reg (k : Core) (r : Nat) : Word := if r = 0 then 0 else Tab.get k.regs r 0

/-- A general register written: g0 discards writes (spec/02 R38). -/
def Core.setReg (k : Core) (r : Nat) (v : Word) : Core := if r = 0 then k else { k with regs := Tab.set k.regs r v }

/-- An accumulator. -/
def Core.acc (k : Core) (a : Nat) : Acc96 := Tab.get k.accs a 0

/-- An accumulator replaced. -/
def Core.setAcc (k : Core) (a : Nat) (v : Acc96) : Core := { k with accs := Tab.set k.accs a v }

/-- A stored control word of core `c`. -/
def Core.cwd (k : Core) (c n : Nat) : Word := Tab.get k.cw n (cwReset c n)

/-- A stored control word replaced. -/
def Core.setCwd (k : Core) (n : Nat) (v : Word) : Core := { k with cw := Tab.set k.cw n v }

/-- cw0.ie (spec/02 Table 2-1). -/
def Core.ie (k : Core) : Bool := (Tab.get k.cw 0 0).getLsbD 8
/-- cw0.run_pri. -/
def Core.runPri (k : Core) : Nat := ((Tab.get k.cw 0 0).extractLsb' 4 4).toNat
/-- cw0.in_handler. -/
def Core.inHandler (k : Core) : Bool := (Tab.get k.cw 0 0).getLsbD 3
/-- cw0.in_gate. -/
def Core.inGate (k : Core) : Bool := (Tab.get k.cw 0 0).getLsbD 2
/-- cw0.xcall_out. -/
def Core.xcallOut (k : Core) : Bool := (Tab.get k.cw 0 0).getLsbD 1

/-- A field of cw0 written: `w` bits from bit `lo`. -/
def Core.setCw0 (k : Core) (lo w v : Nat) : Core :=
  let x := (Tab.get k.cw 0 0).toNat
  let old := (x / 2 ^ lo) % 2 ^ w
  k.setCwd 0 (BitVec.ofNat 64 (x - old * 2 ^ lo + (v % 2 ^ w) * 2 ^ lo))

/-- cw17.qsat set. -/
def Core.setQsat (k : Core) (b : Bool) : Core := if b then k.setCwd 17 (Tab.get k.cw 17 0 ||| 16) else k

/-- cw17.asat bit of an accumulator set. -/
def Core.setAsat (k : Core) (a : Nat) (b : Bool) : Core :=
  if b then k.setCwd 17 (Tab.get k.cw 17 0 ||| BitVec.ofNat 64 (2 ^ a)) else k

/-- The partition kind the core runs (cw13.kind): 0 open, 1 link, 2 legal. -/
def Core.kind (k : Core) : Nat := match k.image with | none => 0 | some i => i.kind

/-- The logical core whose image core `c` runs (cw13.stands_for). -/
def State.logical (s : State) (c : Nat) : Nat := (((s.core c).cwd c 13).extractLsb' 16 8).toNat

/-- The physical core that runs logical core `n`: P5 while it stands for it, else `n` (spec/02 R67). -/
def State.physical (s : State) (n : Nat) : Nat := if s.logical 5 = n ∧ n < 5 then 5 else n

/-- Whether a core takes part: its image runs and it is neither in reset nor stopped. -/
def Core.alive (k : Core) : Bool :=
  match k.run with
  | .inReset => false
  | .failing => false
  | .failed => false
  | _ => true

/-- Whether logical core `n` of P0–P4 runs: its image on its own core, or P5 standing for it. -/
def State.coreRuns (s : State) (n : Nat) : Bool :=
  let k := s.core (s.physical n)
  k.alive && k.image.isSome

/-- Whether a core executes instructions now. -/
def Core.running (k : Core) : Bool := match k.run with | .running => true | _ => false

/-- The size of local instruction SRAM (spec/02 Table 2-2). -/
def imemSize : Nat := 0x20000

/-- The byte address of a block, in its memory (spec/01 R33). -/
def blockOf (a : Nat) : Nat := a - a % 32

/-- An address a word can be fetched from: in local instruction SRAM, in no block known to be uncorrectable (spec/02 R40, R42, spec/01
Table 1-6). -/
def Core.fetchOk (k : Core) (pc : Addr) : Bool := decide (pc.toNat < imemSize) && !k.badFetch.contains (blockOf pc.toNat)

/-- Code, source and eval of the exception that fetching from an address raises on core `c`, where it raises one: fetch fault outside
instruction SRAM, the uncorrectable block with its region and byte address (spec/02 Table 2-12). -/
def Core.fetchCause (k : Core) (c : Nat) (pc : Addr) : Option (Nat × Nat × Word) :=
  if k.fetchOk pc then none
  else if imemSize ≤ pc.toNat then some (0x02, 0, pc.setWidth 64)
  else some (0x06, c, BitVec.ofNat 64 (blockOf pc.toNat))

/-- Word alignment of the pc (spec/02 R40). -/
def alignPc (a : Addr) : Addr := a &&& 0xFFFFFFFC#32

/-! ### Lanes (spec/12) -/

/-- A lane's record. -/
def State.lane (s : State) (l : Nat) : LaneRec := Tab.get s.lanes.lanes l LaneRec.reset
/-- The same replaced. -/
def State.setLane (s : State) (l : Nat) (k : LaneRec) : State := { s with lanes := { s.lanes with lanes := Tab.set s.lanes.lanes l k } }

/-! ### Roundabout (spec/03 R88–R96) -/

/-- Whether some target core of a source has its clock stopped by HALT (spec/03 R96). -/
def State.targetHalted (s : State) (src : Nat) : Bool :=
  [0, 1, 2, 3, 4, 5].any fun c =>
    decide ((s.core c).run = .halted) && (s.get irqTargets src).testBit (s.logical c)

/-- Whether some target core of a source runs with its clock on. -/
def State.targetAwake (s : State) (src : Nat) : Bool :=
  [0, 1, 2, 3, 4, 5].any fun c =>
    (s.core c).alive && decide ((s.core c).run ≠ .halted) && (s.get irqTargets src).testBit (s.logical c)

/-- The pending state of an edge (spec/03 R90, R91): a counting source counts, another sets pending or coalesces. -/
def State.pend (s : State) (src t : Nat) : State :=
  let s1 := if s.flag irqPending src then s else (s.put irqPending src 1).put irqFirstStamp src t
  if s.flag irqCountEn src then s1.inc irqCount src 1
  else if s.flag irqPending src then s1.inc irqCoalesced src 1
  else s1

/-- Whether an edge at a source is held by latches alone: some target's clock is stopped, none runs, and the source is not pending. -/
def State.heldByLatch (s : State) (src : Nat) : Bool := s.targetHalted src && !s.targetAwake src && !s.flag irqPending src

/-- An edge at a source (spec/03 R88, R90, R96): never pending in a reserved range. While the clock of some target is stopped the latch is
set; while it alone holds the edge the first stamp is the first edge's, further edges count or coalesce, and pending waits for a clock. -/
def State.raise (s : State) (src t : Nat) : State :=
  if 0xA0 ≤ src then s
  else if s.heldByLatch src then
    let s1 := if s.flag irqLatched src then s else (s.put irqLatched src 1).put irqFirstStamp src t
    if s.flag irqCountEn src then s1.inc irqCount src 1
    else if s.flag irqLatched src then s1.inc irqCoalesced src 1
    else s1
  else (if s.targetHalted src then s.put irqLatched src 1 else s).pend src t

/-- The latches after a change of clocks or targets (spec/03 R94, R96): what a latch alone holds becomes pending as soon as some target's
clock runs or no target's is stopped, and a latch no stopped clock keeps is clear. -/
def State.settleLatches (s : State) : State :=
  (List.range 0xA0).foldl (fun (s : State) src =>
    if s.flag irqLatched src = false ∨ s.heldByLatch src then s
    else
      let s1 := s.put irqPending src 1
      if s.targetHalted src then s1 else s1.put irqLatched src 0) s

/-! ### Exceptions (spec/02 R64–R66) -/

/-- Entry to a cause (spec/02 R65): what is saved, what cw0 becomes, where the pc goes. -/
def Core.enter (k : Core) (code source : Nat) (eval : Word) (epc target : Addr) : Core :=
  let saved := (Tab.get k.cw 0 0).extractLsb' 3 6
  let k := k.setCwd 5 (saved.setWidth 64)
  let k := (k.setCw0 8 1 0).setCw0 3 1 1
  let k := (k.setCwd 1 (BitVec.ofNat 64 (source % 256 * 256 + code % 256))).setCwd 3 eval
  let k := k.setCwd 2 ((epc &&& 0xFFFFFFFC#32).setWidth 64)
  { k with pc := target, run := .running }

/-- The vector base cw4: bits [31:8] (spec/02 Table 2-1). -/
def Core.vbase (k : Core) : Addr := (Tab.get k.cw 4 0).setWidth 32 &&& 0xFFFFFF00#32

/-- The return from an exception (spec/02 Table 2-11, RETI): pc := cw2, cw0[8:3] := cw5. -/
def Core.leave (k : Core) : Core :=
  let back := ((Tab.get k.cw 5 0).extractLsb' 0 6).toNat
  let k := k.setCw0 3 6 back
  { k with pc := alignPc ((Tab.get k.cw 2 0).setWidth 32) }

/-- A site core failed (spec/15 R420): marked in the device-state area, stopped, its loss reported. With P5 already standing for another
core the core stays down and bit [0] of lost is set; P0–P2 without pre-approval await approval (R421). -/
def State.coreDown (s : State) (c t : Nat) : State :=
  let s := (s.setCore c { s.core c with run := .failed }).settleLatches
  let s := s.putBit sparesFailed 0 c true
  let s := if s.get sparesStandsFor 0 ≠ 0xFF ∨ c = 5 then s.setLost 0 true t else s
  if c < 3 ∧ s.bit durableConfigPreApprove 0 c = false ∧ s.get sparesStandsFor 0 = 0xFF then s.put sparesAwaiting 0 1 else s

/-- A core that fails stops at once; its failure completes when its retired effect-queue entries have left (spec/03 R87). -/
def State.coreFail (s : State) (c t : Nat) : State :=
  if (s.core c).eq = [] then s.coreDown c t else (s.setCore c { s.core c with run := .failing }).settleLatches

/-- An entry of core `c`'s effect queue has left and been performed: a failure that waited for the last of them completes (spec/03 R87). -/
def State.entryLeft (s : State) (c t : Nat) : State :=
  if (s.core c).run = .failing ∧ (s.core c).eq = [] then s.coreDown c t else s

/-- An exception of codes 0x01–0x09, 0x0B, 0x0C (spec/02 R65, R66): entry at cw4, or a double fault in a handler, which stops the core
with its control words frozen and reports it failed. -/
def State.exc (s : State) (c code source : Nat) (eval : Word) (epc : Addr) (t : Nat) : State :=
  let k := s.core c
  if k.inHandler then s.coreFail c t
  else s.setCore c (k.enter code source eval epc k.vbase)

/-- Core `c` at its next instruction (spec/02 R40, R42): nothing happens where it does not execute; a word that cannot be fetched raises its
exception before the instruction has any effect; else `f` of the core. -/
def State.issue (s : State) (c : Nat) (f : Core → State) : State :=
  let k := s.core c
  if k.running = false then s
  else match k.fetchCause c k.pc with
    | some (code, source, eval) => s.exc c code source eval k.pc s.now
    | none => f k

/-- The same for an instruction that executes alone, once every older effect-queue entry has left (spec/02 R58, spec/03 R83). -/
def State.issueAlone (s : State) (c : Nat) (f : Core → State) : State :=
  s.issue c fun k => if k.eq ≠ [] then s else f k

end Sys2Proof.Machine
end

