-- ==== Sys2Proof/Machine/Operands.lean ====
section
/-! DEFINITION. The operand forms of Primel (spec/02 R49, R54, R55): immediates with their LIM prefixes, addresses, branch targets, rounding. -/

namespace Sys2Proof.Machine

/-- How many words an instruction with these prefixes takes (spec/02 R49). -/
def limWords : Lim → Nat
  | .none => 1
  | .one _ => 2
  | .two _ _ => 3

/-- Whether the prefixes are well formed: the first of two has zero in its bits [25:22] (spec/02 R49). -/
def limOk : Lim → Bool
  | .two top _ => decide (top.extractLsb' 22 4 = 0)
  | _ => true

/-- The 64-bit immediate (spec/02 R49): imm16 alone is sign-extended where `signed`, else zero-extended; with one LIM imm26 : imm16 is
sign-extended from bit 41; with two the first supplies bits [63:42]. -/
def immediate (signed : Bool) (lim : Lim) (imm : BitVec 16) : Word :=
  match lim with
  | .none => if signed then imm.signExtend 64 else imm.setWidth 64
  | .one hi => (hi ++ imm).signExtend 64
  | .two top hi => (top.extractLsb' 0 22 ++ hi ++ imm).setWidth 64

/-- The effective address ra + imm of a load or store, as the 64-bit sum (spec/02 Table 2-9). -/
def Core.ea (k : Core) (ra : Nat) (imm : BitVec 16) (lim : Lim) : Nat := (k.reg ra + immediate true lim imm).toNat

/-- A branch target: words from the branch's own address (spec/02 R55). -/
def branchTarget (pc : Addr) (off : Int) : Addr := pc + BitVec.ofInt 32 (4 * off)

/-- The rounding modes of AEXT and AEXTD on `x / 2^s` (spec/02 Table 2-7): floor, half toward +∞, half to even, toward zero. -/
def roundShift (m s : Nat) (x : Int) : Int :=
  let d : Int := (2 ^ s : Nat)
  let fl := x / d
  let rem := x % d
  if m = 0 then fl
  else if m = 1 then (if 2 * rem ≥ d then fl + 1 else fl)
  else if m = 2 then
    (if 2 * rem > d then fl + 1 else if 2 * rem = d then (if fl % 2 = 0 then fl else fl + 1) else fl)
  else (if x < 0 ∧ rem ≠ 0 then fl + 1 else fl)

end Sys2Proof.Machine
end

