-- ==== Sys2Proof/Machine/Flags.lean ====
section
/-! DEFINITION. The saturation state of Primel (spec/02 R38, R39, R53, R54): results limited to a range, with the sticky bit each sets. -/

namespace Sys2Proof.Machine

/-- A value limited to the signed `w`-bit range, and whether it was limited. -/
def satSigned (w : Nat) (x : Int) : Int × Bool :=
  let hi : Int := (2 ^ (w - 1) : Nat) - 1
  let lo : Int := -((2 ^ (w - 1) : Nat) : Int)
  if x > hi then (hi, true) else if x < lo then (lo, true) else (x, false)

/-- An accumulator written with saturation to 96 bits; cw17.asat is set when it saturates (spec/02 R39). -/
def Core.putAccSat (k : Core) (a : Nat) (x : Int) : Core :=
  let r := satSigned 96 x
  (k.setAcc a (BitVec.ofInt 96 r.1)).setAsat a r.2

/-- A general register written with a value saturated to `w` bits and sign-extended; cw17.qsat is set when it saturates (spec/02 R54). -/
def Core.putRegSat (k : Core) (rd w : Nat) (x : Int) : Core :=
  let r := satSigned w x
  (k.setReg rd (BitVec.ofInt 64 r.1)).setQsat r.2

/-- Bits [31:0] of a register, signed. -/
def lo32 (w : Word) : Int := (w.extractLsb' 0 32).toInt

/-- The two signed 16-bit products of AMUL2 and AMAC2 (spec/02 Table 2-6). -/
def dot16 (a b : Word) : Int :=
  (a.extractLsb' 0 16).toInt * (b.extractLsb' 0 16).toInt + (a.extractLsb' 16 16).toInt * (b.extractLsb' 16 16).toInt

/-- Signed quotient rounded toward −∞ with R53's saturation, and whether it saturated. -/
def divSigned (a b : Word) : Word × Bool :=
  if b = 0 then
    (if a.toInt ≥ 0 then (BitVec.ofInt 64 (2 ^ 63 - 1), true) else (BitVec.ofInt 64 (-(2 ^ 63)), true))
  else if a.toInt = -(2 ^ 63) ∧ b.toInt = -1 then (BitVec.ofInt 64 (2 ^ 63 - 1), true)
  else (BitVec.ofInt 64 (Int.fdiv a.toInt b.toInt), false)

/-- Unsigned quotient with R53's saturation. -/
def divUnsigned (a b : Word) : Word × Bool :=
  if b = 0 then (BitVec.allOnes 64, true) else (BitVec.ofNat 64 (a.toNat / b.toNat), false)

/-- Signed modulus: the sign of the divisor (spec/02 R53). -/
def modSigned (a b : Word) : Word × Bool :=
  if b = 0 then (0, true)
  else if a.toInt = -(2 ^ 63) ∧ b.toInt = -1 then (0, false)
  else (BitVec.ofInt 64 (Int.fmod a.toInt b.toInt), false)

/-- Unsigned modulus. -/
def modUnsigned (a b : Word) : Word × Bool :=
  if b = 0 then (0, true) else (BitVec.ofNat 64 (a.toNat % b.toNat), false)

/-- Leading zeros; 64 for zero (spec/02 R52). -/
def clz64 (a : Word) : Nat := if a = 0 then 64 else 63 - Nat.log2 a.toNat

/-- Trailing zeros from bit `i` up, over `n` bits. -/
def ctzFrom (a : Word) (i : Nat) : Nat → Nat
  | 0 => 0
  | n + 1 => if a.getLsbD i then 0 else 1 + ctzFrom a (i + 1) n

/-- Ones among the low `n` bits. -/
def popFrom (a : Word) : Nat → Nat
  | 0 => 0
  | n + 1 => (if a.getLsbD n then 1 else 0) + popFrom a n

end Sys2Proof.Machine
end

