-- ==== Sys2Proof/Machine/PrimelWords.lean ====
section
/-! DEFINITION. Primel's instruction words (spec/02 R48–R51, Tables 2-4 to 2-11): which words are instructions, and the words of those
instructions whose exceptions report them. -/

namespace Sys2Proof.Machine

/-- A register-form word (spec/02 Table 2-4). -/
def regWord (op rd ra rb fn : Nat) : Word :=
  BitVec.ofNat 64 (op % 64 * 2 ^ 26 + rd % 32 * 2 ^ 21 + ra % 32 * 2 ^ 16 + rb % 32 * 2 ^ 11 + fn % 2048)

/-- Whether a word is one of the 118 instructions with every unused field zero (spec/02 R50, R51); LIM is a prefix and not one of them. -/
def primelLegal (w : BitVec 32) : Bool :=
  let n := w.toNat
  let op := n / 2 ^ 26
  let rd := n / 2 ^ 21 % 32
  let ra := n / 2 ^ 16 % 32
  let rb := n / 2 ^ 11 % 32
  let fn := n % 2048
  let imm := n % 65536
  let f5 := fn / 64
  let s6 := fn % 64
  let f3 := fn / 256
  let n8 := fn % 256
  if w = 0 then false
  else if op = 0 then
    [1, 2, 3, 4, 8, 9, 0xA, 0xB, 0xC, 0xD, 0x10, 0x11, 0x12, 0x13, 0x18, 0x19, 0x1C, 0x1D, 0x1E, 0x1F].contains fn
      || ([0x20, 0x21, 0x22, 0x28, 0x29, 0x2A, 0x2B].contains fn && rb == 0)
  else if op ≤ 6 then true
  else if op ≤ 9 then imm < 64
  else if op = 0xA then [1, 2, 3, 5, 6, 8, 9, 0xA, 0xB].contains fn
  else if op = 0xB then
    if f5 = 1 then rd < 4 && ra == 0 && rb == 0 && s6 == 0
    else if 2 ≤ f5 ∧ f5 ≤ 6 then rd < 4 && s6 == 0
    else if f5 = 7 ∨ f5 = 8 then rd < 4 && ra == 0 && rb == 0
    else if f5 = 9 ∨ f5 = 0xA then ra < 4 && rb < 4
    else if f5 = 0xB ∨ f5 = 0xC then ra < 4 && rb == 0 && s6 == 0
    else if f5 = 0xD then rd < 4 && s6 == 0
    else if 0x10 ≤ f5 ∧ f5 ≤ 0x12 then s6 == 0
    else if f5 = 0x13 ∨ f5 = 0x14 then rb == 0 && s6 == 0
    else false
  else if 0x10 ≤ op ∧ op ≤ 0x1A then true
  else if 0x20 ≤ op ∧ op ≤ 0x26 then true
  else if 0x28 ≤ op ∧ op ≤ 0x2B then true
  else if op = 0x2C then 1 ≤ fn && fn ≤ 8
  else if op = 0x30 then
    if f3 = 1 ∨ f3 = 3 then rb == 0
    else if f3 = 2 then true
    else if f3 = 4 then rb == 0
    else if f3 = 5 then rd == 0 && ra == 0 && rb == 0
    else false
  else if op = 0x31 then
    if f3 = 1 ∨ f3 = 3 then n8 == 0 else if f3 = 2 then rb == 0 && n8 == 0 else false
  else if op = 0x32 then
    if f3 = 1 ∨ f3 = 4 then ra == 0 && rb == 0 && n8 == 0
    else if f3 = 2 then rb == 0 && n8 == 0
    else if f3 = 3 then rd == 0 && rb == 0 && n8 == 0
    else false
  else if op = 0x33 then
    if f3 = 1 then ra == 0 && rb == 0 && n8 == 0
    else if f3 = 2 ∨ f3 = 3 then rd == 0 && ra == 0 && rb == 0 && n8 == 0
    else if f3 = 4 then rd == 0 && rb == 0 && n8 == 0
    else false
  else if op = 0x34 then
    if f3 = 1 then ra == 0 && rb == 0 else if f3 = 2 then rb == 0 else false
  else if op = 0x35 then
    if f3 = 2 then rd == 0 && ra == 0 && rb == 0
    else (f3 == 1 || f3 == 3 || f3 == 4 || f3 == 5 || f3 == 6) && rd == 0 && ra == 0 && rb == 0 && n8 == 0
  else false

end Sys2Proof.Machine
end

