-- ==== Sys2Proof/Machine/Primel.lean ====
section
/-! DEFINITION. The meanings of Primel's integer, multiply/divide, fixed-point and branch instructions (spec/02 Tables 2-5 to 2-8). Each
acts only while its core executes (notes/assumptions/7.md) and leaves every other core, object and byte as it was. -/

namespace Sys2Proof.Machine

/-- An instruction retires (spec/02 Table 2-1 cw16): the core as the instruction left it, its next pc; a next pc that cannot be fetched from
raises its exception with epc at it (spec/02 R42, R55). -/
def State.retire (s : State) (c : Nat) (k : Core) (pc : Addr) : State :=
  let k := { k.setCwd 16 (Tab.get k.cw 16 0 + 1) with pc := pc }
  let s := s.setCore c k
  match k.fetchCause c pc with
  | some (code, source, eval) => s.exc c code source eval pc s.now
  | none => s

/-- An instruction without prefixes that changes registers only. -/
def State.alu (s : State) (c : Nat) (f : Core → Core) : State := s.issue c fun k => s.retire c (f k) (k.pc + 4)

/-- The word of a LIM prefix (spec/02 Table 2-4). -/
def limWord (v : BitVec 26) : Word := (0x3F#6 ++ v).setWidth 64

/-- An immediate-form instruction: a malformed prefix raises illegal instruction at the first LIM, and so does one in the last word of
instruction SRAM (spec/02 R49); a later word of the group in a block that cannot be read raises its exception there too. -/
def State.withLim (s : State) (c : Nat) (lim : Lim) (f : Core → State) : State :=
  s.issue c fun k =>
    let whole (words : List Addr) (go : State) : State :=
      match words.findSome? (k.fetchCause c) with
      | some (code, source, eval) => s.exc c code source eval k.pc s.now
      | none => go
    match lim with
    | .none => f k
    | .one hi => if imemSize ≤ k.pc.toNat + 4 then s.exc c 0x01 0 (limWord hi) k.pc s.now else whole [k.pc + 4] (f k)
    | .two top hi =>
      if limOk (.two top hi) = false ∨ imemSize ≤ k.pc.toNat + 8 then s.exc c 0x01 0 (limWord top) k.pc s.now
      else whole [k.pc + 4, k.pc + 8] (f k)

/-- An immediate-form ALU instruction. -/
def State.aluImm (s : State) (c : Nat) (signed : Bool) (rd ra : Nat) (imm : BitVec 16) (lim : Lim) (f : Word → Word → Word) : State :=
  s.withLim c lim fun k =>
    s.retire c (k.setReg rd (f (k.reg ra) (immediate signed lim imm))) (k.pc + BitVec.ofNat 32 (4 * limWords lim))

/-- A register-form ALU instruction. -/
def State.aluReg (s : State) (c rd ra rb : Nat) (f : Word → Word → Word) : State :=
  s.alu c fun k => k.setReg rd (f (k.reg ra) (k.reg rb))

/-- A division: its result and the sticky saturation bit (spec/02 R53). -/
def State.aluDiv (s : State) (c rd ra rb : Nat) (f : Word → Word → Word × Bool) : State :=
  s.alu c fun k => let r := f (k.reg ra) (k.reg rb); (k.setReg rd r.1).setQsat r.2

/-- A branch (spec/02 R55); `mp` says the pipeline had predicted it wrongly, which cw22 counts (spec/03 R78, R82). -/
def State.branch (s : State) (c : Nat) (off : BitVec 16) (mp : Bool) (p : Core → Bool) : State :=
  s.issue c fun k =>
    let k1 := if mp then k.setCwd 22 (Tab.get k.cw 22 0 + 1) else k
    s.retire c k1 (if p k then branchTarget k.pc off.toInt else k.pc + 4)

/-- A word sign-extended from its low 32 bits. -/
def sext32 (w : Word) : Word := (w.extractLsb' 0 32).signExtend 64

/-- 1 or 0. -/
def boolWord (b : Bool) : Word := if b then 1 else 0

/-- ADD: rd := ra + rb modulo 2^64 (spec/02 Table 2-5). -/
def execAdd (c : Fin 6) (rd ra rb : Fin 32) (s : State) : Res := .next (s.aluReg c rd ra rb fun a b => a + b)

/-- SUB: rd := ra − rb modulo 2^64 (spec/02 Table 2-5). -/
def execSub (c : Fin 6) (rd ra rb : Fin 32) (s : State) : Res := .next (s.aluReg c rd ra rb fun a b => a - b)

/-- ADDW: rd := sext32((ra + rb)[31:0]) (spec/02 Table 2-5). -/
def execAddw (c : Fin 6) (rd ra rb : Fin 32) (s : State) : Res := .next (s.aluReg c rd ra rb fun a b => sext32 (a + b))

/-- SUBW: rd := sext32((ra − rb)[31:0]) (spec/02 Table 2-5). -/
def execSubw (c : Fin 6) (rd ra rb : Fin 32) (s : State) : Res := .next (s.aluReg c rd ra rb fun a b => sext32 (a - b))

/-- AND (spec/02 Table 2-5). -/
def execAnd (c : Fin 6) (rd ra rb : Fin 32) (s : State) : Res := .next (s.aluReg c rd ra rb fun a b => a &&& b)

/-- OR (spec/02 Table 2-5). -/
def execOr (c : Fin 6) (rd ra rb : Fin 32) (s : State) : Res := .next (s.aluReg c rd ra rb fun a b => a ||| b)

/-- XOR (spec/02 Table 2-5). -/
def execXor (c : Fin 6) (rd ra rb : Fin 32) (s : State) : Res := .next (s.aluReg c rd ra rb fun a b => a ^^^ b)

/-- ANDN: ra AND NOT rb (spec/02 Table 2-5). -/
def execAndn (c : Fin 6) (rd ra rb : Fin 32) (s : State) : Res := .next (s.aluReg c rd ra rb fun a b => a &&& ~~~b)

/-- ORN: ra OR NOT rb (spec/02 Table 2-5). -/
def execOrn (c : Fin 6) (rd ra rb : Fin 32) (s : State) : Res := .next (s.aluReg c rd ra rb fun a b => a ||| ~~~b)

/-- XNOR: NOT (ra XOR rb) (spec/02 Table 2-5). -/
def execXnor (c : Fin 6) (rd ra rb : Fin 32) (s : State) : Res := .next (s.aluReg c rd ra rb fun a b => ~~~(a ^^^ b))

/-- SLL: shift by rb[5:0] (spec/02 Table 2-5). -/
def execSll (c : Fin 6) (rd ra rb : Fin 32) (s : State) : Res := .next (s.aluReg c rd ra rb fun a b => a <<< (b.toNat % 64))

/-- SRL (spec/02 Table 2-5). -/
def execSrl (c : Fin 6) (rd ra rb : Fin 32) (s : State) : Res := .next (s.aluReg c rd ra rb fun a b => a >>> (b.toNat % 64))

/-- SRA: copies of bit 63 shift in (spec/02 R52). -/
def execSra (c : Fin 6) (rd ra rb : Fin 32) (s : State) : Res := .next (s.aluReg c rd ra rb fun a b => a.sshiftRight (b.toNat % 64))

/-- ROR (spec/02 Table 2-5). -/
def execRor (c : Fin 6) (rd ra rb : Fin 32) (s : State) : Res := .next (s.aluReg c rd ra rb fun a b => a.rotateRight (b.toNat % 64))

/-- SLT (spec/02 Table 2-5). -/
def execSlt (c : Fin 6) (rd ra rb : Fin 32) (s : State) : Res := .next (s.aluReg c rd ra rb fun a b => boolWord (a.slt b))

/-- SLTU (spec/02 Table 2-5). -/
def execSltu (c : Fin 6) (rd ra rb : Fin 32) (s : State) : Res := .next (s.aluReg c rd ra rb fun a b => boolWord (a.ult b))

/-- MIN, signed (spec/02 Table 2-5). -/
def execMin (c : Fin 6) (rd ra rb : Fin 32) (s : State) : Res := .next (s.aluReg c rd ra rb fun a b => if a.slt b then a else b)

/-- MAX, signed (spec/02 Table 2-5). -/
def execMax (c : Fin 6) (rd ra rb : Fin 32) (s : State) : Res := .next (s.aluReg c rd ra rb fun a b => if a.slt b then b else a)

/-- MINU (spec/02 Table 2-5). -/
def execMinu (c : Fin 6) (rd ra rb : Fin 32) (s : State) : Res := .next (s.aluReg c rd ra rb fun a b => if a.ult b then a else b)

/-- MAXU (spec/02 Table 2-5). -/
def execMaxu (c : Fin 6) (rd ra rb : Fin 32) (s : State) : Res := .next (s.aluReg c rd ra rb fun a b => if a.ult b then b else a)

/-- CLZ: 64 for zero (spec/02 R52). -/
def execClz (c : Fin 6) (rd ra : Fin 32) (s : State) : Res := .next (s.alu c fun k => k.setReg rd (BitVec.ofNat 64 (clz64 (k.reg ra))))

/-- CTZ: 64 for zero (spec/02 R52). -/
def execCtz (c : Fin 6) (rd ra : Fin 32) (s : State) : Res := .next (s.alu c fun k => k.setReg rd (BitVec.ofNat 64 (ctzFrom (k.reg ra) 0 64)))

/-- POPC (spec/02 Table 2-5). -/
def execPopc (c : Fin 6) (rd ra : Fin 32) (s : State) : Res := .next (s.alu c fun k => k.setReg rd (BitVec.ofNat 64 (popFrom (k.reg ra) 64)))

/-- SEXTB (spec/02 Table 2-5). -/
def execSextb (c : Fin 6) (rd ra : Fin 32) (s : State) : Res := .next (s.alu c fun k => k.setReg rd (((k.reg ra).extractLsb' 0 8).signExtend 64))

/-- SEXTH (spec/02 Table 2-5). -/
def execSexth (c : Fin 6) (rd ra : Fin 32) (s : State) : Res := .next (s.alu c fun k => k.setReg rd (((k.reg ra).extractLsb' 0 16).signExtend 64))

/-- SEXTW (spec/02 Table 2-5). -/
def execSextw (c : Fin 6) (rd ra : Fin 32) (s : State) : Res := .next (s.alu c fun k => k.setReg rd (sext32 (k.reg ra)))

/-- ZEXTW (spec/02 Table 2-5). -/
def execZextw (c : Fin 6) (rd ra : Fin 32) (s : State) : Res := .next (s.alu c fun k => k.setReg rd (((k.reg ra).extractLsb' 0 32).setWidth 64))

/-- ADDI, the immediate sign-extended or from LIM prefixes (spec/02 R49). -/
def execAddi (c : Fin 6) (rd ra : Fin 32) (imm : BitVec 16) (lim : Lim) (s : State) : Res :=
  .next (s.aluImm c true rd ra imm lim fun a b => a + b)

/-- SLTI (spec/02 R49). -/
def execSlti (c : Fin 6) (rd ra : Fin 32) (imm : BitVec 16) (lim : Lim) (s : State) : Res :=
  .next (s.aluImm c true rd ra imm lim fun a b => boolWord (a.slt b))

/-- SLTIU: the sign-extended immediate, compared unsigned (spec/02 R49). -/
def execSltiu (c : Fin 6) (rd ra : Fin 32) (imm : BitVec 16) (lim : Lim) (s : State) : Res :=
  .next (s.aluImm c true rd ra imm lim fun a b => boolWord (a.ult b))

/-- ANDI, zero-extended without LIM (spec/02 R49). -/
def execAndi (c : Fin 6) (rd ra : Fin 32) (imm : BitVec 16) (lim : Lim) (s : State) : Res :=
  .next (s.aluImm c false rd ra imm lim fun a b => a &&& b)

/-- ORI (spec/02 R49). -/
def execOri (c : Fin 6) (rd ra : Fin 32) (imm : BitVec 16) (lim : Lim) (s : State) : Res :=
  .next (s.aluImm c false rd ra imm lim fun a b => a ||| b)

/-- XORI (spec/02 R49). -/
def execXori (c : Fin 6) (rd ra : Fin 32) (imm : BitVec 16) (lim : Lim) (s : State) : Res :=
  .next (s.aluImm c false rd ra imm lim fun a b => a ^^^ b)

/-- SLLI: shift ra by imm16[5:0] (spec/02 Table 2-5). -/
def execSlli (c : Fin 6) (rd ra : Fin 32) (sh : BitVec 6) (s : State) : Res := .next (s.alu c fun k => k.setReg rd (k.reg ra <<< sh.toNat))

/-- SRLI: shift ra by imm16[5:0] (spec/02 Table 2-5). -/
def execSrli (c : Fin 6) (rd ra : Fin 32) (sh : BitVec 6) (s : State) : Res := .next (s.alu c fun k => k.setReg rd (k.reg ra >>> sh.toNat))

/-- SRAI: shift ra by imm16[5:0] (spec/02 Table 2-5). -/
def execSrai (c : Fin 6) (rd ra : Fin 32) (sh : BitVec 6) (s : State) : Res := .next (s.alu c fun k => k.setReg rd ((k.reg ra).sshiftRight sh.toNat))

/-- MUL: low 64 bits of the product (spec/02 Table 2-5). -/
def execMul (c : Fin 6) (rd ra rb : Fin 32) (s : State) : Res := .next (s.aluReg c rd ra rb fun a b => a * b)

/-- MULHI: high 64 bits, signed (spec/02 Table 2-5). -/
def execMulhi (c : Fin 6) (rd ra rb : Fin 32) (s : State) : Res := .next (s.aluReg c rd ra rb fun a b => BitVec.ofInt 64 (a.toInt * b.toInt / 2 ^ 64))

/-- MULHIU: high 64 bits, unsigned (spec/02 Table 2-5). -/
def execMulhiu (c : Fin 6) (rd ra rb : Fin 32) (s : State) : Res := .next (s.aluReg c rd ra rb fun a b => BitVec.ofNat 64 (a.toNat * b.toNat / 2 ^ 64))

/-- MULS32: full product of the low halves, signed (spec/02 Table 2-5). -/
def execMuls32 (c : Fin 6) (rd ra rb : Fin 32) (s : State) : Res := .next (s.aluReg c rd ra rb fun a b => BitVec.ofInt 64 (lo32 a * lo32 b))

/-- MULU32: full product of the low halves, unsigned (spec/02 Table 2-5). -/
def execMulu32 (c : Fin 6) (rd ra rb : Fin 32) (s : State) : Res := .next (s.aluReg c rd ra rb fun a b => ((a.extractLsb' 0 32).setWidth 64) * ((b.extractLsb' 0 32).setWidth 64))

/-- DVS: signed quotient rounded toward −∞ (spec/02 R53). -/
def execDvs (c : Fin 6) (rd ra rb : Fin 32) (s : State) : Res := .next (s.aluDiv c rd ra rb divSigned)

/-- DVU: unsigned quotient (spec/02 R53). -/
def execDvu (c : Fin 6) (rd ra rb : Fin 32) (s : State) : Res := .next (s.aluDiv c rd ra rb divUnsigned)

/-- MDS: signed modulus (spec/02 R53). -/
def execMds (c : Fin 6) (rd ra rb : Fin 32) (s : State) : Res := .next (s.aluDiv c rd ra rb modSigned)

/-- MDU: unsigned modulus (spec/02 R53). -/
def execMdu (c : Fin 6) (rd ra rb : Fin 32) (s : State) : Res := .next (s.aluDiv c rd ra rb modUnsigned)

/-- ACLR: a := 0 (spec/02 Table 2-6). -/
def execAclr (c : Fin 6) (a : Fin 4) (s : State) : Res := .next (s.alu c fun k => k.setAcc a 0)

/-- AMUL: a := p (spec/02 Table 2-6). -/
def execAmul (c : Fin 6) (a : Fin 4) (ra rb : Fin 32) (s : State) : Res := .next (s.alu c fun k => k.putAccSat a (lo32 (k.reg ra) * lo32 (k.reg rb)))

/-- AMAC: a := sat96(a + p) (spec/02 Table 2-6). -/
def execAmac (c : Fin 6) (a : Fin 4) (ra rb : Fin 32) (s : State) : Res := .next (s.alu c fun k => k.putAccSat a ((k.acc a).toInt + lo32 (k.reg ra) * lo32 (k.reg rb)))

/-- AMSU: a := sat96(a − p) (spec/02 Table 2-6). -/
def execAmsu (c : Fin 6) (a : Fin 4) (ra rb : Fin 32) (s : State) : Res := .next (s.alu c fun k => k.putAccSat a ((k.acc a).toInt - lo32 (k.reg ra) * lo32 (k.reg rb)))

/-- AMUL2: a := q (spec/02 Table 2-6). -/
def execAmul2 (c : Fin 6) (a : Fin 4) (ra rb : Fin 32) (s : State) : Res := .next (s.alu c fun k => k.putAccSat a (dot16 (k.reg ra) (k.reg rb)))

/-- AMAC2: a := sat96(a + q) (spec/02 Table 2-6). -/
def execAmac2 (c : Fin 6) (a : Fin 4) (ra rb : Fin 32) (s : State) : Res := .next (s.alu c fun k => k.putAccSat a ((k.acc a).toInt + dot16 (k.reg ra) (k.reg rb)))

/-- ASHL: a := sat96(a × 2^s) (spec/02 Table 2-6). -/
def execAshl (c : Fin 6) (a : Fin 4) (sh : BitVec 6) (s : State) : Res := .next (s.alu c fun k => k.putAccSat a ((k.acc a).toInt * 2 ^ sh.toNat))

/-- ASHR: a := floor(a / 2^s) (spec/02 Table 2-6). -/
def execAshr (c : Fin 6) (a : Fin 4) (sh : BitVec 6) (s : State) : Res := .next (s.alu c fun k => k.putAccSat a ((k.acc a).toInt / 2 ^ sh.toNat))

/-- AEXT: rd := sext(sat32(round_m(a / 2^s))) (spec/02 Table 2-6). -/
def execAext (c : Fin 6) (rd : Fin 32) (a : Fin 4) (sh : BitVec 6) (m : Fin 4) (s : State) : Res := .next (s.alu c fun k => k.putRegSat rd 32 (roundShift m sh.toNat (k.acc a).toInt))

/-- AEXTD: rd := sat64(round_m(a / 2^s)) (spec/02 Table 2-6). -/
def execAextd (c : Fin 6) (rd : Fin 32) (a : Fin 4) (sh : BitVec 6) (m : Fin 4) (s : State) : Res := .next (s.alu c fun k => k.putRegSat rd 64 (roundShift m sh.toNat (k.acc a).toInt))

/-- AGETL: rd := a[63:0] (spec/02 Table 2-6). -/
def execAgetl (c : Fin 6) (rd : Fin 32) (a : Fin 4) (s : State) : Res := .next (s.alu c fun k => k.setReg rd ((k.acc a).extractLsb' 0 64))

/-- AGETH: rd := sext(a[95:64]) (spec/02 Table 2-6). -/
def execAgeth (c : Fin 6) (rd : Fin 32) (a : Fin 4) (s : State) : Res := .next (s.alu c fun k => k.setReg rd (((k.acc a).extractLsb' 64 32).signExtend 64))

/-- APUT: a := rb[31:0] : ra[63:0] (spec/02 Table 2-6). -/
def execAput (c : Fin 6) (a : Fin 4) (ra rb : Fin 32) (s : State) : Res := .next (s.alu c fun k => k.setAcc a ((k.reg rb).extractLsb' 0 32 ++ k.reg ra))

/-- QADD (spec/02 Table 2-6). -/
def execQadd (c : Fin 6) (rd ra rb : Fin 32) (s : State) : Res := .next (s.alu c fun k => k.putRegSat rd 32 (lo32 (k.reg ra) + lo32 (k.reg rb)))

/-- QSUB (spec/02 Table 2-6). -/
def execQsub (c : Fin 6) (rd ra rb : Fin 32) (s : State) : Res := .next (s.alu c fun k => k.putRegSat rd 32 (lo32 (k.reg ra) - lo32 (k.reg rb)))

/-- QMUL: rounded half toward +∞ (spec/02 Table 2-6). -/
def execQmul (c : Fin 6) (rd ra rb : Fin 32) (s : State) : Res := .next (s.alu c fun k => k.putRegSat rd 32 (roundShift 1 31 (lo32 (k.reg ra) * lo32 (k.reg rb))))

/-- QNEG (spec/02 Table 2-6). -/
def execQneg (c : Fin 6) (rd ra : Fin 32) (s : State) : Res := .next (s.alu c fun k => k.putRegSat rd 32 (-lo32 (k.reg ra)))

/-- QABS (spec/02 Table 2-6). -/
def execQabs (c : Fin 6) (rd ra : Fin 32) (s : State) : Res := .next (s.alu c fun k => k.putRegSat rd 32 (if lo32 (k.reg ra) < 0 then -lo32 (k.reg ra) else lo32 (k.reg ra)))

/-- BEQ (spec/02 Table 2-8, R55). -/
def execBeq (c : Fin 6) (ra rb : Fin 32) (off : BitVec 16) (mp : Bool) (s : State) : Res :=
  .next (s.branch c off mp fun k => k.reg ra == k.reg rb)

/-- BNE (spec/02 Table 2-8, R55). -/
def execBne (c : Fin 6) (ra rb : Fin 32) (off : BitVec 16) (mp : Bool) (s : State) : Res :=
  .next (s.branch c off mp fun k => k.reg ra != k.reg rb)

/-- BLT (spec/02 Table 2-8, R55). -/
def execBlt (c : Fin 6) (ra rb : Fin 32) (off : BitVec 16) (mp : Bool) (s : State) : Res :=
  .next (s.branch c off mp fun k => (k.reg ra).slt (k.reg rb))

/-- BGE (spec/02 Table 2-8, R55). -/
def execBge (c : Fin 6) (ra rb : Fin 32) (off : BitVec 16) (mp : Bool) (s : State) : Res :=
  .next (s.branch c off mp fun k => !(k.reg ra).slt (k.reg rb))

/-- BLTU (spec/02 Table 2-8, R55). -/
def execBltu (c : Fin 6) (ra rb : Fin 32) (off : BitVec 16) (mp : Bool) (s : State) : Res :=
  .next (s.branch c off mp fun k => (k.reg ra).ult (k.reg rb))

/-- BGEU (spec/02 Table 2-8, R55). -/
def execBgeu (c : Fin 6) (ra rb : Fin 32) (off : BitVec 16) (mp : Bool) (s : State) : Res :=
  .next (s.branch c off mp fun k => !(k.reg ra).ult (k.reg rb))

/-- BBS: bit b of ra, b = 0–31 (spec/02 Table 2-8). -/
def execBbs (c : Fin 6) (ra b : Fin 32) (off : BitVec 16) (mp : Bool) (s : State) : Res :=
  .next (s.branch c off mp fun k => (k.reg ra).getLsbD b)

/-- BBC: bit b of ra, b = 0–31 (spec/02 Table 2-8). -/
def execBbc (c : Fin 6) (ra b : Fin 32) (off : BitVec 16) (mp : Bool) (s : State) : Res :=
  .next (s.branch c off mp fun k => !(k.reg ra).getLsbD b)

/-- J (spec/02 Table 2-8). -/
def execJ (c : Fin 6) (off : BitVec 26) (s : State) : Res :=
  .next (s.issue c fun k => s.retire c k (branchTarget k.pc off.toInt))

/-- JAL: g31 := pc + 4 (spec/02 R38, Table 2-8). -/
def execJal (c : Fin 6) (off : BitVec 26) (s : State) : Res :=
  .next (s.issue c fun k => s.retire c (k.setReg 31 ((k.pc + 4).setWidth 64)) (branchTarget k.pc off.toInt))

/-- JALR: t := (ra + imm) AND NOT 3; rd := pc + 4; pc := t; with prefixes pc is that of the first LIM and the return address the word after
the group (spec/02 R49, Table 2-8). A target of 2^32 or more raises fetch fault with eval the target and epc its low 32 bits, which is all
that cw2 holds (R55, Table 2-1). -/
def execJalr (c : Fin 6) (rd ra : Fin 32) (imm : BitVec 16) (lim : Lim) (s : State) : Res :=
  .next (s.withLim c lim fun k =>
    let t := (k.ea ra imm lim) - (k.ea ra imm lim) % 4
    let k := k.setReg rd ((k.pc + BitVec.ofNat 32 (4 * limWords lim)).setWidth 64)
    let pc : Addr := BitVec.ofNat 32 t
    if t < 2 ^ 32 then s.retire c k pc
    else (s.setCore c { k.setCwd 16 (Tab.get k.cw 16 0 + 1) with pc := pc }).exc c 0x02 0 (BitVec.ofNat 64 t) pc s.now)

/-- NOP (spec/02 Table 2-11). -/
def execNop (c : Fin 6) (s : State) : Res := .next (s.alu c id)

/-- TRAP: the trap cause with eval := code (spec/02 R64, Table 2-11). -/
def execTrap (c : Fin 6) (code : BitVec 8) (s : State) : Res :=
  .next (s.issue c fun k => s.exc c 0x08 0 (code.setWidth 64) k.pc s.now)

/-- BRK: the breakpoint cause; no debugger reaches a field core (spec/02 Table 2-11, spec/17 R462). -/
def execBrk (c : Fin 6) (s : State) : Res :=
  .next (s.issue c fun k => s.exc c 0x09 0 0 k.pc s.now)

/-- A word that is no instruction (spec/02 R50): illegal instruction with eval := the word. A word of the instruction set is not this
event and has no effect here. -/
def execIllegalInstruction (c : Fin 6) (word : BitVec 32) (s : State) : Res :=
  .next (if primelLegal word then s else s.issue c fun k => s.exc c 0x01 0 (word.setWidth 64) k.pc s.now)

end Sys2Proof.Machine
end

