-- ==== Sys2Proof/Machine/Access.lean ====
section
/-! DEFINITION. The site-core address map, its rights, and plain memory accesses (spec/02 R42–R47, R56, R57). -/

namespace Sys2Proof.Machine

/-- Where an address of core `c` lies in the one byte memory: local SRAM apart for each core, everything else at its own address. -/
def physAddr (c a : Nat) : Nat := if a < 0x40000 then 0x100000000 * (c + 1) + a else a

/-- Whether `a` lies in `[lo, hi]`. -/
def inRange (a lo hi : Nat) : Bool := decide (lo ≤ a) && decide (a ≤ hi)

/-- Effect space (spec/02 Table 2-2). -/
def isEffect (a : Nat) : Bool := inRange a 0x40000000 0x4FFFFFFF
/-- Head mailboxes (spec/02 Table 2-2). -/
def isMailbox (a : Nat) : Bool := inRange a 0x50000000 0x502FFFFF
/-- The Boulevard (spec/02 Table 2-2). -/
def isBoulevard (a : Nat) : Bool := inRange a 0x20000000 0x207FFFFF
/-- Local data SRAM (spec/02 Table 2-2). -/
def isDataSram (a : Nat) : Bool := inRange a 0x20000 0x3FFFF

/-- The kinds a page of effect space or mailbox space may be granted to (spec/02 Tables 2-2, 2-3): is kind `kind` among them. -/
def pageKind (a kind : Nat) : Bool :=
  if inRange a 0x40000000 0x400BFFFF then kind == 1
  else if inRange a 0x40100000 0x4010FFFF then kind == 0
  else if inRange a 0x40110000 0x4011FFFF then kind == 1
  else if inRange a 0x40120000 0x4012FFFF then kind == 2
  else if inRange a 0x40200000 0x4020FFFF then kind == 0
  else if inRange a 0x40210000 0x4021FFFF then kind == 1
  else if inRange a 0x40220000 0x4022FFFF then kind == 2
  else if inRange a 0x40300000 0x4030FFFF then true
  else if inRange a 0x40400000 0x4043FFFF then kind == 0 || kind == 1
  else if inRange a 0x40440000 0x4044FFFF then kind == 0
  else if isMailbox a then kind == 1 || kind == 2
  else false

/-- Whether the running image grants the page of `a` for a load or a store (spec/02 R43). -/
def Core.granted (k : Core) (a : Nat) (store : Bool) : Bool :=
  match k.image with
  | none => false
  | some i =>
    pageKind a i.kind && i.grants.any fun g =>
      decide (g.base.toNat ≤ a) && decide (a < g.base.toNat + g.pages.toNat * 0x10000) && (if store then g.store else g.load)

/-- A core's own read-to-clear block (spec/02 Table 2-3, R46): the physical core's, for P5 the block of index 5 whatever core it stands for
(notes/assumptions/43.md). -/
def ownBlock (c a : Nat) : Bool :=
  if inRange a 0x40300000 0x4030FFFF then inRange a (0x40300000 + 0x1000 * c) (0x40300FFF + 0x1000 * c) else true

/-- Whether core `c` may load from `a` (spec/02 R42, Table 2-2). -/
def Core.mayLoad (k : Core) (c a : Nat) : Bool :=
  if a < 0x40000 then true
  else if inRange a 0x20000000 0x203FFFFF then k.kind == 0
  else if inRange a 0x20400000 0x205FFFFF then k.kind == 1
  else if inRange a 0x20600000 0x206FFFFF then k.kind == 2
  else if inRange a 0x20700000 0x2077FFFF then k.kind == 0 || k.kind == 1
  else if inRange a 0x20780000 0x207FFFFF then k.kind == 0 || k.kind == 2
  else if isEffect a then k.granted a false && ownBlock c a
  else if isMailbox a then k.granted a false
  else inRange a 0x60000000 0x6000EFFF

/-- Whether core `c` may store to `a` (spec/02 R42, Table 2-2). -/
def Core.mayStore (k : Core) (c a : Nat) : Bool :=
  if a < 0x20000 then false
  else if a < 0x40000 then true
  else if inRange a 0x20000000 0x203FFFFF then k.kind == 0
  else if inRange a 0x20400000 0x205FFFFF then k.kind == 1
  else if inRange a 0x20600000 0x206FFFFF then k.kind == 2
  else if inRange a 0x20700000 0x2077FFFF then k.kind == 1
  else if inRange a 0x20780000 0x207FFFFF then k.kind == 2
  else if isEffect a then k.granted a true && ownBlock c a
  else if isMailbox a then k.granted a true
  else false

/-- The code region of a memory address of core `c` (spec/01 Table 1-6); none for pages and windows. -/
def codeRegion (c a : Nat) : Option Nat :=
  if a < 0x20000 then some c
  else if a < 0x40000 then some (6 + c)
  else if isBoulevard a then some 12
  else none

/-- Bytes of an access read. -/
def State.loadBytes (s : State) (c a n : Nat) : Nat := Memory.read s.mem (physAddr c a) n

/-- Bytes of an access written. -/
def State.storeBytes (s : State) (c a v n : Nat) : State := { s with mem := Memory.write s.mem (physAddr c a) v n }

/-- A load's or store's block as the decoder reports it (spec/01 R27, R35): counted in its region, and whether the uncorrectable cause is
raised. Blocks of pages and windows have no region of their own. -/
def State.block (s : State) (c a : Nat) (b : BlockResult) : State × Option Nat :=
  match codeRegion c a with
  | none => (s, none)
  | some r => (s.countBlock r b (blockOf a) s.now, match b with | .uncorrectable => some r | _ => none)

/-- The rights and alignment check of an access (spec/02 R42, R44, R56): the cause it raises, or none. Misaligned access is judged first
(notes/assumptions/12.md). -/
def Core.checkAccess (k : Core) (c a n : Nat) (store : Bool) : Option Nat :=
  if a % n ≠ 0 then some 0x05
  else if isEffect a && n < 4 then some (if store then 0x04 else 0x03)
  else if store then (if k.mayStore c a then none else some 0x04)
  else (if k.mayLoad c a then none else some 0x03)

/-- An atomic on the 64-bit word at ra (spec/02 R57): valid in local data SRAM and the Boulevard, after every older effect-queue entry has
left (spec/03 R83); rd := the old value and the word replaced by what `f` gives of rd, rb and the old value, unless none. -/
def State.atomic (s : State) (c rd ra rb : Nat) (ecc : BlockResult) (f : Word → Word → Word → Option Word × Bool) : State :=
  s.issueAlone c fun k =>
  let a := (k.reg ra).toNat
  if a % 8 ≠ 0 then s.exc c 0x05 0 (k.reg ra) k.pc s.now
  else if (isDataSram a || isBoulevard a) && k.mayStore c a then
    let b := s.block c a ecc
    match b.2 with
    | some r => b.1.exc c 0x06 r (BitVec.ofNat 64 (blockOf a)) k.pc s.now
    | none =>
      let old := BitVec.ofNat 64 (s.loadBytes c a 8)
      let r := f (k.reg rd) (k.reg rb) old
      let s := b.1
      let s := match r.1 with | some v => s.storeBytes c a v.toNat 8 | none => s
      s.retire c ((k.setReg rd old).setQsat r.2) (k.pc + 4)
  else s.exc c 0x04 0 (k.reg ra) k.pc s.now

/-- CASD: t := mem64[ra]; if t = rd then mem64[ra] := rb; rd := t (spec/02 Table 2-9). -/
def execCasd (c : Fin 6) (rd ra rb : Fin 32) (ecc : BlockResult) (s : State) : Res :=
  .next (s.atomic c rd ra rb ecc fun d b t => (if t = d then some b else none, false))

/-- SWPD (spec/02 Table 2-9). -/
def execSwpd (c : Fin 6) (rd ra rb : Fin 32) (ecc : BlockResult) (s : State) : Res :=
  .next (s.atomic c rd ra rb ecc fun _ b _ => (some b, false))

/-- FADDD: modulo 2^64 (spec/02 Table 2-9). -/
def execFaddd (c : Fin 6) (rd ra rb : Fin 32) (ecc : BlockResult) (s : State) : Res :=
  .next (s.atomic c rd ra rb ecc fun _ b t => (some (t + b), false))

/-- FSATD: saturated to the signed 64-bit range, setting cw17.qsat (spec/02 Table 2-9). -/
def execFsatd (c : Fin 6) (rd ra rb : Fin 32) (ecc : BlockResult) (s : State) : Res :=
  .next (s.atomic c rd ra rb ecc fun _ b t =>
    let r := satSigned 64 (t.toInt + b.toInt)
    (some (BitVec.ofInt 64 r.1), r.2))

/-- FANDD (spec/02 Table 2-9). -/
def execFandd (c : Fin 6) (rd ra rb : Fin 32) (ecc : BlockResult) (s : State) : Res :=
  .next (s.atomic c rd ra rb ecc fun _ b t => (some (t &&& b), false))

/-- FORD (spec/02 Table 2-9). -/
def execFord (c : Fin 6) (rd ra rb : Fin 32) (ecc : BlockResult) (s : State) : Res :=
  .next (s.atomic c rd ra rb ecc fun _ b t => (some (t ||| b), false))

/-- FMAXD: signed maximum (spec/02 Table 2-9). -/
def execFmaxd (c : Fin 6) (rd ra rb : Fin 32) (ecc : BlockResult) (s : State) : Res :=
  .next (s.atomic c rd ra rb ecc fun _ b t => (some (if t.slt b then b else t), false))

/-- FMIND: signed minimum (spec/02 Table 2-9). -/
def execFmind (c : Fin 6) (rd ra rb : Fin 32) (ecc : BlockResult) (s : State) : Res :=
  .next (s.atomic c rd ra rb ecc fun _ b t => (some (if b.slt t then b else t), false))

end Sys2Proof.Machine
end

