-- ==== Sys2Proof/Machine/Attrib.lean ====
section
/-! DEFINITION. The injector: units seen, acted on, altered and held (spec/18 R473, Table 18-5). -/

namespace Sys2Proof.Machine

/-- An injected unit counted in its slot (spec/18 R473, Table 18-6). -/
def State.applied (s : State) (j : Nat) : State := s.inc injectApplied j 1

/-- Whether slot `j` acts on units of a medium, target and direction (0 received, 1 sent) at `t`, target 0x3FF of the mesh being every node:
until its end, however late the step that records the end. -/
def State.slotActs (s : State) (j medium target dir t : Nat) : Bool :=
  s.get injectState j == 1 && s.get injectMedium j == medium
    && (s.get injectTarget j == target || (medium == 6 && s.get injectTarget j == 0x3FF))
    && (s.get injectDir j == 2 || s.get injectDir j == dir)
    && (s.get injectLimit j == 0 || decide (s.get injectApplied j < s.get injectLimit j))
    && decide (s.get injectStart j ≤ t) && decide (t < s.get injectStart j + s.get injectDuration j * 1000000000)

/-- A unit counted by each slot that acts on its kind, and the first slot that acts on it: on every n-th. -/
def State.unitSeen (s : State) (medium target dir t : Nat) : Option Nat × State :=
  (List.range 8).foldl (fun (a : Option Nat × State) j =>
    if a.2.slotActs j medium target dir t then
      let n := Tab.get a.2.diag.seen j 0 + 1
      let s := { a.2 with diag := { a.2.diag with seen := Tab.set a.2.diag.seen j n } }
      if a.1.isNone && n % max 1 (s.get injectEveryN j) == 0 then (some j, s.applied j) else (a.1, s)
    else a) (none, s)

/-- Bytes of a coded unit altered by slot `j`: up to two of a block are corrected, more lose it; both counted in diag.inj_ecc
(spec/18 R473, R478; spec/01 R35, R37). Answers whether the unit is lost. -/
def State.corruptBy (s : State) (j n region loc t : Nat) : Bool × State :=
  let b : BlockResult := .provoked ⟨j % 8, Nat.mod_lt _ (by decide)⟩ (if n ≤ 2 then n else 0)
  (BlockResult.lost b, s.countBlock region b loc t)

/-- A unit held by slot `j` (spec/18 R473). -/
def State.holdUnit (s : State) (j t : Nat) (u : DiagUnit) : State :=
  { s with diag := { s.diag with held := Tab.set s.diag.held j { unit := u, at_ := t } } }

/-- A slot that holds no unit. -/
def State.unhold (s : State) (j : Nat) : State := { s with diag := { s.diag with held := Tab.del s.diag.held j } }

/-- Frames to node `n` of the mesh that reorder injections hold leave after the one just sent. -/
def State.releaseMeshSent (s : State) (n : Nat) : State :=
  (List.range 8).foldl (fun s j =>
    match Tab.find s.diag.held j with
    | some ⟨.meshSent q o, _⟩ => if q = n ∨ s.get injectTarget j = 0x3FF then (s.unhold j).emit o else s
    | _ => s) s

/-- A MAC frame leaves FN for node `n`, through the injections on it: one dropped, or of a wrong FCS, reaches nobody (spec/18 Table 18-5). -/
def State.emitMesh (s : State) (n : Nat) (o : Out) (t : Nat) : State :=
  let a := s.unitSeen 6 n 1 t
  a.1.elim ((a.2.emit o).releaseMeshSent n) fun j =>
    if a.2.get injectAction j = 3 then (a.2.releaseMeshSent n).holdUnit j t (.meshSent n o) else a.2.releaseMeshSent n

/-- A lane frame, received or sent (`dir`), through the injections on its lane (spec/18 Table 18-5): whether it is lost. A symbol replaced is a
code error and one wrong byte of its block. -/
def State.frameUnit (s : State) (medium target dir region loc t : Nat) : Bool × State :=
  let a := s.unitSeen medium target dir t
  let s := a.2
  a.1.elim (false, s) fun j =>
    match s.get injectAction j with
    | 1 => (true, s)
    | 2 => s.corruptBy j (s.get injectBytes j) region loc t
    | _ => (s.inc laneStateCodeErrors target 1).corruptBy j 1 region loc t

/-- Where the injector keeps how often in a row a Causeway message towards a side was acted on. -/
def cwKey (side : Side) (lseq : Nat) : Nat := lseq + (match side with | .field => 0 | .host => 256)

/-- That count set; 0 is not kept. -/
def State.setHits (s : State) (key n : Nat) : State :=
  { s with diag := { s.diag with cwHits := if n = 0 then Tab.del s.diag.cwHits key else Tab.set s.diag.cwHits key n } }

/-- A Causeway message that reaches a half over a link, through the injections on that link: the slot that acts on it. A message is acted on at
most twice (spec/18 R477). Every message is a received unit (notes/assumptions/40.md). -/
def State.linkUnit (s : State) (side : Side) (link lseq t : Nat) : Option Nat × State :=
  let key := cwKey side lseq
  let n := Tab.get s.diag.cwHits key 0
  if 2 ≤ n then (none, s.setHits key 0)
  else
    let a := s.unitSeen 3 link 0 t
    (a.1, a.2.setHits key (if a.1.isSome then n + 1 else 0))

end Sys2Proof.Machine
end

