-- ==== Sys2Proof/Machine/Crossing.lean ====
section
/-! DEFINITION. Channels, gates, waits, deadlines, interrupt delivery and control words (spec/02 R58–R73, spec/03 R88–R97). -/

namespace Sys2Proof.Machine

/-! ### Channels (spec/02 R67, R68) -/

/-- A core's declaration of a channel; channels are 0–63 (spec/02 R67). -/
def Core.chan (k : Core) (ch : Nat) : Option ChanDecl :=
  match k.image with
  | none => none
  | some i => if ch < 64 then i.chans.find? fun d => d.ch.toNat == ch else none

/-- The messages waiting on a channel. -/
def Core.queue (k : Core) (ch : Nat) : List ChanMsg := Tab.get k.queues ch []

/-- A message arrives at channel `ch` of core `c`: at a full channel it is dropped and its bit set in the read-to-clear block
(spec/02 R46, R68). -/
def State.deliverMsg (s : State) (c ch : Nat) (m : ChanMsg) : State :=
  let k := s.core c
  match k.chan ch with
  | none => s
  | some d =>
    let q := k.queue ch
    if q.length < d.depth.toNat then s.setCore c { k with queues := Tab.set k.queues ch (q ++ [m]) }
    else s.setCore c { k with rc := Tab.set k.rc 0 (Tab.get k.rc 0 0 ||| 2 ^ ch) }

/-- A message buffer must be 8-byte aligned and lie whole in local data SRAM (spec/02 R68): the cause it raises, or none. -/
def bufferFault (a : Nat) (store : Bool) : Option Nat :=
  if a % 8 ≠ 0 then some 0x05
  else if isDataSram a && isDataSram (a + 271) then none
  else some (if store then 0x04 else 0x03)

/-- The instruction word reported by a crossing instruction's exception. -/
def crossWord (f rd ra rb n : Nat) : Word := regWord 0x30 rd ra rb (f * 256 + n % 256)

/-- A message taken from a channel into the buffer at `a` (spec/02 R68): length, arrival stamp and payload; the length is the result. -/
def State.takeMsg (s : State) (c ch a : Nat) (m : ChanMsg) (rest : List ChanMsg) (rd : Nat) : State :=
  let s := s.storeBytes c a (m.payload.len % 65536) 8
  let s := s.storeBytes c (a + 8) m.stamp 8
  let s := s.storeBytes c (a + 16) m.payload.data m.payload.len
  let k := s.core c
  s.setCore c (({ k with queues := Tab.set k.queues ch rest }).setReg rd (BitVec.ofNat 64 m.payload.len))

/-- XSEND: 0 sent, 1 full, 2 too long, 3 peer not running; the length is judged before the peer and the peer before its room
(notes/assumptions/13.md). A host peer's object takes the message, which its subscribers are notified of (spec/02 R67). -/
def execXsend (t : Nat) (c : Fin 6) (rd ra : Fin 32) (ch8 : BitVec 8) (s : State) : Res :=
  let s := s.at t
  let ch := ch8.toNat
  .next (s.issueAlone c fun k =>
  let a := (k.reg ra).toNat
  let misuse : State := s.exc c 0x0C ch (crossWord 1 rd ra 0 ch) k.pc t
  match k.chan ch with
  | none => misuse
  | some d =>
    if d.send = false then misuse
    else match bufferFault a false with
    | some cause => s.exc c cause 0 (k.reg ra) k.pc t
    | none =>
      let len := s.loadBytes c a 2
      let m : ChanMsg := { stamp := t, payload := { len := len, data := s.loadBytes c (a + 16) len } }
      let done (s : State) (st : Nat) : State := s.retire c ((s.core c).setReg rd (BitVec.ofNat 64 st)) (k.pc + 4)
      if d.maxLen.toNat < len ∨ 256 < len then done s 2
      else if 0x80 ≤ d.peer.toNat then done { s with openChan := Tab.set s.openChan (d.peer.toNat - 0x80) m } 0
      else
        let p := s.physical d.peer.toNat
        let kp := s.core p
        match kp.chan ch with
        | none => done s 3
        | some dp =>
          if kp.alive = false ∨ dp.recv = false ∨ dp.peer.toNat ≠ s.logical c then done s 3
          else if dp.depth.toNat ≤ (kp.queue ch).length then done s 1
          else done (s.deliverMsg p ch m) 0)

/-- The declaration check of XRECV and XPOLL, then the buffer's. -/
def State.recvCheck (s : State) (c ch a : Nat) (word : Word) (ra : Nat) : Option State :=
  let k := s.core c
  let misuse := some (s.exc c 0x0C ch word k.pc s.now)
  match k.chan ch with
  | none => misuse
  | some d =>
    if d.recv = false then misuse
    else match bufferFault a true with
    | some cause => some (s.exc c cause 0 (k.reg ra) k.pc s.now)
    | none => none

/-- XRECV: takes the oldest message stamped at or before the deadline, returns −1 once the deadline has passed by the settle time, or
begins to wait (spec/02 R68, spec/03 R99, R101). -/
def execXrecv (t : Nat) (c : Fin 6) (rd ra rb : Fin 32) (ch8 : BitVec 8) (s : State) : Res :=
  let s := s.at t
  let ch := ch8.toNat
  .next (s.issueAlone c fun k =>
  let a := (k.reg ra).toNat
  let dl := (k.reg rb).toNat
  (s.recvCheck c ch a (crossWord 2 rd ra rb ch) ra).getD
    (let wait (_ : Unit) : State :=
      if dl + 40 ≤ t then s.retire c ((k.setReg rd (BitVec.allOnes 64)).setCwd 23 (BitVec.ofNat 64 dl)) (k.pc + 4)
      else s.setCore c { k with run := .xrecv rd a ch dl }
    match k.queue ch with
    | m :: rest =>
      if m.stamp ≤ dl then
        let s := s.takeMsg c ch a m rest rd
        s.retire c ((s.core c).setCwd 23 (BitVec.ofNat 64 m.stamp)) (k.pc + 4)
      else wait ()
    | [] => wait ()))

/-- A waiting XRECV ends (spec/02 R68): with the oldest message stamped at or before its deadline, else with −1 once the deadline and the
settle time of 40 ns have passed (spec/03 R99, R101). -/
def execXrecvReturn (t : Nat) (c : Fin 6) (s : State) : Res :=
  let s := s.at t
  let k := s.core c
  match k.run with
  | .xrecv rd a ch dl =>
    let late (_ : Unit) : Res :=
      .next (s.retire c { (k.setReg rd (BitVec.allOnes 64)).setCwd 23 (BitVec.ofNat 64 dl) with run := .running } (k.pc + 4))
    match k.queue ch with
    | m :: rest =>
      if m.stamp ≤ dl then
        let s := s.takeMsg c ch a m rest rd
        .next (s.retire c { (s.core c).setCwd 23 (BitVec.ofNat 64 m.stamp) with run := .running } (k.pc + 4))
      else if dl + 40 ≤ t then late () else .next s
    | [] => if dl + 40 ≤ t then late () else .next s
  | _ => .next s

/-- XPOLL: the waiting message's length, or −2 (spec/02 R68). -/
def execXpoll (t : Nat) (c : Fin 6) (rd ra : Fin 32) (ch8 : BitVec 8) (s : State) : Res :=
  let s := s.at t
  let ch := ch8.toNat
  .next (s.issueAlone c fun k =>
  let a := (k.reg ra).toNat
  (s.recvCheck c ch a (crossWord 3 rd ra 0 ch) ra).getD
    (match k.queue ch with
    | m :: rest =>
      let s := s.takeMsg c ch a m rest rd
      s.retire c (s.core c) (k.pc + 4)
    | [] => s.retire c (k.setReg rd (BitVec.ofInt 64 (-2))) (k.pc + 4)))

/-! ### Gates (spec/02 R69–R73) -/

/-- The logical core that serves a gate (spec/02 R69). -/
def gateServer (gate : Nat) : Nat := if gate < 0x80 then 3 else 4

/-- The export entry of a gate in the image a core runs. -/
def Core.exportOf (k : Core) (gate : Nat) : Option Export :=
  match k.image with
  | none => none
  | some i => i.exports.find? fun e => e.gate.toNat == gate

/-- The requests queued at a gate. -/
def Core.gateReqs (k : Core) (gate : Nat) : List GateReq := Tab.get k.gateQ gate []

/-- XCALL (spec/02 R70, R71): a call already out is crossing misuse and is judged first (R73 gives no order, notes/assumptions/43.md), then the
gate must be imported; status 3 where the serving core does not
run or does not export the gate, 2 where its queue holds 4 requests; else the request is queued and the core waits. -/
def execXcall (t : Nat) (c : Fin 6) (rd ra : Fin 32) (gate : BitVec 8) (s : State) : Res :=
  let s := s.at t
  let g := gate.toNat
  .next (s.issueAlone c fun k =>
  if k.xcallOut then s.exc c 0x0C g (crossWord 4 rd ra 0 g) k.pc t
  else
    let imported := match k.image with | none => false | some i => i.imports.any fun x => x.gate.toNat == g
    if imported = false then s.exc c 0x0B g 0 k.pc t
    else
      let p := s.physical (gateServer g)
      let kp := s.core p
      match kp.exportOf g with
      | none => s.retire c (k.setReg rd 3) (k.pc + 4)
      | some e =>
        if kp.alive = false then s.retire c (k.setReg rd 3) (k.pc + 4)
        else if 4 ≤ (kp.gateReqs g).length then s.retire c (k.setReg rd 2) (k.pc + 4)
        else
          let dl := if k.reg ra = 0 then t + e.maxWait.toNat * 1000 else (k.reg ra).toNat
          let r : GateReq := { caller := s.logical c, args := [1, 2, 3, 4, 5, 6].map k.reg, stamp := t, deadline := dl }
          let s := s.setCore p { kp with gateQ := Tab.set kp.gateQ g (kp.gateReqs g ++ [r]) }
          let k := s.core c
          let call : XCall := { pc := k.pc, rd := rd, gate := g, stamp := t, deadline := dl, accepted := false,
                                effecting := e.effecting, result := none }
          s.setCore c { k.setCw0 1 1 1 with run := .xcall, call := some call })

/-- The core that has a request out, with its call. -/
def State.callOf (s : State) (r : GateReq) (gate : Nat) : Option (Nat × XCall) :=
  let p := s.physical r.caller
  match (s.core p).call with
  | none => none
  | some x => if x.gate = gate ∧ x.stamp = r.stamp then some (p, x) else none

/-- The serving core starts the oldest request of a gate, which counts as acceptance (spec/02 R70); it takes one gate at a time, only while
delivery is enabled (R66), and only a request whose deadline has not passed (spec/03 R99). Which of several gates with a request it takes
next is the command's operand: what an export's gate-entry priority decides is not stated (notes/assumptions/43.md). -/
def execXcallAccept (t : Nat) (gate : BitVec 8) (s : State) : Res :=
  let s := s.at t
  let g := gate.toNat
  let p := s.physical (gateServer g)
  let k := s.core p
  match k.gateReqs g with
  | [] => .next s
  | r :: rest =>
    if k.running = false ∨ k.serving.isSome ∨ k.ie = false ∨ k.inHandler ∨ r.deadline < t then .next s
    else
      let s := s.setCore p { k with gateQ := Tab.set k.gateQ g rest, serving := some (g, r) }
      match s.callOf r g with
      | none => .next s
      | some (pc, x) => .next (s.setCore pc { s.core pc with call := some { x with accepted := true } })

/-- The serving core enters the handler of the gate it has accepted (spec/02 R65, R70): the gate frame is written, in_gate set, and the
core enters with code 0x11 at the export's handler. -/
def execGateEntry (t : Nat) (c : Fin 6) (s : State) : Res :=
  let s := s.at t
  let k := s.core c
  match k.serving with
  | none => .next s
  | some (g, r) =>
    match k.exportOf g with
    | none => .next s
    | some e =>
      if k.running = false ∨ k.inGate ∨ k.ie = false ∨ k.inHandler then .next s
      else
        let s := (List.range 6).foldl (fun (s : State) i => s.storeBytes c (0x3FF00 + 8 * i) ((r.args.getD i 0).toNat) 8) s
        let s := s.storeBytes c 0x3FF30 r.caller 8
        let s := s.storeBytes c 0x3FF38 r.stamp 8
        let k := (s.core c).enter 0x11 g (BitVec.ofNat 64 r.caller) k.pc (alignPc e.handler)
        .next (s.setCore c (k.setCw0 2 1 1))

/-- The results a serving core returns at `t` reach the caller's call. They are discarded and counted where the caller has given up, and where
a non-effecting gate's come after the call's deadline, which then ends it with status 4 (spec/02 R71, R46, spec/03 R99). -/
def State.gateResult (s : State) (r : GateReq) (gate : Nat) (res : List Word) (t : Nat) : State :=
  let p := s.physical r.caller
  let k := s.core p
  let discarded : State := s.setCore p { k with rc := Tab.set k.rc 1 (min (Tab.get k.rc 1 0 + 1) (2 ^ 64 - 1)) }
  match s.callOf r gate with
  | some (_, x) => if x.effecting = false ∧ x.deadline < t then discarded else s.setCore p { k with call := some { x with result := some res } }
  | none => discarded

/-- XRET (spec/02 R70, R73): without in_gate, or naming another gate, crossing misuse; else the results of the gate frame are returned,
in_gate is cleared, and the core acts as RETI. -/
def execXret (t : Nat) (c : Fin 6) (gate : BitVec 8) (s : State) : Res :=
  let s := s.at t
  let g := gate.toNat
  .next (s.issueAlone c fun k =>
  let misuse : State := s.exc c 0x0C g (crossWord 5 0 0 0 g) k.pc t
  match k.serving with
  | none => misuse
  | some (g', r) =>
    if k.inGate = false ∨ g' ≠ g then misuse
    else
      let res := [0, 1, 2, 3].map fun i => BitVec.ofNat 64 (s.loadBytes c (0x3FF40 + 8 * i) 8)
      let s := s.gateResult r g res t
      let k := { ((s.core c).setCw0 2 1 0).leave with serving := none }
      s.retire c k k.pc)

/-- The deadline of a call passes (spec/02 R71, R72): before acceptance the request leaves the queue and status is 1; after acceptance a
non-effecting gate's call ends with 4 unless its result is already held; an effecting gate's call waits on. Settle time 40 ns
(spec/03 R101). -/
def execXcallDeadline (t : Nat) (c : Fin 6) (s : State) : Res :=
  let s := s.at t
  let k := s.core c
  match k.run, k.call with
  | .xcall, some x =>
    if t < x.deadline + 40 ∨ x.result.isSome ∨ (x.accepted && x.effecting) then .next s
    else
      let p := s.physical (gateServer x.gate)
      let s := if x.accepted then s else
        let kp := s.core p
        s.setCore p { kp with gateQ := Tab.set kp.gateQ x.gate ((kp.gateReqs x.gate).filter fun r => !(r.stamp == x.stamp && r.caller == s.logical c)) }
      let k := s.core c
      let k := { (k.setCw0 1 1 0).setReg x.rd (if x.accepted then 4 else 1) with run := .running, call := none }
      .next (s.retire c k (x.pc + 4))
  | _, _ => .next s

/-- The gate's results reach the caller (spec/02 R71, R72): g1–g4, then rd := 0. -/
def execXcallResult (t : Nat) (c : Fin 6) (s : State) : Res :=
  let s := s.at t
  let k := s.core c
  match k.run, k.call with
  | .xcall, some x =>
    match x.result with
    | none => .next s
    | some res =>
      let k := (((k.setReg 1 (res.getD 0 0)).setReg 2 (res.getD 1 0)).setReg 3 (res.getD 2 0)).setReg 4 (res.getD 3 0)
      let k := { (k.setCw0 1 1 0).setReg x.rd 0 with run := .running, call := none }
      .next (s.retire c k (x.pc + 4))
  | _, _ => .next s

/-! ### Wake events, waits and deadlines (spec/02 R60–R62) -/

/-- The armed deadline of a core, whether armed, whether expired, its priority (spec/02 Table 2-1 cw8, cw9). -/
def Core.deadline (k : Core) : Nat := (Tab.get k.cw 8 0).toNat
def Core.armed (k : Core) : Bool := (Tab.get k.cw 9 15).getLsbD 8
def Core.expired (k : Core) : Bool := (Tab.get k.cw 9 15).getLsbD 9
def Core.dpri (k : Core) : Nat := ((Tab.get k.cw 9 15).extractLsb' 0 4).toNat

/-- cw9.armed and cw9.expired written. -/
def Core.setDeadlineBits (k : Core) (armed expired : Bool) : Core :=
  let low := (Tab.get k.cw 9 15) &&& 0xF
  k.setCwd 9 (low ||| (if armed then 0x100 else 0) ||| (if expired then 0x200 else 0))

/-- The stamps of the interrupt sources pending or latched for a core, the deadline interrupt among them, of those sources that `p` names. -/
def State.sourceStamps (s : State) (c : Nat) (p : Nat → Bool) : List Nat :=
  let k := s.core c
  let own := if k.armed && k.expired then [k.deadline] else []
  own ++ (List.range 0xA0).filterMap fun src =>
    if (s.flag irqPending src || s.flag irqLatched src) && (s.get irqTargets src).testBit (s.logical c) && p src
    then some (s.get irqFirstStamp src) else none

/-- The pending interrupts that end a WAITD (spec/02 R60). One of priority 0, which is never delivered, is not taken for one: the spec does not
say (notes/assumptions/43.md). -/
def State.irqStamps (s : State) (c : Nat) : List Nat := s.sourceStamps c fun src => decide (s.get irqPri src ≠ 0)

/-- Those that end a HALT: any interrupt source of the core (spec/02 R62). -/
def State.haltStamps (s : State) (c : Nat) : List Nat := s.sourceStamps c fun _ => true

/-- The stamps of the messages waiting on the channels cw21 names. -/
def Core.chanStamps (k : Core) : List Nat :=
  (List.range 64).filterMap fun ch =>
    if (Tab.get k.cw 21 0).getLsbD ch then
      (match k.queue ch with | [] => none | m :: _ => some m.stamp)
    else none

/-- The least of a list. -/
def leastOf (l : List Nat) : Option Nat :=
  l.foldl (fun a x => match a with | none => some x | some y => some (min x y)) none

/-- How a WAITD with deadline `dl` ends at `t` (spec/02 R60, spec/03 R99, R101): reason and stamp, or none while it waits. An interrupt and
a message of one stamp are taken as the interrupt (notes/assumptions/14.md). -/
def State.waitEnd (s : State) (c dl t : Nat) : Option (Nat × Nat) :=
  let late := if dl + 40 ≤ t then some (0, dl) else none
  match leastOf ((s.irqStamps c).filter (· ≤ dl)), leastOf ((s.core c).chanStamps.filter (· ≤ dl)) with
  | none, none => late
  | some i, none => some (1, i)
  | none, some m => some (2, m)
  | some i, some m => if i ≤ m then some (1, i) else some (2, m)

/-- A wait that ends: reason, cw23, next instruction. -/
def State.endWait (s : State) (c rd : Nat) (e : Nat × Nat) : State :=
  let k := s.core c
  let k := { (k.setReg rd (BitVec.ofNat 64 e.1)).setCwd 23 (BitVec.ofNat 64 e.2) with run := .running }
  s.retire c k (k.pc + 4)

/-- WAITD (spec/02 R60): a deadline already passed ends it at once; else the core waits. -/
def execWaitd (t : Nat) (c : Fin 6) (rd ra : Fin 32) (s : State) : Res :=
  let s := s.at t
  .next (s.issueAlone c fun k =>
  let dl := (k.reg ra).toNat
  if dl < t then
    match s.waitEnd c dl (dl + 40) with
    | some e => s.endWait c rd e
    | none => s
  else s.setCore c { k with run := .waitd rd dl })

/-- A WAITD ends: the deadline, an interrupt or a channel message (spec/02 R60). -/
def execWaitdReturn (t : Nat) (c : Fin 6) (s : State) : Res :=
  let s := s.at t
  match (s.core c).run with
  | .waitd rd dl =>
    match s.waitEnd c dl t with
    | some e => .next (s.endWait c rd e)
    | none => .next s
  | _ => .next s

/-- DARM: cw8 := ra; arm the deadline (spec/02 R61). -/
def execDarm (t : Nat) (c : Fin 6) (ra : Fin 32) (s : State) : Res :=
  let s := s.at t
  .next (s.issueAlone c fun k => s.retire c ((k.setCwd 8 (k.reg ra)).setDeadlineBits true false) (k.pc + 4))

/-- DDIS: stamped at or before cw8 it returns 0; else 1 where the deadline had passed; it clears the deadline interrupt whether pending or
not (spec/02 R61, spec/03 R101). -/
def execDdis (t : Nat) (c : Fin 6) (rd : Fin 32) (s : State) : Res :=
  let s := s.at t
  .next (s.issueAlone c fun k =>
    let late := (k.armed && decide (k.deadline < t)) || k.expired
    s.retire c ((k.setReg rd (boolWord late)).setDeadlineBits false false) (k.pc + 4))

/-! ### Delivery (spec/03 R92–R97) -/

/-- Whether a core is eligible for a source of priority `pri` that targets it (spec/03 R92, spec/02 R73): executing, halted, or waiting in
WAITD or XCALL. -/
def Core.eligible (k : Core) (pri : Nat) : Bool :=
  (match k.run with
   | .running => true
   | .halted => true
   | .waitd _ _ => true
   | .xcall => true
   | _ => false) && k.ie && !k.inHandler && decide (k.runPri < pri)

/-- Whether source `src` is pending and may be taken by core `c` (spec/03 R92). -/
def State.eligibleFor (s : State) (src c : Nat) : Bool :=
  s.flag irqPending src && (s.get irqTargets src).testBit (s.logical c) && (s.core c).eligible (s.get irqPri src)

/-- Whether core `c` stands before core `d` for an offer: lower run_pri, then least recent interrupt (spec/03 R93); between cores equal in both
the lower index, which is the model's choice (notes/assumptions/43.md). -/
def State.before (s : State) (c d : Nat) : Bool :=
  let a := s.core c
  let b := s.core d
  decide (a.runPri < b.runPri ∨ (a.runPri = b.runPri ∧ (a.lastIrq < b.lastIrq ∨ (a.lastIrq = b.lastIrq ∧ c ≤ d))))

/-- The core a pending source is offered to (spec/03 R93). -/
def State.offer (s : State) (src : Nat) : Option Nat :=
  [0, 1, 2, 3, 4, 5].find? fun c =>
    s.eligibleFor src c && [0, 1, 2, 3, 4, 5].all fun d => !s.eligibleFor src d || s.before c d

/-- The source core `c` takes next: highest pri, then lowest number, among those offered to it (spec/03 R93). -/
def State.nextSource (s : State) (c : Nat) : Option Nat :=
  ((List.range 0xA0).filter fun src => s.flag irqPending src && decide (s.offer src = some c)).foldl
    (fun best src => match best with
      | none => some src
      | some b => if s.get irqPri b < s.get irqPri src then some src else some b) none

/-- The deadline interrupt may be taken: expired, delivery enabled, its priority above run_pri (spec/03 R97, spec/02 R66). -/
def Core.deadlineReady (k : Core) : Bool := k.armed && k.expired && k.eligible k.dpri

/-- An interrupt is taken by core `c` (spec/03 R91, R94, R86): pending clears unless the source is level, a counting source's count goes to
cw3, the core's recency moves, entry at cw4 + 0x100 with the first instruction not retired in cw2. -/
def State.takeIrq (s : State) (c src t : Nat) : State :=
  let count := if s.flag irqCountEn src then s.get irqCount src else 0
  let s := s.inc irqDelivered src 1
  let s := if s.flag irqLevel src then s else ((s.put irqPending src 0).put irqLatched src 0).put irqCount src 0
  let k := s.core c
  let k := k.enter 0x10 src (BitVec.ofNat 64 count) k.pc (k.vbase + 0x100)
  s.setCore c { k with lastIrq := t }

/-- The deadline interrupt taken by core `c` (spec/03 R97, spec/02 R65): code 0x0A at cw4, the core's recency moved as by any interrupt (R93).
Taking it disarms it (notes/assumptions/14.md). -/
def State.takeDeadline (s : State) (c t : Nat) : State :=
  let k := s.core c
  s.setCore c { (k.enter 0x0A 0 (BitVec.ofNat 64 k.deadline) k.pc k.vbase).setDeadlineBits false true with lastIrq := t }

/-- What core `c` takes now among the deadline interrupt and the sources offered to it, the deadline winning ties (spec/03 R93, R97); nothing
where neither may be taken. -/
def State.takeFirst (s : State) (c t : Nat) : State :=
  let k := s.core c
  match s.nextSource c with
  | some src => if k.deadlineReady && decide (s.get irqPri src ≤ k.dpri) then s.takeDeadline c t else s.takeIrq c src t
  | none => if k.deadlineReady then s.takeDeadline c t else s

/-- An eligible core takes the source offered to it (spec/03 R86, R92–R94). A WAITD or HALT has to end first (spec/02 R60, R62); a deadline
interrupt that competes wins ties (spec/03 R97). -/
def execInterruptEntry (t : Nat) (c : Fin 6) (s : State) : Res :=
  let s := s.at t
  let k := s.core c
  if k.running = false ∧ k.run ≠ .xcall then .next s
  else match s.nextSource c with
  | none => .next s
  | some src =>
    if k.deadlineReady && decide (s.get irqPri src ≤ k.dpri) then .next s
    else .next (s.takeIrq c src t)

/-- The armed deadline passes cw8 by the settle time (spec/02 R61, spec/03 R97, R101): expired, and taken with code 0x0A at cw4 where
delivery allows; else it stays pending (spec/02 R66). Taking it disarms it (notes/assumptions/14.md). -/
def execDeadlineInterrupt (t : Nat) (c : Fin 6) (s : State) : Res :=
  let s := s.at t
  let k := s.core c
  if k.armed = false ∨ t < k.deadline + 40 ∨ k.alive = false then .next s
  else
    let s := s.setCore c (k.setDeadlineBits true true)
    let k := s.core c
    let beaten := match s.nextSource c with | none => false | some src => decide (k.dpri < s.get irqPri src)
    if k.deadlineReady && (k.running || decide (k.run = .xcall)) && !beaten then
      .next (s.takeDeadline c t)
    else .next s

/-- GDIS: rd := cw0.ie; cw0.ie := 0 (spec/02 Table 2-11, spec/03 R95). -/
def execGdis (c : Fin 6) (rd : Fin 32) (s : State) : Res :=
  .next (s.alu c fun k => (k.setReg rd (boolWord k.ie)).setCw0 8 1 0)

/-- GEN: cw0.ie := 1 (spec/02 Table 2-11). -/
def execGen (c : Fin 6) (s : State) : Res := .next (s.alu c fun k => k.setCw0 8 1 1)

/-- RETI: pc := cw2; cw0[8:3] := cw5; a return to the XCALL that is out resumes waiting (spec/02 R73, Table 2-11). -/
def execReti (c : Fin 6) (s : State) : Res :=
  .next (s.issue c fun k =>
    let k := k.leave
    let s := s.retire c k k.pc
    match k.call with
    | some x => if x.pc = k.pc ∧ (s.core c).running ∧ (s.core c).pc = k.pc then s.setCore c { s.core c with run := .xcall } else s
    | none => s)

/-- SETPRI: cw0.run_pri := ra[3:0] (spec/02 Table 2-11). -/
def execSetpri (c : Fin 6) (ra : Fin 32) (s : State) : Res :=
  .next (s.alu c fun k => k.setCw0 4 4 ((k.reg ra).toNat % 16))

/-- HALT (spec/02 R62): stops the core clock until a wake event; one that is already there ends it at once. -/
def execHalt (t : Nat) (c : Fin 6) (s : State) : Res :=
  let s := s.at t
  .next (s.issueAlone c fun k => s.setCore c { k with run := .halted })

/-- Any interrupt source of the core or a channel of cw21 ends a HALT (spec/02 R62): execution continues after it, cw23 has the stamp, what the
latches held becomes pending (spec/03 R96), and where delivery is enabled the interrupt is taken before the next instruction. -/
def execHaltWake (t : Nat) (c : Fin 6) (s : State) : Res :=
  let s := s.at t
  let k := s.core c
  match k.run with
  | .halted =>
    let due := k.armed && decide (k.deadline + 40 ≤ t)
    let s := if due then s.setCore c (k.setDeadlineBits true true) else s
    match leastOf (s.haltStamps c ++ (s.core c).chanStamps) with
    | none => .next s
    | some st =>
      let k := s.core c
      let s := s.retire c { k.setCwd 23 (BitVec.ofNat 64 st) with run := .running } (k.pc + 4)
      .next (s.settleLatches.takeFirst c t)
  | _ => .next s

/-! ### Control words (spec/02 R41, Table 2-1) -/

/-- What CWR reads of a control word. cw15 is the count shown last raised by a free value, so it keeps counting (spec/03 R98); how far, and the
stall count of cw19, are the pipeline's (notes/assumptions/11.md). -/
def State.cwRead (s : State) (c n : Nat) : Word :=
  let k := s.core c
  if n = 10 then BitVec.ofNat 64 s.kerb.cur
  else if n = 11 then BitVec.ofNat 64 s.kerb.t0
  else if n = 12 then BitVec.ofNat 64 s.kerb.len
  else if n = 15 then BitVec.ofNat 64 (k.cycles + Config.freeValue s.free)
  else if n = 18 then BitVec.ofNat 64 (s.get thermStateSkipN 0 * 256 + s.get thermStateDiv 0)
  else if n = 19 then (k.cwd c 19 &&& 0xFFFFFFFF00000000#64) ||| BitVec.ofNat 64 k.eq.length
  else if n = 20 then
    BitVec.ofNat 64 ((List.range 64).foldl (fun a ch => if (k.queue ch).isEmpty then a else a + 2 ^ ch) 0)
  else k.cwd c n

/-- The RW bits of a control word (spec/02 Table 2-1). -/
def cwMask (n : Nat) : Word :=
  if n = 0 then 0x1F8
  else if n = 2 then 0xFFFFFFFC
  else if n = 4 then 0xFFFFFF00
  else if n = 5 then 0x3F
  else if n = 6 ∨ n = 7 ∨ n = 21 then BitVec.allOnes 64
  else if n = 9 then 0xF
  else if n = 17 then 0x1F
  else 0

/-- CWR: an index outside Table 2-1 raises illegal instruction (spec/02 R41). -/
def execCwr (c : Fin 6) (rd : Fin 32) (n : BitVec 8) (s : State) : Res :=
  let i := n.toNat
  .next (s.issue c fun k =>
  if 23 < i then s.exc c 0x01 0 (regWord 0x34 rd 0 0 (256 + i)) k.pc s.now
  else
    let v := s.cwRead c i
    let f := s.fresh
    let k1 := if i = 15 then { k with cycles := k.cycles + f.1 } else k
    (if i = 15 then f.2 else s).retire c (k1.setReg rd v) (k.pc + 4))

/-- CWW: old value in rd, RW fields changed; a word with none raises privileged (spec/02 R41). -/
def execCww (c : Fin 6) (rd ra : Fin 32) (n : BitVec 8) (s : State) : Res :=
  let i := n.toNat
  let w := regWord 0x34 rd ra 0 (512 + i)
  .next (s.issue c fun k =>
  if 23 < i then s.exc c 0x01 0 w k.pc s.now
  else if cwMask i = 0 then s.exc c 0x07 i w k.pc s.now
  else
    let old := s.cwRead c i
    let v := k.reg ra
    let k := (k.setReg rd old).setCwd i ((k.cwd c i &&& ~~~cwMask i) ||| (v &&& cwMask i))
    s.retire c k (k.pc + 4))

/-- RDST: rd := site time (spec/00 R2). -/
def execRdst (t : Nat) (c : Fin 6) (rd : Fin 32) (s : State) : Res :=
  let s := s.at t
  .next (s.alu c fun k => k.setReg rd (BitVec.ofNat 64 t))

/-- FENCE: orders loads and stores; each command here is already whole and in order (spec/02 Table 2-11). -/
def execFence (c : Fin 6) (s : State) : Res := .next (s.alu c id)

/-- FENCEE: waits until every effect-queue entry has left (spec/03 R83). -/
def execFencee (c : Fin 6) (s : State) : Res := .next (s.issueAlone c fun k => s.retire c k (k.pc + 4))

/-- An edge reaches an edge-type Roundabout source (spec/03 R90, R91, R96); a level source follows its input (LEVEL_SOURCE_CHANGE). -/
def execRoundaboutEdge (t : Nat) (src : BitVec 8) (s : State) : Res :=
  let s := s.at t
  .next (if s.flag irqLevel src.toNat then s else s.raise src.toNat t)

/-- A level source's input is asserted or released (spec/03 R90). -/
def execLevelSourceChange (t : Nat) (src : BitVec 8) (asserted : Bool) (s : State) : Res :=
  let s := s.at t
  let n := src.toNat
  if 0xA0 ≤ n ∨ s.flag irqLevel n = false then .next s
  else if asserted then
    (if s.flag irqPending n then .next s else .next ((s.put irqPending n 1).put irqFirstStamp n t))
  else .next (s.put irqPending n 0)

end Sys2Proof.Machine
end

