-- ==== Sys2Proof/Machine/KerbClamp.lean ====
section
/-! DEFINITION. The site balance and the clamp order of the Kerb (spec/04 R104–R106, R116–R118). Demand is rounded up, limits down. -/

namespace Sys2Proof.Machine

/-- Division rounded up. -/
def ceilDiv (a b : Int) : Int := -((-a) / b)

/-- A magnitude. -/
def mag (x : Int) : Int := if x < 0 then -x else x

/-- Outlet `o`'s command page. -/
def State.page (s : State) (o : Nat) : CmdPage := Tab.get s.pages o CmdPage.reset

/-- A field as an integer. -/
def State.num (s : State) (f : Fld) (i : Nat) : Int := (s.get f i : Int)

/-- The node entries in use, by the listed kind fields (spec/13 Table 13-13: kind 0 unused). -/
def State.nodeIds (s : State) : List Nat :=
  s.objs.filterMap fun e =>
    if e.1 = nodeEntryKind.key (e.1 / 4 / 65536 % 65536) ∧ e.2 ≠ 0 then some (e.1 / 4 / 65536 % 65536) else none

/-- The entry of a kind from `lo` to `hi` on a channel at an address (spec/13 Table 13-1). -/
def State.nodeAt (s : State) (lo hi chan addr : Nat) : Option Nat :=
  s.nodeIds.find? fun n => decide (lo ≤ s.get nodeEntryKind n) && decide (s.get nodeEntryKind n ≤ hi)
    && s.get nodeEntryChan n == chan && s.get nodeEntryAddr n == addr

/-- The entry of head `h`. -/
def State.headNode (s : State) (h : Nat) : Option Nat := s.nodeAt 1 4 (h / 8) (h % 8)

/-- Whether head `h` is ACTIVE in the node table (spec/13 R350). -/
def State.headActive (s : State) (h : Nat) : Bool := (s.headNode h).any fun n => s.get nodeEntryState n == 2

/-- Rectifier nodes ACTIVE on a CAN channel (spec/04 R104): kind 5, node state ACTIVE. -/
def State.rectOnline (s : State) (ch : Nat) : Nat :=
  (s.nodeIds.filter fun n => s.get nodeEntryKind n == 5 && s.get nodeEntryChan n == ch && s.get nodeEntryState n == 2).length

/-- A channel's term of C_rect (spec/04 R104): a rect_lim of 0 sets no limit. -/
def State.rectTerm (s : State) (lims : List Nat) (ch : Nat) : Int :=
  let full := (s.rectOnline ch : Int) * s.num allocConfigRectRating 0
  let lim := lims.getD ch 0
  if lim = 0 then full else min full (1000 * (lim : Int))

/-- C_rect (spec/04 R104). -/
def State.cRect (s : State) (lims : List Nat) : Int := ([0, 1, 2, 3].map (s.rectTerm lims)).foldl (· + ·) 0

/-- L: the effective availability (spec/04 R104). -/
def State.lEff (s : State) : Int :=
  if s.flag allocSiteFeederTripped 0 then 0 else min (s.num allocSiteImportLimit 0) (s.num allocSiteAvail 0)

/-- k_r in 1/10,000 (spec/04 R104). -/
def State.kr (s : State) : Int := 10000 + s.num allocConfigRectLoss 0

/-- k_c of an outlet in 1/10,000 (spec/04 R104). -/
def State.kc (s : State) (o : Nat) : Int := 10000 + s.num allocOutletConvLoss o

/-- B_max (spec/04 R104): every limit rounded down. -/
def State.bMax (s : State) (lims : List Nat) : Int :=
  max 0 (min (s.cRect lims) ((s.lEff - s.num allocSiteAuxBudget 0) * 10000 / s.kr))

/-- Import for a bus demand (spec/04 R104): rounded up. -/
def State.importOf (s : State) (b : Int) : Int := ceilDiv (s.kr * b) 10000 + s.num allocSiteAuxBudget 0

/-- The most the CABLECHECK or PRECHARGE step of an outlet draws, none outside those states (spec/04 R104; ctl.state codes 2 and 3). -/
def State.reserve (s : State) (o : Nat) : Option Int :=
  let st := s.get ctlStateState o
  if st = 2 then some (ceilDiv (s.kc o * s.num ctlOutletIFbMin o * s.num allocOutletVRated o) 10000000000)
  else if st = 3 then some (ceilDiv (s.kc o * s.num ctlOutletPcImax o * s.num allocOutletVRated o) 10000000000)
  else none

/-- P_c(o) of an entry (spec/04 R104): a return never lowers it (R106). -/
def State.pC (s : State) (o : Nat) (pMax : Int) : Int :=
  match s.reserve o with
  | some r => r
  | none => ceilDiv (s.kc o * max pMax 0) 10000

/-- The outlets' numbers. -/
def outlets : List Nat := [0, 1, 2, 3, 4, 5, 6, 7, 8, 9, 10, 11]

/-- An outlet's entry in a list of twelve. -/
def entryOf (l : List Entry) (o : Nat) : Entry := l.getD o Entry.zero

/-- B of entries and a battery power (spec/04 R104). -/
def State.busOf (s : State) (outs : List Entry) (pBat : Int) : Int :=
  (outlets.map fun o => s.pC o (entryOf outs o).pMax).foldl (· + ·) pBat

/-- An entry with a step noted in its clamps when the step changed it (spec/04 R116). -/
def Entry.noteStep (e e' : Entry) (n : Nat) : Entry :=
  if e' = e then e else { e' with clamps := e'.clamps ||| 2 ^ (n - 1) }

/-- Whether the session is in Transfer, by the command page (spec/09 Table 9-8), with no heartbeat lapse (spec/09 R254, status [15]) and
its outlet head ACTIVE (spec/13 Table 13-3). -/
def State.inTransfer (s : State) (o : Nat) : Bool :=
  decide ((s.page o).state = 6) && s.headActive (s.get safetyOutletOutletHead o) && !((Memory.get s.mem (0x40000000 + 0x10000 * o + 0x101)).getLsbD 7)

/-- C1 to C9 of one outlet (spec/04 Table 4-2), with the entry of the preceding epoch for the ramp of C8. -/
def State.clampOutlet (s : State) (o : Nat) (prev e : Entry) : Entry :=
  let page := s.page o
  let e1 := if s.bit safetyStatePermit 0 o then e else { e with iMax := 0, iMin := 0, pMax := 0, pMin := 0 }
  let e := e.noteStep e1 1
  let e2 := if s.inTransfer o = false then { e with iMax := 0, iMin := 0, pMax := 0, pMin := 0, vMax := 0 }
    else if s.flag allocOutletBpt o && page.bpt then e else { e with iMin := max e.iMin 0 }
  let e := e.noteStep e2 2
  let e3 := { e with iMax := min e.iMax (s.num allocOutletIRated o), iMin := max e.iMin (-(s.num allocOutletIRetRated o)),
                     vMax := min e.vMax (s.num allocOutletVRated o), pMax := min e.pMax (s.num allocOutletPRated o) }
  let e := e.noteStep e3 3
  let lim := s.num ctlStateNAvail o * s.num allocOutletIPhase o / 16
  let e4 := { e with iMax := min e.iMax lim, iMin := max e.iMin (-lim) }
  let e := e.noteStep e4 4
  let der := s.num coolStateIDer o
  let e5 := { e with iMax := min e.iMax der, iMin := max e.iMin (-der) }
  let e := e.noteStep e5 5
  let e6 := { e with iMax := min e.iMax page.iEvMax, vMax := min e.vMax page.vEvMax, pMax := min e.pMax page.pEvMax,
                     iMin := max e.iMin (-(page.iEvDis : Int)) }
  let e := e.noteStep e6 6
  let pc := s.num allocContractPCeil o
  let ic := s.num allocContractICeil o
  let e7a := if pc = 0 then e else { e with pMax := min e.pMax pc }
  let e7 := if ic = 0 then e7a else { e7a with iMax := min e7a.iMax ic, iMin := max e7a.iMin (-ic) }
  let e := e.noteStep e7 7
  let ramp := s.num allocOutletRamp o
  let e8 := { e with iMax := min e.iMax (prev.iMax + ramp), iMin := max e.iMin (prev.iMin - ramp) }
  let e := e.noteStep e8 8
  let e := { e with pMin := ceilDiv (e.iMin * e.vMax) 1000000 }
  let e9 := { e with pMax := min e.pMax (e.iMax * e.vMax / 1000000), pMin := max e.pMin (-(s.num allocOutletPRated o)) }
  e.noteStep e9 9

/-- Entries by rising outlet with one changed. -/
def setEntry (l : List Entry) (o : Nat) (e : Entry) : List Entry := outlets.map fun i => if i = o then e else entryOf l i

/-- One prio class's cut of `x` watts of bus power: each outlet in proportion to its P_c, never below 0 (spec/04 R117 stage 3). Reserves are
never shed (R480). -/
def State.cutClass (s : State) (prio step : Nat) (x : Int) (outs : List Entry) : List Entry × Int :=
  let live := outlets.filter fun o => (entryOf outs o).prio == prio && (s.reserve o).isNone && decide ((entryOf outs o).pMax > 0)
  let total := (live.map fun o => s.pC o (entryOf outs o).pMax).foldl (· + ·) 0
  if total = 0 ∨ x ≤ 0 then (outs, x)
  else
    let keep := max 0 (total - x)
    let outs' := live.foldl (fun (l : List Entry) o =>
      let e := entryOf outs o
      let allowed := s.pC o e.pMax * keep / total
      setEntry l o (e.noteStep { e with pMax := min e.pMax (allowed * 10000 / s.kc o) } step)) outs
    let after := (live.map fun o => s.pC o (entryOf outs' o).pMax).foldl (· + ·) 0
    (outs', x - (total - after))

/-- Shedding of an excess `x` (spec/04 R117): battery charging first, then battery discharge where assisted, then the outlets from the
lowest prio class up. -/
def State.shed (s : State) (step : Nat) (assist : Bool) (disLim : Int) (outs : List Entry) (pBat x : Int) : List Entry × Int × Int :=
  let d1 := min x (max pBat 0)
  let d1 := max d1 0
  let pBat := pBat - d1
  let x := x - d1
  let d2 := if assist ∧ x > 0 then max 0 (min x (pBat + disLim)) else 0
  let pBat := pBat - d2
  let x := x - d2
  let r := [0, 1, 2, 3, 4, 5, 6, 7].foldl (fun (a : List Entry × Int) p => s.cutClass p step a.2 a.1) (outs, x)
  (r.1, pBat, r.2)

/-- The returned power C11 counts, k_c applied (spec/04 Table 4-2). -/
def State.returned (s : State) (outs : List Entry) : Int :=
  (outlets.map fun o => ceilDiv (max (-(entryOf outs o).pMin) 0 * 10000) (s.kc o)).foldl (· + ·) 0

/-- C11: one class's return lowered toward 0 in proportion (spec/04 R117). -/
def State.cutReturn (s : State) (prio : Nat) (room : Int) (outs : List Entry) : List Entry :=
  let excess := s.returned outs - room
  let live := outlets.filter fun o => (entryOf outs o).prio == prio && decide ((entryOf outs o).pMin < 0)
  let total := (live.map fun o => -(entryOf outs o).pMin).foldl (· + ·) 0
  if excess ≤ 0 ∨ total = 0 then outs
  else
    let part (o : Nat) : Int := ceilDiv (max (-(entryOf outs o).pMin) 0 * 10000) (s.kc o)
    let sum := (live.map part).foldl (· + ·) 0
    let keep := max 0 (sum - excess)
    live.foldl (fun (l : List Entry) o =>
      let e := entryOf outs o
      let mag := (part o * keep / sum) * s.kc o / 10000
      setEntry l o (e.noteStep { e with pMin := -(min mag (-e.pMin)) } 11)) outs

/-- What a commit needs beyond the proposals: entries and battery power asked, rectifier fields, whether the battery may assist. -/
structure Asked where
  outs : List Entry
  pBat : Int
  vbus : Int
  rectLim : List Nat
  assist : Bool
  deriving DecidableEq, Repr

/-- The excess that only pre-transfer reserves make up after shedding, with the outlets whose steps end: highest number first
(spec/04 R480). -/
def State.endReserves (s : State) (x : Int) : List Nat :=
  (outlets.reverse.foldl (fun (a : List Nat × Int) o =>
    match s.reserve o with
    | none => a
    | some r => if a.2 ≤ 0 then a else (a.1 ++ [o], a.2 - r)) ([], x)).1

/-- The clamp order over an epoch (spec/04 R116, Table 4-2): from what is asked and the preceding epoch's committed values. `len` is the
epoch length in ns. The list names the outlets whose pre-transfer steps end (R480). -/
def State.clampEpoch (s : State) (prev : Epoch) (len : Nat) (a : Asked) (e : Epoch) : Epoch × List Nat :=
  let outs := outlets.map fun o => s.clampOutlet o (entryOf prev.outs o) (entryOf a.outs o)
  let dis := s.num battSummaryDisLim 0
  let chg := s.num battSummaryChgLim 0
  let demand := (outlets.map fun o => s.pC o (entryOf outs o).pMax).foldl (· + ·) 0
  let p10 := max (max (min a.pBat chg) (-dis)) (-demand)
  let clamps := if p10 = a.pBat then 0 else 2 ^ 10
  let out11 := [0, 1, 2, 3, 4, 5, 6, 7].foldl (fun l p => s.cutReturn p (max 0 (chg - p10)) l) outs
  let clamps := if out11 = outs then clamps else clamps ||| 2 ^ 11
  let bm := s.bMax a.rectLim
  let x12 := s.busOf out11 p10 - bm
  let r12 := if x12 > 0 then s.shed 12 a.assist dis out11 p10 x12 else (out11, p10, 0)
  let ended := s.endReserves r12.2.2
  let clamps := if x12 > 0 then clamps ||| 2 ^ 12 else clamps
  let endedW := (ended.map fun o => s.pC o 0).foldl (· + ·) 0
  let lim13 := s.kr * prev.bus + s.num allocConfigSiteRamp 0 * 1000 * 10000 * len / 1000000000
  let x13 := (s.busOf r12.1 r12.2.1 - endedW) - lim13 / s.kr
  let r13 := if x13 > 0 then s.shed 13 a.assist dis r12.1 r12.2.1 x13 else (r12.1, r12.2.1, 0)
  let clamps := if x13 > 0 then clamps ||| 2 ^ 13 else clamps
  let out14 := outlets.map fun o =>
    let e := entryOf r13.1 o
    let v := max (s.geti ctlStateVOut o) (s.num allocOutletVRated o / 10)
    if v ≤ 0 then e else e.noteStep { e with iMax := min e.iMax (e.pMax * 1000000 / v) } 14
  let v15 := min (max a.vbus (s.num allocConfigVbusMin 0)) (s.num allocConfigVbusMax 0)
  let clamps := if v15 = a.vbus then clamps else clamps ||| 2 ^ 15
  let bus := s.busOf out14 r13.2.1 - endedW
  ({ e with outs := out14, pBat := r13.2.1, vbus := v15, rectLim := a.rectLim, assist := a.assist, siteClamps := clamps,
            lEff := s.lEff, bMax := bm, importW := s.importOf bus, bus := bus, state := 1 }, ended)

end Sys2Proof.Machine
end

