-- ==== Sys2Proof/Machine/Calendar.lean ====
section
/-! DEFINITION. Local time, the tariff calendar and its boundaries (spec/08 R217–R222, R224). Local instants are seconds of local time as
integers. -/

namespace Sys2Proof.Machine

/-! ### Dates -/

/-- Year, month and day of a day number counted from 1970-01-01 (Gregorian calendar). -/
def civil (day : Int) : Int × Nat × Nat :=
  let z := day + 719468
  let era := z / 146097
  let doe := z - era * 146097
  let yoe := (doe - doe / 1460 + doe / 36524 - doe / 146096) / 365
  let doy := doe - (365 * yoe + yoe / 4 - yoe / 100)
  let mp := (5 * doy + 2) / 153
  let d := (doy - (153 * mp + 2) / 5 + 1).toNat
  let m := if mp < 10 then (mp + 3).toNat else (mp - 9).toNat
  (yoe + era * 400 + (if m ≤ 2 then 1 else 0), m, d)

/-- Day of the week of a day number, Monday = 0. -/
def weekday (day : Int) : Nat := ((day + 3) % 7).toNat

/-! ### Local time (spec/08 R217) -/

/-- The offsets by their first UTC second, in rising order; before the first, no offset. -/
def State.segments (s : State) : List (Nat × Int) :=
  let rest := ((List.range 32).drop 1).filterMap fun i =>
    if s.get timeOffsetUtcFrom i = 0 then none else some (s.get timeOffsetUtcFrom i, s.geti timeOffsetOffset i)
  let u0 := s.get timeOffsetUtcFrom 0
  let o0 := s.geti timeOffsetOffset 0
  if u0 = 0 then (0, o0) :: rest else (0, 0) :: (u0, o0) :: rest

/-- The offset in force at a UTC second. -/
def State.offsetAt (s : State) (u : Nat) : Int := ((s.segments.filter fun p => decide (p.1 ≤ u)).getLast?).elim 0 fun p => p.2

/-- The furthest local instant reached up to a UTC second: a local time that occurs twice counts at its first occurrence (spec/08 R221). -/
def State.localReached (s : State) (u : Nat) : Int :=
  let segs := s.segments
  ((segs.zip ((segs.drop 1).map (fun p => some p.1) ++ [none])).filter fun p => decide (p.1.1 ≤ u)).foldl
    (fun (m : Int) p => max m (((p.2.elim u fun n => min u (n - 1) : Nat) : Int) + p.1.2)) (-(2 ^ 40))

/-- The first UTC second whose local instant is at or after `l` (spec/08 R221). -/
def State.firstReach (s : State) (l : Int) : Nat :=
  let segs := s.segments
  (((segs.zip ((segs.drop 1).map (fun p => some p.1) ++ [none])).filterMap fun p =>
    let u := max p.1.1 (l - p.1.2).toNat
    if p.2.all fun n => decide (u < n) then some u else none).head?).getD 0

/-! ### The rate in force (spec/08 R220) -/

/-- The season in force on a month and day in a copy of the calendar (base 0 passive, 16 active): latest start at or before, else the latest
of the year. -/
def State.seasonAt (s : State) (base m d : Nat) : Option Nat :=
  let start (i : Nat) : Nat := s.get calSeasonMonth i * 32 + s.get calSeasonDay i
  let all := ((List.range 16).map (· + base)).filter fun i => s.get calSeasonMonth i != 0
  let pick (l : List Nat) : Option Nat := l.foldl (fun (b : Option Nat) i => if b.all (fun j => decide (start j < start i)) then some i else b) none
  match pick (all.filter fun i => decide (start i ≤ m * 32 + d)) with
  | some i => some i
  | none => pick all

/-- The special day matching a date: with its year, else with year 0 (spec/08 R220). -/
def State.specialAt (s : State) (active : Bool) (y : Int) (m d : Nat) : Option Nat :=
  let all := ((List.range 64).map (· + (if active then 64 else 0))).filter fun i =>
    s.get calSpecialMonth i == m && s.get calSpecialDay i == d && s.get calSpecialMonth i != 0
  match all.find? fun i => decide ((s.get calSpecialYear i : Int) = y) with
  | some i => some i
  | none => all.find? fun i => s.get calSpecialYear i == 0

/-- Season, week and day profile of a local day. -/
def State.dayOf (s : State) (active : Bool) (day : Int) : Option (Nat × Nat × Nat) :=
  let c := civil day
  let sp := s.specialAt active c.1 c.2.1 c.2.2
  match s.seasonAt (if active then 16 else 0) c.2.1 c.2.2 with
  | none => sp.map fun i => (0, 0, s.get calSpecialDayProfile i)
  | some i =>
    let w := s.get calSeasonWeek i
    some (i % 16, w, match sp with
      | some j => s.get calSpecialDayProfile j
      | none => s.get (calWeekDayProfile (weekday day)) (w + (if active then 8 else 0)))

/-- The switch points used of a day profile: minute and rate. -/
def State.points (s : State) (active : Bool) (dp : Nat) : List (Nat × Nat) :=
  let i := dp + (if active then 32 else 0)
  ((List.range 16).map fun k => (s.get (calDayMinute k) i, s.get (calDayRate k) i)).takeWhile fun p => decide (p.1 < 1440)

/-- Season, week, day profile and rate at a local instant; none where the calendar does not say. -/
def State.rateAt (s : State) (active : Bool) (l : Int) : Option (Nat × Nat × Nat × Nat) :=
  match s.dayOf active (l / 86400) with
  | none => none
  | some (se, w, dp) =>
    (((s.points active dp).filter fun p => decide ((p.1 : Int) ≤ l % 86400 / 60)).getLast?).map fun p => (se, w, dp, p.2)

/-- The switch points of a local day of the active copy as instants; local midnight is always one (spec/08 R221). -/
def State.switches (s : State) (day : Int) : List Int :=
  let pts := (s.dayOf true day).elim [] fun x => s.points true x.2.2
  day * 86400 :: (pts.map fun p => day * 86400 + 60 * p.1)

/-- The next switch point after a local instant. -/
def State.nextSwitch (s : State) (l : Int) : Int :=
  ((s.switches (l / 86400)).filter fun x => decide (l < x)).foldl min ((l / 86400 + 1) * 86400)

/-- The last switch point at or before a local instant. -/
def State.lastSwitch (s : State) (l : Int) : Int :=
  ((s.switches (l / 86400)).filter fun x => decide (x ≤ l)).foldl max (l / 86400 * 86400)

/-! ### Boundaries (spec/08 R218, R221, R224) -/

/-- The sub-interval τ in s (spec/08 R224). -/
def State.tau (s : State) : Nat := max 1 (s.get billConfigLength 0 * 60 / max 1 (s.get billConfigSubint 0))

/-- Whether a UTC second is a sub-interval end. -/
def State.onGrid (s : State) (u : Nat) : Bool := ((u : Int) - s.num billConfigGridShift 0) % s.tau == 0

/-- The first sub-interval end after a UTC second. -/
def State.gridNext (s : State) (u : Nat) : Nat :=
  let g := s.num billConfigGridShift 0
  ((((u : Int) - g) / s.tau + 1) * s.tau + g).toNat

/-- The last sub-interval end at or before a UTC second. -/
def State.gridLast (s : State) (u : Nat) : Nat :=
  let g := s.num billConfigGridShift 0
  (((u : Int) - g) / s.tau * s.tau + g).toNat

/-- The first tariff boundary after a UTC second. -/
def State.tariffNext (s : State) (u : Nat) : Nat := max (u + 1) (s.firstReach (s.nextSwitch (s.localReached u)))

/-- The last tariff boundary at or before a UTC second. -/
def State.tariffLast (s : State) (u : Nat) : Nat := min u (s.firstReach (s.lastSwitch (s.localReached u)))

/-- The pending activation, if one is pending and later than a UTC second. -/
def State.activationAfter (s : State) (u : Nat) : Option Nat :=
  if s.bit billStateFlags 0 1 && decide (u < s.get billStateActivationUtc 0) then some (s.get billStateActivationUtc 0) else none

/-- The next boundary of any kind after a UTC second (spec/08 R218). -/
def State.nextBoundary (s : State) (u : Nat) : Nat :=
  let b := min (s.gridNext u) (s.tariffNext u)
  (s.activationAfter u).elim b (min b)

/-- The last boundary at or before a UTC second and later than another. -/
def State.lastBoundary (s : State) (after u : Nat) : Nat :=
  let b := max (s.gridLast u) (s.tariffLast u)
  let b := (s.activationAfter after).elim b fun a => if a ≤ u then max b a else b
  max after b

end Sys2Proof.Machine
end

