-- ==== Sys2Proof/Machine/BillStep.lean ====
section
/-! DEFINITION. What the metrology engine and others post to billing: register steps, event records, time log (spec/08 R216, R223,
R233). -/

namespace Sys2Proof.Machine

/-! ### LEGAL records. Type codes and payloads are the model's (notes/assumptions/9.md). -/

/-- Record types of the LEGAL area: receipt, bundle, deep checkpoint, event, gap, time log, activation, deep restore. -/
def recReceipt : Nat := 1
def recBundle : Nat := 2
def recDeep : Nat := 3
def recTamper : Nat := 4
def recGap : Nat := 5
def recTimeLog : Nat := 6
def recActivation : Nat := 7
def recDeepRestore : Nat := 8
def recPeriod : Nat := 9

/-- A LEGAL record appended. -/
def State.legalRecord (s : State) (typ len data t : Nat) : State := s.append 0 typ 0 len data t

/-- A value saturating at 2^64 − 1 (spec/08 R223). -/
def sat64 (x : Nat) : Nat := min x (2 ^ 64 - 1)

/-- A step of `c` µWh of a quantity's native register posted to the billing register of the rate in force, the interval and the open session
(spec/08 R223, R225, R230). -/
def State.billStep (s : State) (q : Nat) (deliv : Bool) (c : Nat) : State :=
  if c = 0 then s
  else
    let r := s.get billStateRate 0 % 16
    let s := if deliv then
        let s := s.put (billEnergyDeliv r) q (sat64 (s.get (billEnergyDeliv r) q + c))
        let s := s.put billSummaryDeliv q (sat64 (s.get billSummaryDeliv q + c))
        s.put billNowEInt q (sat64 (s.get billNowEInt q + c))
      else
        let s := s.put (billEnergyRet r) q (sat64 (s.get (billEnergyRet r) q + c))
        s.put billSummaryRet q (sat64 (s.get billSummaryRet q + c))
    match Tab.find s.bill.sessions q with
    | none => s
    | some b =>
      let b := if deliv then { b with deliv := Tab.set b.deliv r (Tab.get b.deliv r 0 + c) }
        else { b with ret := Tab.set b.ret r (Tab.get b.ret r 0 + c) }
      if q < 12 then { s with bill := { s.bill with sessions := Tab.set s.bill.sessions q b } } else s

/-- An event of Table 8-5 (spec/08 R233): count, times, detail, source 0x43, LEGAL record. The consequence of an injection in a slot is
recorded with header flag [0] and counted in diag.inj_stats, never in bill.tamper (spec/18 R478). -/
def State.tamperOf (s : State) (slot : Option Nat) (typ detail t : Nat) : State :=
  let data := typ + detail % 2 ^ 32 * 2 ^ 32
  match slot with
  | some j => ((s.append 0 recTamper 1 8 data t).inc injStatsTamper 0 1).raise 0x43 t |>.inc injectConsequences j 1
  | none =>
    let l := s.legal t
    let s := if s.get billTamperCount typ = 0 then s.put billTamperFirstUtc typ l else s
    let s := (s.inc billTamperCount typ 1).put billTamperDetail typ detail
    let s := s.put billTamperLastUtc typ l
    (s.legalRecord recTamper 8 data t).raise 0x43 t

/-- An event of Table 8-5 that no injection reaches. -/
def State.tamper (s : State) (typ detail t : Nat) : State := s.tamperOf none typ detail t

/-- An entry of time.log (spec/08 Table 8-10): kind, requester, UTC before and after, stamp of the mark. -/
def State.timeLog (s : State) (kind port role before after stamp t : Nat) : State :=
  let j := s.bill.logNo % 64
  let s := (s.put timeLogKind j kind).put timeLogPort j port
  let s := (s.put timeLogRole j role).put timeLogBefore j before
  let s := (s.put timeLogAfter j after).put timeLogSiteTime j stamp
  let s := { s with bill := { s.bill with logNo := s.bill.logNo + 1 } }
  s.legalRecord recTimeLog 32 (kind + port * 2 ^ 40 + role * 2 ^ 32 + before % 2 ^ 64 * 2 ^ 64 + after % 2 ^ 64 * 2 ^ 128 + stamp % 2 ^ 64 * 2 ^ 192) t

/-- A session of outlet `o` entered Transfer at a stamp (spec/08 R230). -/
def State.noteTransfer (s : State) (o t : Nat) : State := { s with bill := { s.bill with enterAt := Tab.set s.bill.enterAt o t } }

/-- A session of outlet `o` left Stopping at a stamp. -/
def State.noteStopped (s : State) (o t : Nat) : State := { s with bill := { s.bill with leaveAt := Tab.set s.bill.leaveAt o t } }

/-- A flag of the interval in progress of every quantity (spec/08 R227). -/
def State.intervalFlag (s : State) (n : Nat) (b : Bool) : State := (List.range 16).foldl (fun s q => s.putBit billNowFlags q n b) s

end Sys2Proof.Machine
end

