-- ==== Sys2Proof/Machine/Link.lean ====
section
/-! DEFINITION. Charging sessions as the link partition keeps them: states, timers, stops, the exchange region, and how a converter's status
moves a session (spec/09 R239–R259). -/

namespace Sys2Proof.Machine

/-! ### Access -/

/-- Outlet `o`'s session. -/
def State.sess (s : State) (o : Nat) : Sess := Tab.get s.link o Sess.reset
/-- Outlet `o`'s session replaced. -/
def State.setSess (s : State) (o : Nat) (k : Sess) : State := { s with link := Tab.set s.link o k }

/-- Bytes of memory written. -/
def State.poke (s : State) (a n v : Nat) : State := { s with mem := Memory.write s.mem a v n }

/-- A sequence word raised around a rewrite (spec/02 R47): even when at rest. -/
def State.bumpSeq (s : State) (a : Nat) : State := s.poke a 8 (Memory.read s.mem a 8 + 2)

/-- The mode permits energising (spec/16 R426). -/
def State.modeEnergises (s : State) : Bool := s.get modeStateMode 0 == 2 || s.get modeStateMode 0 == 3

/-! ### What is shown (spec/09 R259, Tables 9-11, 9-14) -/

/-- The first word of the exchange entry. -/
def State.linkSummary (s : State) (o : Nat) : Nat :=
  let k := s.sess o
  let fl := (if k.pnc then 1 else 0) + (if k.auth = 3 then 2 else 0) + (if k.scheduled then 4 else 0) + (if k.tls then 8 else 0)
    + (if k.welded then 16 else 0) + (if k.st = 3 ∧ (k.auth = 1 ∨ k.auth = 2) then 32 else 0)
  k.st + k.proto * 2 ^ 8 + k.service * 2 ^ 16 + fl * 2 ^ 24

/-- The session object and the exchange entry of outlet `o` rewritten (spec/09 R259). -/
def State.publishLink (s : State) (o : Nat) : State :=
  let k := s.sess o
  let s := ((s.put vlSessionSummary o (s.linkSummary o)).put vlSessionRetries o (min k.retries 255)).put vlSessionPilot o (min k.pilot 3)
  let a := 0x20700040 + 0x40 * o
  let s := s.bumpSeq 0x20700000
  let s := (s.poke a 4 (s.linkSummary o)).poke (a + 4) 2 (k.soc % 256 + s.get vlSessionReason o * 256)
  let s := ((s.poke (a + 8) 8 (s.get vlSessionSessionId o)).poke (a + 0x10) 4 k.iMax).poke (a + 0x14) 4 k.vMax
  let s := ((s.poke (a + 0x18) 4 k.pMax).poke (a + 0x1C) 4 k.iDis).poke (a + 0x20) 4 k.vTarget
  let i : Int := (k.iTarget : Int) - k.iDisTarget
  let s := (s.poke (a + 0x24) 4 (ofSigned 32 i)).poke (a + 0x28) 8 k.departure
  (s.poke (a + 0x30) 8 (s.get vlSessionEvccid o)).poke (a + 0x38) 4 k.energy

/-- The pilot oscillator's duty as FC holds it, 0.1 % (spec/09 R240; notes/assumptions/21.md). -/
def State.setDuty (s : State) (o d : Nat) : State := { s with pages := Tab.set s.pages o { s.page o with pilotDuty := d } }

/-! ### Timers (spec/09 R251, Table 9-6) -/

/-- Deadlines that do not belong to a state are dropped. -/
def Sess.dropTimers (k : Sess) (st : Nat) : Sess :=
  { k with tSlac := if st = 1 then k.tSlac else none, tRetry := if st = 1 then k.tRetry else none,
           tSetup := if st = 2 then k.tSetup else none, tSeq := if 3 ≤ st ∧ st ≤ 6 then k.tSeq else none,
           tAuth := if st = 3 then k.tAuth else none, tCc := if st = 4 then k.tCc else none, tWeld := if st = 8 then k.tWeld else none }

/-- A timer's length in ns. -/
def State.linkTimer (s : State) (f : Fld) (o unit : Nat) : Nat := s.get f o * unit

/-! ### Transitions (spec/09 R250, Table 9-5) -/

/-- A session enters a state at a stamp: its timers, what it clears, what billing and the exchange see, source 0x10 + o. -/
def State.goSess (s : State) (o st t : Nat) : State :=
  let k := s.sess o
  let old := k.st
  let k := { k.dropTimers st with st := st }
  let s := if old = 7 then s.noteStopped o t else s
  let s := match st with
    | 0 =>
      let s := s.setSess o { Sess.reset with raw := k.raw, rawAt := k.rawAt, pilot := k.pilot }
      let s := ((s.put vlSessionEvccid o 0).put vlSessionContractId o 0).put vlSessionSessionId o 0
      s.setDuty o 1000
    | 1 =>
      let limit := t + s.linkTimer vlOutletTSlac o 1000000000
      let s := s.setSess o { k with tSlac := if k.retries < 3 then some limit else none, slac := Slac.reset, tcp := false, tls := false,
                                    auth := 0, pnc := false, pncOk := false, eim := false, params := false, proto := 0, service := 0 }
      s.setDuty o 50
    | 2 => s.setSess o { k with tSetup := some (t + s.linkTimer vlOutletTSetup o 1000000000) }
    | 3 =>
      let f := s.fresh
      (f.2.setSess o k).put vlSessionSessionId o f.1
    | 4 => s.setSess o { k with tCc := some (t + s.linkTimer vlOutletTCc o 1000000000) }
    | 6 => ((s.setSess o k).put vlSessionTransferStamp o t).noteTransfer o t
    | 8 => s.setSess o { k with tWeld := some (t + s.linkTimer vlOutletTWeld o 1000000) }
    | _ => s.setSess o k
  ((s.put vlSessionStateStamp o t).publishLink o).raise (0x10 + o) t

/-- Back to Plugged, counted (spec/09 R250). -/
def State.backToPlugged (s : State) (o t : Nat) : State :=
  let k := s.sess o
  (s.setSess o { k with retries := k.retries + 1 }).goSess o 1 t

/-! ### What a converter's status does to a session (spec/09 R250, R252) -/

/-- Whether outlet `o`'s contactors are commanded open: closing not granted (spec/10 R279). -/
def State.commandedOpen (s : State) (o : Nat) : Bool := (Tab.get s.safe.outs o OutSafe.reset).closing == false

/-- Whether a converter's gates are off: OFF, DISCHARGE or HELD. -/
def State.gatesRest (s : State) (o : Nat) : Bool := let c := s.get ctlStateState o; c == 0 || c == 6 || c == 8

/-- The status bits of the page: [10] ends t_cc and leads to Precharge, [14] with [8] to Transfer, [11] is a weld, [12] with [13]
unlocks. -/
def State.statusMoves (s : State) (o t : Nat) : State :=
  let b := Memory.get s.mem (0x40000000 + 0x10000 * o + 0x101)
  let k := s.sess o
  let k := if b.getLsbD 2 then { k with tCc := none } else k
  let s := s.setSess o k
  if k.st = 4 ∧ b.getLsbD 2 ∧ k.pcReq then s.goSess o 5 t
  else if k.st = 5 ∧ k.pd ∧ b.getLsbD 6 ∧ b.getLsbD 0 then s.goSess o 6 t
  else if k.st = 8 ∧ k.welded = false ∧ b.getLsbD 3 then (s.setSess o { k with welded := true, tWeld := none }).publishLink o |>.raise (0x10 + o) t
  else if k.st = 8 ∧ k.welded = false ∧ b.getLsbD 4 ∧ b.getLsbD 3 = false then
    let s := s.setSess o { k with tWeld := none }
    if b.getLsbD 5 then
      let s := s.goSess o 9 t
      if k.pilot = 0 then s.goSess o 0 t else s
    else s
  else s

/-- Entry into WeldCheck: a verdict and an unlock that stand already count (spec/09 Table 9-5). -/
def State.enterWeldCheck (s : State) (o t : Nat) : State := (s.goSess o 8 t).statusMoves o t

/-- Stopping leads to WeldCheck once the converter's gates are off and the contactors are commanded open (spec/09 Table 9-5). -/
def State.stoppedRest (s : State) (o t : Nat) : State :=
  if (s.sess o).st = 7 ∧ s.gatesRest o = true ∧ s.commandedOpen o = true then s.enterWeldCheck o t else s

/-! ### Stops (spec/09 R252) -/

/-- Immediate stops of Table 9-7. -/
def stopIsImmediate (reason : Nat) : Bool := reason == 3 || reason == 4 || reason == 8

/-- A stop of a session with a reason of Table 9-7 (spec/09 R252): begun from Negotiating to Transfer; in Stopping the first stamped reason
stays, safety winning at equal stamps. With the converter at rest and the contactors commanded open already, the weld check follows. -/
def State.beginStop (s : State) (o reason detail t : Nat) : State :=
  let k := s.sess o
  if k.st = 7 then
    let first := k.stopAt.all fun a => decide (t < a) || (decide (t = a) && reason == 8)
    let s := if first then (s.put vlSessionReason o reason).put vlSessionDetail o detail else s
    (s.setSess o { k with stopAt := if first then some t else k.stopAt, stopImm := k.stopImm || stopIsImmediate reason }).publishLink o
  else if 3 ≤ k.st ∧ k.st ≤ 6 then
    let s := (s.put vlSessionReason o reason).put vlSessionDetail o detail
    let s := if reason = 7 ∨ reason = 10 then s.raise 0x1D t else s
    let s := s.setSess o { k with stopAt := some t, stopImm := stopIsImmediate reason }
    (s.goSess o 7 t).stoppedRest o t
  else s

/-! ### Deadlines (spec/09 R251, spec/03 R99) -/

/-- The deadlines of Table 9-6 that run, each with its number: t_slac, the end of the 4 s at 100 %, t_setup, t_seq, t_auth, t_cc, t_weld. -/
def Sess.timers (k : Sess) : List (Nat × Nat) :=
  [(k.tSlac, 0), (k.tRetry, 1), (k.tSetup, 2), (k.tSeq, 3), (k.tAuth, 4), (k.tCc, 5), (k.tWeld, 6)].filterMap fun p => p.1.map fun d => (d, p.2)

/-- The earliest deadline before `t`. -/
def Sess.firstDue (k : Sess) (t : Nat) : Option (Nat × Nat) :=
  (k.timers.filter fun p => decide (p.1 < t)).foldl (fun a p => match a with
    | none => some p
    | some q => if p.1 < q.1 then some p else a) none

/-- What the expiry of a deadline `d` brings (spec/09 Table 9-6), stamped with the deadline. -/
def State.expire (s : State) (o d : Nat) : Nat → State
  | 0 => (s.setSess o { s.sess o with tSlac := none, tRetry := some (d + 4000000000), slac := Slac.reset }).setDuty o 1000
  | 1 => s.backToPlugged o d
  | 2 => s.backToPlugged o d
  | 3 => (s.setSess o { s.sess o with tSeq := none }).beginStop o 5 3 d
  | 4 => (s.setSess o { s.sess o with tAuth := none }).beginStop o 6 4 d
  | 5 => (s.setSess o { s.sess o with tCc := none }).beginStop o 5 5 d
  | _ => ((s.setSess o { s.sess o with welded := true, tWeld := none }).publishLink o).raise (0x10 + o) d

/-- The earliest deadline before `t`, if any, takes effect. -/
def State.expireFirst (s : State) (o t : Nat) : State :=
  match (s.sess o).firstDue t with
  | none => s
  | some (d, n) => s.expire o d n

/-- A session's deadlines that lie before `t` take effect, earliest first, before what is stamped `t` is taken: an arrival at a deadline is in
time, one after it is late even where it is processed before the timer (spec/03 R99, R102, spec/09 R251). -/
def State.linkUpTo (s : State) (o t : Nat) : State := (List.range 16).foldl (fun s _ => s.expireFirst o t) s

/-- A stop whose cause is stamped `t`. -/
def State.stopSess (s : State) (o reason detail t : Nat) : State := (s.linkUpTo o t).beginStop o reason detail t

/-- The page's status as the session takes it at `t`. -/
def State.linkStatus (s : State) (o t : Nat) : State := (s.linkUpTo o t).statusMoves o t

/-! ### Authorisation (spec/09 R248, spec/16 R426) -/

/-- A pending authorisation decided where EIM and PnC have accepted as vlink.outlet asks and the mode permits energising. -/
def State.settleAuth (s : State) (o : Nat) : State :=
  let k := s.sess o
  let fl := s.get vlOutletFlags o
  let ok := if k.pnc && k.pncOk then !(fl.testBit 2) || k.eim else k.eim
  if k.st = 3 ∧ (k.auth = 1 ∨ k.auth = 2) ∧ ok then
    if s.modeEnergises then (s.setSess o { k with auth := 3, tAuth := none }).publishLink o
    else (s.setSess o { k with auth := 2 }).publishLink o
  else s

/-- The same at `t`. -/
def State.decideAuth (s : State) (o t : Nat) : State := (s.linkUpTo o t).settleAuth o

/-- An EIM decision (spec/09 R248): accept or deny; `none` where no authorisation is pending. Source 0x1C. -/
def State.authorizeSess (s : State) (o : Nat) (accept : Bool) (t : Nat) : Option State :=
  let s := s.linkUpTo o t
  let k := s.sess o
  if k.st ≠ 3 ∨ k.auth = 3 ∨ k.auth = 0 then none
  else
    let s := s.raise 0x1C t
    some (if accept then (s.setSess o { k with eim := true, auth := 2 }).settleAuth o else s.beginStop o 6 0 t)

/-- The converter's state changed from `old` to `new`, with the fault cause in force (spec/09 Table 9-7: 0x09, 0x0D, 0x08, 0x0B; Table 9-5:
Stopping to WeldCheck). -/
def State.linkConverter (s : State) (o old new cause t : Nat) : State :=
  let s := s.linkUpTo o t
  let k := s.sess o
  let lapse := (Memory.get s.mem (0x40000000 + 0x10000 * o + 0x101)).getLsbD 7
  if 4 ≤ k.st ∧ k.st ≤ 6 then
    if new = 5 then s.beginStop o (if lapse then 11 else 13) 0 t
    else if old ≠ new ∧ (new = 0 ∨ new = 6 ∨ new = 8) then
      if lapse then s.beginStop o 11 0 t
      else if cause = 13 then s.beginStop o 8 0 t
      else s.beginStop o 9 cause t
    else s
  else if new = 0 ∨ new = 6 ∨ new = 8 then s.stoppedRest o t
  else s

end Sys2Proof.Machine
end

