-- ==== Sys2Proof/Machine/Wire.lean ====
section
/-! DEFINITION. Handing frames to the CAN channels and service content to the avenues (spec/12 R327, spec/13 R361). -/

namespace Sys2Proof.Machine

/-! ### CAN (spec/13 R361, R362) -/

/-- A CAN channel. -/
def State.canChan (s : State) (ch : Nat) : CanChan := Tab.get s.net.chans ch CanChan.reset
/-- A CAN channel replaced. -/
def State.setCan (s : State) (ch : Nat) (k : CanChan) : State := { s with net := { s.net with chans := Tab.set s.net.chans ch k } }
/-- Whether a channel takes part in bus traffic: error-active or error-passive. -/
def State.canLive (s : State) (ch : Nat) : Bool := s.get canStateState ch == 1 || s.get canStateState ch == 2

/-- A frame put into the queue behind those of its group and identifier or before (spec/13 R361). -/
def canInsert (r : CanReq) : List CanReq → List CanReq
  | [] => [r]
  | x :: l => if r.cls < x.cls ∨ (r.cls = x.cls ∧ r.id < x.id) then r :: x :: l else x :: canInsert r l

/-- The first frame of the queue goes on the bus where none is on it. -/
def State.canNext (s : State) (ch : Nat) : State :=
  let k := s.canChan ch
  match k.cur, k.queue with
  | none, r :: rest => if s.canLive ch then s.setCan ch { k with cur := some r, queue := rest } else s
  | _, _ => s

/-- A channel joins the bus. -/
def State.canJoin (s : State) (ch : Nat) : State :=
  let s := ((s.put canStateState ch 1).put canStateTec ch 0).put canStateRec ch 0
  (s.setCan ch { s.canChan ch with injHeld := false }).canNext ch

/-- A frame queued. -/
def State.queueCan (s : State) (ch : Nat) (r : CanReq) : State :=
  let k := s.canChan ch
  (s.setCan ch { k with queue := canInsert r k.queue }).canNext ch

/-- A device frame: group, classical with an 11-bit identifier unless `ide`, retries of its group, deadline (0 none). -/
def State.sendCan (s : State) (ch cls : Nat) (ide : Bool) (id len data deadline : Nat) : State :=
  let retries := if cls = 0 ∨ cls = 1 ∨ id = 0x100 then 31 else s.get canConfigRetries ch
  s.queueCan ch { cls := cls, slot := none, ide := ide, fdf := false, brs := false, id := id, dlc := len, data := data, retries := retries,
                  attempts := 0, deadline := deadline, node := 1024 }

/-! ### Avenues (spec/12 R327) -/

/-- An avenue. -/
def State.avn (s : State) (a : Nat) : Avn := Tab.get s.lanes.avns a Avn.reset
/-- An avenue replaced. -/
def State.setAvn (s : State) (a : Nat) (k : Avn) : State := { s with lanes := { s.lanes with avns := Tab.set s.lanes.avns a k } }

/-- Whether head `p` of `n` takes commands on FL2a in RING (mode 0) or in split mode `m` (spec/12 R323). -/
def onFirst (n m p : Nat) : Bool := if m = 0 then decide (2 * p < n) else decide (p < m - 1)

/-- The lane, 0 or 1, on which head `p` of avenue `a` receives commands: RING, split at a hop, else forming (spec/12 R323). -/
def State.cmdLane (s : State) (a p : Nat) : Nat :=
  let m := s.get avenueStateMode a
  if m = 15 ∨ onFirst (s.get avenueStateN a) m p = true then 0 else 1

/-- Content put into a lane's service queue. -/
def State.queueSvc (s : State) (a lane : Nat) (x : Svc) : State :=
  let k := s.avn a
  s.setAvn a { k with svc := Tab.set k.svc lane (Tab.get k.svc lane [] ++ [x]) }

/-- Content for head `h` on the lane of its commands. -/
def State.svcHead (s : State) (h prec : Nat) (o : Out) : State :=
  s.queueSvc (h / 8) (s.cmdLane (h / 8) (h % 8)) { prec := prec, left := 1, head := 48, item := o }

/-- Content on both lanes of every avenue that carries one of some heads. -/
def State.svcAvenues (s : State) (heads : List Nat) (prec : Nat) (o : Out) : State :=
  let as := [0, 1, 2, 3, 4, 5].filter fun a => heads.any fun h => decide (h < 48) && h / 8 == a
  as.foldl (fun s a => [0, 1].foldl (fun s l => s.queueSvc a l { prec := prec, left := 1, head := 48, item := o }) s) s

/-- Messages to head `h` still unsent. -/
def State.unsent (s : State) (h : Nat) : Nat :=
  let k := s.avn (h / 8)
  ((Tab.get k.svc 0 [] ++ Tab.get k.svc 1 []).filter fun x => x.head == h).length

/-- A mailbox message to head `h`, in fragments of 28 bytes (spec/12 R342). -/
def State.sendMail (s : State) (h typ len data : Nat) : State :=
  s.queueSvc (h / 8) (s.cmdLane (h / 8) (h % 8))
    { prec := 4, left := (len + 4 + 27) / 28, head := h, item := .mailbox h typ len data }

end Sys2Proof.Machine
end

