-- ==== Sys2Proof/Machine/Ctl.lean ====
section
/-! DEFINITION. The converter control engine (spec/05): slots, reference path, converter states, phases, fault records. Currents in mA,
voltages in mV. -/

namespace Sys2Proof.Machine

/-! ### Rounding and limits -/

/-- Division rounded half toward plus infinity (spec/05 R135). -/
def roundHalf (num den : Int) : Int := (2 * num + den) / (2 * den)

/-- A value limited to a range, the upper bound taken last. -/
def limitTo (lo hi x : Int) : Int := min (max x lo) hi

/-- Saturation to 16 bits (spec/05 R135). -/
def sat16 (x : Int) : Int := limitTo (-32768) 32767 x

/-- A quantity in Q1.15 of its full scale, rounded half up (DEDUCED from R135; notes/assumptions/16.md). -/
def perUnit (x fs : Int) : Int := if fs ≤ 0 then 0 else roundHalf (x * 32768) fs

/-! ### Converters, their heads and slots -/

/-- What converter `c` remembers. -/
def State.conv (s : State) (c : Nat) : Conv := Tab.get s.ctl.convs c Conv.reset

/-- What converter `c` remembers replaced. -/
def State.setConv (s : State) (c : Nat) (k : Conv) : State := { s with ctl := { s.ctl with convs := Tab.set s.ctl.convs c k } }

/-- A slot's histories. -/
def State.slotHist (s : State) (n : Nat) : SlotHist := Tab.get s.ctl.slots n SlotHist.zero

/-- A slot's histories replaced. -/
def State.setSlotHist (s : State) (n : Nat) (h : SlotHist) : State :=
  { s with ctl := { s.ctl with slots := Tab.set s.ctl.slots n h } }

/-- The stage heads of a converter, from the active safety set (spec/05 R479, spec/10 R288). -/
def State.stageHeads (s : State) (c : Nat) : List Nat :=
  if s.flag safetyStateCommitted 0 = false then []
  else if c < 12 then [s.get safetyOutletStage0 c, s.get safetyOutletStage1 c].filter (· < 48)
  else [s.get safetyParamBatStage0 0, s.get safetyParamBatStage1 0].filter (· < 48)

/-- The outlet head of an outlet, from the active safety set. -/
def State.outletHead (s : State) (o : Nat) : Option Nat :=
  let h := s.get safetyOutletOutletHead o
  if s.flag safetyStateCommitted 0 && decide (o < 12) && decide (h < 48) then some h else none

/-- The slots that count for a converter's role: assigned, not faulted (spec/05 R141). -/
def State.slotsOf (s : State) (c role : Nat) : List Nat :=
  (List.range 64).filter fun n =>
    s.get ctlSlotConv n == c && s.get ctlSlotRole n == role && s.get ctlSlotState n != 5

/-- The slot of a converter's role. -/
def State.slotOf (s : State) (c role : Nat) : Option Nat := (s.slotsOf c role).head?

/-- The voltage role of a converter: the bus voltage for the battery converter (spec/05 R141). -/
def voltRole (c : Nat) : Nat := if c < 12 then 1 else 3

/-- Current full scale. -/
def State.iFs (s : State) (c : Nat) : Int := if c < 12 then s.num ctlOutletIFs c else s.num ctlBatteryIFs 0
/-- Voltage full scale. -/
def State.vFs (s : State) (c : Nat) : Int := if c < 12 then s.num ctlOutletVFs c else s.num ctlBatteryVFs 0
/-- i_phase of a converter; the spec gives none for the battery converter. -/
def State.iPhase (s : State) (c : Nat) : Int := if c < 12 then s.num allocOutletIPhase c else 0
/-- v_rated of a converter. -/
def State.vRated (s : State) (c : Nat) : Int := if c < 12 then s.num allocOutletVRated c else s.num allocConfigVbusMax 0

/-- State code of a converter (spec/05 Table 5-9). -/
def State.convState (s : State) (c : Nat) : Nat := s.get ctlStateState c

/-- v_out as last measured, mV, signed. -/
def State.vOut (s : State) (c : Nat) : Int := s.geti ctlStateVOut c

/-- Whether a converter is OFF or HELD. -/
def State.convIdle (s : State) (c : Nat) : Bool := s.convState c == 0 || s.convState c == 8

/-- Whether a converter's gates may switch: CABLECHECK, PRECHARGE, RUN, STOPPING. -/
def State.convActive (s : State) (c : Nat) : Bool := [2, 3, 4, 5].contains (s.convState c)

/-! ### Command page, read side (spec/09 Table 9-8) -/

/-- The address of outlet `o`'s command page. -/
def pageBase (o : Nat) : Nat := 0x40000000 + 0x10000 * o

/-- A byte of the page's read side rewritten; a change raises source 0x20 + o (spec/09 Table 9-16). -/
def State.setPageByte (s : State) (o off v t : Nat) : State :=
  let a := pageBase o + off
  let b := BitVec.ofNat 8 v
  if Memory.get s.mem a = b then s else ({ s with mem := Memory.set s.mem a b }).raise (0x20 + o) t

/-- A status bit of the page, [8] to [15] (spec/09 Table 9-8); a change may move the session. -/
def State.setStatus (s : State) (o n : Nat) (b : Bool) (t : Nat) : State :=
  if (Memory.get s.mem (pageBase o + 0x101)).getLsbD (n - 8) = b then s
  else (s.setPageByte o 0x101 (withBit (Memory.get s.mem (pageBase o + 0x101)).toNat (n - 8) b) t).linkStatus o t

/-- A status bit of the page. -/
def State.status (s : State) (o n : Nat) : Bool := (Memory.get s.mem (pageBase o + 0x101)).getLsbD (n - 8)

/-! ### Fault records (spec/05 R164) -/

/-- Fields copied one to one between ctl.fault and ctl.fault_hist. -/
def faultFields : List (Fld × Fld) :=
  [(ctlFaultSiteTime, ctlFaultHistSiteTime), (ctlFaultLegalTime, ctlFaultHistLegalTime), (ctlFaultDetail, ctlFaultHistDetail),
   (ctlFaultCause, ctlFaultHistCause), (ctlFaultAborts, ctlFaultHistAborts), (ctlFaultState, ctlFaultHistState),
   (ctlFaultActiveMap, ctlFaultHistActiveMap), (ctlFaultFailedMap, ctlFaultHistFailedMap), (ctlFaultVOut, ctlFaultHistVOut),
   (ctlFaultVIn, ctlFaultHistVIn), (ctlFaultIOut, ctlFaultHistIOut), (ctlFaultIRef, ctlFaultHistIRef),
   (ctlFaultSeq, ctlFaultHistSeq)]
  ++ (List.range 24).map (fun k => (ctlFaultIPh k, ctlFaultHistIPh k))
  ++ (List.range 4).map (fun k => (ctlFaultHsTemp k, ctlFaultHistHsTemp k))
  ++ (List.range 3).flatMap (fun j =>
      [(ctlFaultSlot j, ctlFaultHistSlot j), (ctlFaultUHist0 j, ctlFaultHistUHist0 j), (ctlFaultUHist1 j, ctlFaultHistUHist1 j),
       (ctlFaultUHist2 j, ctlFaultHistUHist2 j), (ctlFaultEHist0 j, ctlFaultHistEHist0 j), (ctlFaultEHist1 j, ctlFaultHistEHist1 j),
       (ctlFaultEHist2 j, ctlFaultHistEHist2 j)])

/-- The three output histories and the three error histories of role `r` in a record (spec/05 Table 5-5), newest first. -/
def histFields (r : Nat) : List Fld × List Fld :=
  let u := if r = 0 then ctlFaultUHist0 else if r = 1 then ctlFaultUHist1 else ctlFaultUHist2
  let e := if r = 0 then ctlFaultEHist0 else if r = 1 then ctlFaultEHist1 else ctlFaultEHist2
  ([u 0, u 1, u 2], [e 0, e 1, e 2])

/-- The contents of a record of cause `cause` (spec/05 Table 5-5): field and value, by field of ctl.fault. -/
def State.faultValues (s : State) (c cause detail t seq : Nat) : List (Fld × Nat) :=
  let k := s.conv c
  let slotVals (j : Nat) : List (Fld × Nat) :=
    match s.slotOf c (if j = 1 then voltRole c else j) with
    | none => [(ctlFaultSlot j, 0xFF)]
    | some n =>
      let h := s.slotHist n
      (ctlFaultSlot j, n) :: ((histFields j).1.zip ([h.u1, h.u2, h.u3].map (ofSigned 64))
        ++ (histFields j).2.zip ([h.e1, h.e2, h.e3].map (ofSigned 16)))
  [(ctlFaultSiteTime, t), (ctlFaultLegalTime, s.legal t), (ctlFaultDetail, detail), (ctlFaultCause, cause),
   (ctlFaultAborts, s.get ctlStateAborts c), (ctlFaultState, s.convState c), (ctlFaultActiveMap, s.get ctlStateActiveMap c),
   (ctlFaultFailedMap, s.get ctlStateFailedMap c), (ctlFaultVOut, s.get ctlStateVOut c),
   (ctlFaultVIn, ofSigned 32 (Tab.get k.stages 0 StageRec.zero).vIn), (ctlFaultIOut, s.get ctlStateIOut c),
   (ctlFaultIRef, ofSigned 32 k.iRef), (ctlFaultSeq, seq)]
  ++ (List.range 24).map (fun p => (ctlFaultIPh p, ofSigned 32 (100 * ((Tab.get k.phases p PhaseRec.zero).i.getD 0))))
  ++ (List.range 4).map (fun j => (ctlFaultHsTemp j, ofSigned 16 (Tab.get k.stages j StageRec.zero).temp))
  ++ (List.range 3).flatMap slotVals

/-- Fields written one after the other. -/
def State.putAll (s : State) (i : Nat) (l : List (Fld × Nat)) : State := l.foldl (fun s p => s.put p.1 i p.2) s

/-- The number of the next record of a converter. -/
def State.nextFaultSeq (s : State) (c : Nat) : Nat :=
  (List.range 64).foldl (fun m j => max m (s.get ctlFaultHistSeq (64 * c + j))) (s.get ctlFaultSeq c) + 1

/-- A record appended to the history, and, where `last`, written as the last-fault record too; event 0x0B (spec/05 R164). -/
def State.faultRecord (s : State) (c cause detail t : Nat) (last : Bool) : State :=
  let seq := s.nextFaultSeq c
  let vals := s.faultValues c cause detail t seq
  let hist := vals.filterMap fun p => (faultFields.find? fun q => q.1.pos == p.1.pos).map fun q => (q.2, p.2)
  let s1 := if last then s.putAll c vals else s
  (s1.putAll (64 * c + seq % 64) hist).event 0x0B c cause t t

/-! ### Command blocks (spec/12 Table 12-7) -/

/-- The phases a stage head has, from its head record (spec/12 Table 12-9). -/
def State.headPhases (s : State) (h : Nat) : Nat := min 12 (s.get headRecordPhases h)

/-- The phases of a converter, by number: 0–11 on the first stage head, 12–23 on the second (spec/05 "The phase-share unit"). -/
def State.phasesOf (s : State) (c : Nat) : List Nat :=
  ((s.stageHeads c).zipIdx.map fun p => (List.range (s.headPhases p.1)).map (· + 12 * p.2)).flatten

/-- Whether a phase's stage head is ACTIVE in the node table: outside ACTIVE its phases are treated as failed (spec/13 Table 13-3). -/
def State.phaseTrusted (s : State) (c p : Nat) : Bool := ((s.stageHeads c)[p / 12]?).any s.headActive

/-- The phases that are not failed. -/
def State.goodPhases (s : State) (c : Nat) : List Nat :=
  (s.phasesOf c).filter fun p => !(s.bit ctlStateFailedMap c p) && s.phaseTrusted c p

/-- The phases in use: neither failed nor shed (spec/05 R155). -/
def State.inUse (s : State) (c : Nat) : List Nat := (s.goodPhases c).filter fun p => !((s.conv c).shed.testBit p)

/-- A set of phases as a map. -/
def mapOf (l : List Nat) : Nat := l.foldl (fun m p => m ||| 2 ^ p) 0

/-- Q1.47 rounded half up to Q1.15. -/
def toQ15 (u : Int) : Int := roundHalf u (2 ^ 32)

/-- The command block of a converter's `j`-th stage head `h` (spec/05 R155, spec/12 Table 12-7): flags, enables, period, phase base, phases in
use, duties. -/
def State.stageCmd (s : State) (c h j : Nat) : Out :=
  let k := s.conv c
  let use := s.inUse c
  let mine := use.filter fun q => q / 12 == j
  let enable := if s.convActive c then mapOf (mine.map (· % 12)) else 0
  let before := (use.filter fun q => q / 12 < j).length
  let base := if use.length = 0 then 0 else before * 65536 / use.length
  let flags := (if s.convState c == 1 then 2 ^ 14 + 2 ^ 13 else 0) + (if k.discharge then 2 ^ 12 else 0) + enable
  let duties := (List.range 12).map fun q =>
    if enable.testBit q then sat16 (toQ15 (k.duty + (Tab.get k.phases (q + 12 * j) PhaseRec.zero).trim)) else 0
  .block h 0 ([(flags : Int), (Config.pwmPeriod h : Int), (base : Int), (use.length : Int)] ++ duties)

/-- A head's command block leaves; until its lane's next frame it is not repeated (spec/12 R326). -/
def State.sendCmd (s : State) (h : Nat) (o : Out) : State :=
  let k := s.avn (h / 8)
  (s.setAvn (h / 8) { k with told := k.told ||| 2 ^ (h % 8) }).emit o

/-- The command blocks of a converter's stage heads (spec/05 R155). -/
def State.sendCommands (s : State) (c : Nat) : State :=
  (s.stageHeads c).zipIdx.foldl (fun s (p : Nat × Nat) => s.sendCmd p.1 (s.stageCmd c p.1 p.2)) s

/-! ### Usable phases (spec/05 R157, R160) -/

/-- Whether a converter has lost a slot for good: faulted, with none in its place (spec/05 R165). -/
def State.bareSlot (s : State) (c : Nat) : Bool :=
  (List.range 64).any fun n => s.get ctlSlotConv n == c && s.get ctlSlotState n == 5 && (s.slotOf c (s.get ctlSlotRole n)).isNone

/-- n_avail in sixteenths of a phase: the sum of k_hs over the phases not failed, rounded down; 0 once a faulted slot found no spare
(spec/05 R157, R165). -/
def State.nAvail (s : State) (c : Nat) : Nat :=
  let k := s.conv c
  if s.bareSlot c then 0
  else
    let sum := (s.goodPhases c).foldl
      (fun (n : Int) p => n + (Tab.get k.stages (p / 12) StageRec.zero).k) 0
    (16 * sum / 300).toNat

/-- n_avail and the maps reported in ctl.state (spec/05 R157). -/
def State.reportPhases (s : State) (c : Nat) : State :=
  (s.put ctlStateNAvail c (s.nAvail c)).put ctlStateActiveMap c (mapOf (s.inUse c))

/-! ### The pump (spec/06 R166, R167) -/

/-- Whether the pump of an outlet runs (spec/06 R167). -/
def State.pumpRuns (s : State) (o t : Nat) : Bool :=
  let k := s.conv o
  s.convState o != 0 || (k.moved && decide (t < k.since + s.get coolOutletPostRun o * 1000000000))

/-- Pump speed for a slot output in Q1.47 (spec/06 R166): negative output counts as 0. -/
def State.pumpSpeed (s : State) (o : Nat) (u : Int) : Nat :=
  let m := s.num coolOutletPumpMin o
  (m + roundHalf ((100 - m) * max u 0) (2 ^ 47)).toNat

/-- The outlet head's command block (spec/12 Table 12-7, spec/09 R240). -/
def State.outletCmd (s : State) (o h : Nat) : Out :=
  let pump := s.get coolStatePump o
  let fl := s.get coolStateFlags o
  let duty := (s.page o).pilotDuty
  let flags := (if pump = 0 then 0 else 1) + (if fl.testBit 0 then 2 else 0) + (if fl.testBit 1 then 4 else 0)
    + (if duty = 1000 then 8 else 0) + (if s.convState o = 2 then 16 else 0)
  .block h 1 [(flags : Int), (pump : Int), (duty : Int)]

/-- The outlet head's command block sent. -/
def State.sendOutletCmd (s : State) (o : Nat) : State :=
  match s.outletHead o with
  | none => s
  | some h => s.sendCmd h (s.outletCmd o h)

/-- The pump's command: the slot's last output, 100 % without a coolant slot, off outside R167's times. -/
def State.pumpNow (s : State) (o t : Nat) : Nat :=
  if s.pumpRuns o t then
    match s.slotOf o 2 with
    | none => 100
    | some n => s.pumpSpeed o (s.slotHist n).u1
  else 0

/-- The pump's command set and sent. -/
def State.drivePump (s : State) (o t : Nat) : State := (s.put coolStatePump o (s.pumpNow o t)).sendOutletCmd o

/-! ### Converter states (spec/05 R150) -/

/-- A slot's histories set, with u_last, which is u[n−1] (spec/05 Table 5-1). -/
def State.resetHist (s : State) (n : Nat) (h : SlotHist) : State := (s.setSlotHist n h).puti ctlSlotULast n h.u1

/-- A converter's entry into a state; entry into PRECHECK clears the histories of its slots but the coolant slot's (spec/05 R134). A finding of
two samples that goes on is met again only there (R150). An outlet's pump follows its state (spec/06 R166, R167). -/
def State.enterState (s : State) (c st t : Nat) : State :=
  let k := s.conv c
  let old := s.get ctlStateState c
  let s := s.put ctlStateState c st
  let k := { k with since := t, ramp := none, moved := true }
  let s := if st = 1 then
      let k := { k with discharge := false, gatesOff := none, stopFrom := none, heat := false, cause := 0, iRef := 0, cascade := 0, duty := 0,
                        shed := 0, lowSince := none, volts := [], updates := [], phases := [], boundAt := t, ov := 0, vBad := 0,
                        stages := k.stages.map fun e => (e.1, { e.2 with mids := [] }) }
      let s := (s.setConv c k).puti ctlStateIHi c 0
      [0, voltRole c].foldl (fun s r => match s.slotOf c r with
        | none => s
        | some n => s.resetHist n { SlotHist.zero with arrivals := (s.slotHist n).arrivals }) s
    else s.setConv c k
  let s := if st = 1 ∧ c < 12 then (s.setStatus c 10 false t).setStatus c 14 false t else s
  if c < 12 then ((s.drivePump c t).setPageByte c 0x100 st t).linkConverter c old st (s.conv c).cause t else s

/-- Slots shown as idle or unassigned while the gates are off (spec/05 Table 5-1). -/
def State.idleSlots (s : State) (c : Nat) : State :=
  [0, voltRole c].foldl (fun s r => match s.slotOf c r with
    | none => s
    | some n => s.put ctlSlotState n 1) s

/-- Gates off with the discharge paths driven from the stamp of that command block (spec/05 R150, R162). -/
def State.gatesOff (s : State) (c st t : Nat) : State :=
  let s := s.setConv c { s.conv c with gatesOff := some t, discharge := true, iRef := 0, cascade := 0, duty := 0 }
  ((s.enterState c st t).idleSlots c).sendCommands c

/-- To DISCHARGE with a cause; cause 0 where no cause of Table 5-6 applies (a stop that was asked for). -/
def State.toDischarge (s : State) (c cause t : Nat) : State :=
  let s := s.setConv c { s.conv c with cause := cause, heat := decide (cause = 9) }
  s.gatesOff c 6 t

/-- To HELD with its cause (spec/05 Table 5-9 held_cause). -/
def State.toHeld (s : State) (c cause t : Nat) : State :=
  ((s.setConv c { s.conv c with cause := cause }).enterState c 8 t).put ctlStateHeldCause c cause

/-- An immediate stop (spec/05 R150, R163, R164): the record is written before the state changes; in OFF, BACKOFF, DISCHARGE or HELD the cause
changes no state and is appended to the history only, but a heatsink shutdown in DISCHARGE leads to HELD. -/
def State.immediateStop (s : State) (c cause detail t : Nat) : State :=
  let st := s.convState c
  if st = 0 ∨ st = 6 ∨ st = 7 ∨ st = 8 then
    let s := s.faultRecord c cause detail t false
    if st = 6 ∧ cause = 9 then s.setConv c { s.conv c with heat := true } else s
  else (s.faultRecord c cause detail t true).toDischarge c cause t

/-- A controlled stop (spec/05 R150, R161): from RUN to STOPPING; from CABLECHECK or PRECHARGE straight to DISCHARGE; elsewhere nothing. -/
def State.controlledStop (s : State) (c t : Nat) : State :=
  match s.convState c with
  | 4 =>
    let i := s.geti ctlStateIOut c
    let s := s.setConv c { s.conv c with stopFrom := some (t, if i < 0 then -i else i) }
    s.enterState c 5 t
  | 2 => s.toDischarge c 0 t
  | 3 => s.toDischarge c 0 t
  | _ => s

/-- The session ends before transfer: PRECHECK waits for its timeout, CABLECHECK and PRECHARGE discharge, BACKOFF goes OFF
(spec/05 Table 5-4). -/
def State.sessionEnds (s : State) (c t : Nat) : State :=
  match s.convState c with
  | 2 => s.toDischarge c 0 t
  | 3 => s.toDischarge c 0 t
  | 7 => s.enterState c 0 t
  | _ => s

/-- Whether a converter lacks a current or voltage slot (spec/05 R150). -/
def State.lacksSlot (s : State) (c : Nat) : Bool := (s.slotOf c 0).isNone || (s.slotOf c (voltRole c)).isNone

/-- Request 1: OFF to PRECHECK (spec/05 R150, Table 5-4, spec/16 R426). -/
def State.energise (s : State) (c t : Nat) : State :=
  if s.convState c ≠ 0 ∨ s.modeEnergises = false then s
  else if s.lacksSlot c then s.put ctlStateIncomplete c 1
  else ((s.put ctlStateIncomplete c 0).enterState c 1 t).sendCommands c

/-! ### Slots (spec/05 R134–R137) -/

/-- A coefficient. -/
def coeff (s : State) (f : Fld) (n : Nat) : Int := s.geti f n

/-- The compensator's sum, exactly, rounded half up to Q1.47 (spec/05 R134, R135). -/
def State.slotSum (s : State) (n : Nat) (h : SlotHist) (e : Int) : Int :=
  let be := coeff s ctlSlotB0 n * e + coeff s ctlSlotB1 n * h.e1 + coeff s ctlSlotB2 n * h.e2 + coeff s ctlSlotB3 n * h.e3
  let au := coeff s ctlSlotA1 n * h.u1 + coeff s ctlSlotA2 n * h.u2 + coeff s ctlSlotA3 n * h.u3
  roundHalf (be * 2 ^ 32 - au) (2 ^ 28)

/-- One update of slot `n` with error `e` and clamps in Q1.47 (spec/05 R134–R137): the output, its history and its state code. -/
def State.slotStep (s : State) (n : Nat) (e lo hi : Int) : State × Int :=
  let h := s.slotHist n
  let u := limitTo lo hi (s.slotSum n h e)
  let up := if s.flag ctlSlotPol n then decide (e < 0) else decide (e > 0)
  let down := if s.flag ctlSlotPol n then decide (e > 0) else decide (e < 0)
  let kept := if (u = hi ∧ up) ∨ (u = lo ∧ down) then 0 else e
  let s := s.setSlotHist n { h with e1 := kept, e2 := h.e1, e3 := h.e2, u1 := u, u2 := h.u1, u3 := h.u2 }
  let s := (s.incWrap ctlSlotUpdates n 1).puti ctlSlotULast n u
  (s.put ctlSlotState n (if u = hi then 3 else if u = lo then 4 else 2), u)

/-- A slot's configured clamps in Q1.47 (spec/05 R135). -/
def State.slotClamps (s : State) (n : Nat) : Int × Int := (s.geti ctlSlotUMin n * 2 ^ 32, s.geti ctlSlotUMax n * 2 ^ 32)

/-- The divisor a slot runs with: a coolant slot's gives 1 kHz at the generation of its avenue (spec/05 R138, R479). -/
def coolantDivisor (gen : Nat) : Nat := if gen = 1 then 250 else if gen = 2 then 500 else 1000

/-- Avenue `a`'s generation: as formed, else its configured gen_max (spec/05 R479). -/
def State.avenueGen (s : State) (a : Nat) : Nat :=
  let g := s.get avenueStateGen a
  if g = 0 then s.get avenueConfigGenMax a else g

/-- The generation of the avenue that carries a slot's trigger block, the slowest of several; G3 with no head named (spec/05 R479). -/
def State.triggerGen (s : State) (c role : Nat) : Nat :=
  let heads := if role = 1 ∨ role = 2 then (s.outletHead c).toList else s.stageHeads c
  heads.foldl (fun g h => min g (s.avenueGen (h / 8))) 3

/-- Frames per 4 µs of a generation: 1 MHz, 500 kHz, 250 kHz (spec/12 Table 12-1). -/
def framesPer4 (gen : Nat) : Nat := if gen = 1 then 1 else if gen = 2 then 2 else 4

/-- A sum of fractions. -/
def addFrac (a : Nat × Nat) (n d : Nat) : Nat × Nat := (a.1 * d + n * a.2, a.2 * d)

/-- The slot load of R144 as a fraction, ns per µs: t_upd × f_upd over the assigned slots, 24 ns × f_current over the converters. -/
def State.slotLoad (s : State) : Nat × Nat :=
  (List.range 64).foldl (fun a n =>
    let c := s.get ctlSlotConv n
    if 12 < c ∨ s.get ctlSlotState n = 5 then a
    else
      let role := s.get ctlSlotRole n
      let t := if s.flag ctlSlotOrder n then 20 else 16
      let f := framesPer4 (s.triggerGen c role)
      let d := 4 * max 1 (s.get ctlSlotDivisor n)
      if role = 2 then addFrac a t 1000
      else
        let a := addFrac a (t * f) d
        if role = 0 then addFrac a (24 * f) d else a) (0, 1)

/-- The load as ctl.engine shows it, rounded up (notes/assumptions/17.md). -/
def State.loadNs (s : State) : Nat := let l := s.slotLoad; (l.1 + l.2 - 1) / l.2

/-- ctl.engine and the marks that follow from the slots' configuration (spec/05 Table 5-10, R150, R479). -/
def State.refreshEngine (s : State) : State :=
  let s := s.put ctlEngineLoad 0 (s.loadNs)
  let s := s.put ctlEngineAssigned 0 (((List.range 56).filter fun n => s.get ctlSlotConv n ≤ 12 && s.get ctlSlotState n != 5).length)
  let s := s.put ctlEngineSparesLeft 0 (((List.range 8).filter fun j => s.get ctlSlotStandsFor (56 + j) == 0xFF).length)
  (List.range 13).foldl (fun s c =>
    let s := if s.flag ctlStateIncomplete c && !(s.lacksSlot c) then s.put ctlStateIncomplete c 0 else s
    match s.slotOf c 2 with
    | none => s.put ctlStateDivSub c 0
    | some n => s.putFlag ctlStateDivSub c (s.get ctlSlotDivisor n != coolantDivisor (s.triggerGen c 2))) s

/-- Whether a write of ctl.slot[n] that leads from `s` to `s'` breaks a rule (spec/05 R134, R136, R140, R141, R144, R165, spec/06 R166): 0 for
an accepted write, else the NAK's status. -/
def slotWriteStatus (s s' : State) (n : Nat) : Nat :=
  let c := s'.get ctlSlotConv n
  let role := s'.get ctlSlotRole n
  let order := s'.get ctlSlotOrder n
  let kind := s'.get ctlSlotKind n
  let roleOk := if c < 12 then decide (role < 3) else if c = 12 then role == 0 || role == 3 else true
  let orderOk := order == (if role = 0 then 1 else 0)
  let kindOk := if role = 0 then kind == 1 || kind == 2 else if role = 2 then kind == 3 else kind == 0
  let l := s'.slotLoad
  if s.get ctlSlotState n = 5 then 7
  else if 56 ≤ n ∧ s.get ctlSlotStandsFor n = 0xFF then 7
  else if (12 < c ∧ c ≠ 0xFF) ∨ 3 < role then 6
  else if s'.get ctlSlotDivisor n = 0 then 6
  else if order = 0 ∧ (s'.get ctlSlotB3 n ≠ 0 ∨ s'.get ctlSlotA3 n ≠ 0) then 6
  else if kind = 1 ∧ s'.geti ctlSlotUMin n < 0 then 6
  else if c ≠ 0xFF ∧ (roleOk = false ∨ orderOk = false ∨ kindOk = false) then 6
  else if c ≠ 0xFF ∧ role = 2 ∧ s'.get ctlSlotDivisor n ≠ coolantDivisor (s'.triggerGen c 2) then 6
  else if c ≠ 0xFF ∧ 1 < (s'.slotsOf c role).length then 6
  else if 2000 * l.2 < l.1 ∧ s.slotLoad.1 * l.2 < l.1 * s.slotLoad.2 then 6
  else if 56 ≤ n ∧ (s'.get ctlSlotConv n ≠ s.get ctlSlotConv n ∨ s'.get ctlSlotRole n ≠ s.get ctlSlotRole n
      ∨ s'.get ctlSlotOrder n ≠ s.get ctlSlotOrder n) then 7
  else if (s.get ctlSlotConv n ≤ 12 ∧ s.convIdle (s.get ctlSlotConv n) = false) ∨ (c ≤ 12 ∧ s.convIdle c = false) then 7
  else 0

/-- What the spare-capacity report says of slots and phases (spec/15 Tables 15-7, 15-9): slots left, low warning, exhaustion, a failed phase,
a converter left without a slot. -/
def State.reportSlots (s : State) (t : Nat) : State :=
  let left := s.get ctlEngineSparesLeft 0
  let s := (s.put sparesSlotsLeft 0 left).putBit sparesWarn 0 0 (decide (left ≤ 2))
  let failed := (List.range 13).any fun c => s.get ctlStateFailedMap c != 0
  let bare := (List.range 13).any s.bareSlot
  s.setSpares (withBit (s.get sparesExhausted 0) 1 (left == 0)) (withBit (withBit (s.get sparesLost 0) 1 failed) 2 bare) t

/-- What an accepted write of ctl.slot[n] does beside its fields (spec/05 R134): histories cleared, state and engine figures shown anew. A
coolant slot's histories follow R167. -/
def State.slotWritten (s : State) (n t : Nat) : State :=
  let s := if s.get ctlSlotRole n = 2 then s else s.resetHist n SlotHist.zero
  let s := s.put ctlSlotState n (if s.get ctlSlotConv n ≤ 12 then 1 else 0)
  let s := outlets.foldl (fun s o => if s.pumpNow o t = s.get coolStatePump o then s else s.drivePump o t) s
  s.refreshEngine.reportSlots t

/-- An uncorrectable block in the state of slot `n` (spec/05 R165): the previous output is resent; the lowest free spare takes the
configuration, with the output history at the last output and the error history zero; none left: an immediate stop. -/
def State.slotFault (s : State) (n t : Nat) : State :=
  let c := s.get ctlSlotConv n
  let h := s.slotHist n
  if 12 < c ∨ s.get ctlSlotState n = 5 then s
  else match (List.range 8).find? fun j => s.get ctlSlotStandsFor (56 + j) == 0xFF && s.get ctlSlotState (56 + j) != 5 with
  | none =>
    let s := (s.put ctlSlotState n 5).put ctlStateDegraded c 1
    let s := if s.lacksSlot c then s.put ctlStateIncomplete c 1 else s
    (((s.immediateStop c 0x0C n t).reportPhases c).refreshEngine).reportSlots t
  | some j =>
    let sp := 56 + j
    let s := ctlSlotDef.fields.foldl (fun s f => if f.acc = .rw then s.put f sp (s.get f n) else s) s
    let s := s.resetHist sp { SlotHist.zero with u1 := h.u1, u2 := h.u1, u3 := h.u1, arrivals := h.arrivals }
    let s := ((s.put ctlSlotStandsFor sp n).put ctlSlotState sp (s.get ctlSlotState n)).put ctlSlotState n 5
    let s := (s.put ctlStateDegraded c 1).faultRecord c 0x0C n t true
    s.refreshEngine.reportSlots t

/-! ### Values in force (spec/04 R118, R125) -/

/-- The lesser of two sets of bounds. -/
def Force.meet (a b : Force) : Force :=
  { iMax := min a.iMax b.iMax, iMin := max a.iMin b.iMin, pMax := min a.pMax b.pMax, pMin := max a.pMin b.pMin,
    vMax := min a.vMax b.vMax, prio := a.prio }

/-- The bounds in force for an outlet: the entry's, and the override's where one is in force. -/
def State.inForce (s : State) (o : Nat) : Force :=
  let f := s.kerb.force.getD o Force.zero
  match s.kerb.override with
  | none => f
  | some v => f.meet (v.outs.getD o Force.zero)

/-- The battery power in force: the lesser of entry and override (spec/04 R125). -/
def State.batInForce (s : State) : Int :=
  match s.kerb.override with
  | none => s.kerb.forceBat
  | some v => min s.kerb.forceBat v.pBat

/-! ### Reference path (spec/05 R146–R148) -/

/-- The cable-check test voltage (spec/09 R253). -/
def State.vTest (s : State) (o : Nat) : Int :=
  let p := s.page o
  let m := min (p.vEvMax : Int) (s.num allocOutletVRated o)
  if p.vTest = 0 then m else min (p.vTest : Int) m

/-- v_cap of a converter's state (spec/05 R146). -/
def State.vCap (s : State) (c : Nat) : Int :=
  let p := s.page c
  match s.convState c with
  | 2 => s.vTest c
  | 3 => (p.vPc : Int)
  | _ => min (p.vSet : Int) (s.inForce c).vMax

/-- The voltage reference without soft start (spec/05 R146). -/
def State.vRefFull (s : State) (c : Nat) : Int :=
  max 0 (min (s.vCap c) (s.vRated c) - s.num ctlOutletRLl c * s.geti ctlStateIOut c / 1000000)

/-- The fold-back limit (spec/05 R148). -/
def State.foldBack (s : State) (c : Nat) : Int :=
  let lo := s.num ctlOutletIFbMin c
  let hi := if s.get ctlOutletIFbMax c = 0 then s.num allocOutletIRated c else s.num ctlOutletIFbMax c
  let vn := if s.get ctlOutletVNom c = 0 then s.num allocOutletVRated c else s.num ctlOutletVNom c
  if vn ≤ 0 then lo else lo + (hi - lo) * limitTo 0 vn (s.vOut c) / vn

/-- The current bounds of an outlet before the rise limit (spec/05 Table 5-3). -/
def State.boundsRaw (s : State) (c : Nat) : Int × Int :=
  let st := s.convState c
  let pre := st == 2 || st == 3
  let f := s.inForce c
  let p := s.page c
  let v := max 1 (max (s.vOut c) (s.vRated c / 10))
  let big : Int := 2 ^ 40
  let lo := if pre then -big else max (max f.iMin (ceilDiv (f.pMin * 1000000) v)) (-(p.iDisTarget : Int))
  let hi := if pre then big else min (min f.iMax (f.pMax * 1000000 / v)) p.iTarget
  let m := min (s.foldBack c) (s.num ctlStateNAvail c * s.iPhase c / 16)
  let m := if st = 2 then min m (s.num ctlOutletIFbMin c) else if st = 3 then min m (s.num ctlOutletPcImax c) else m
  let hi := min hi m
  let lo := max lo (-m)
  let lo := if s.flag allocOutletBpt c && p.bpt then lo else max lo 0
  (min lo hi, hi)

/-- The current bounds of the battery converter (spec/05 R143): chg_lim and −dis_lim over the battery-side voltage. -/
def State.boundsBattery (s : State) : Int × Int :=
  let v := max 1 (s.conv 12).vB
  let hi := s.num battSummaryChgLim 0 * 1000000 / v
  let lo := ceilDiv (-(s.num battSummaryDisLim 0) * 1000000) v
  (min lo hi, hi)

/-- The bounds with the rise of i_hi limited to i_slew per µs since the last update (spec/05 R147). -/
def State.formBounds (s : State) (c t : Nat) : State :=
  let b := if c < 12 then s.boundsRaw c else s.boundsBattery
  let k := s.conv c
  let slew := if c < 12 then s.num ctlOutletISlew c else s.num ctlBatteryISlew 0
  let room := s.geti ctlStateIHi c + slew * ((t - k.boundAt : Nat) : Int) / 1000
  let hi := min b.2 room
  let s := s.setConv c { k with boundAt := t }
  (s.puti ctlStateIHi c hi).puti ctlStateILo c (min b.1 hi)

/-- Soft start (spec/05 R146): the ramp begins with the first update and ends once v_ref has reached its unramped value; the abort count is
cleared then (R153). The reference is never negative. -/
def State.softStart (s : State) (c t : Nat) : State × Int :=
  let full := s.vRefFull c
  let st := s.convState c
  let k := s.conv c
  if c ≥ 12 ∨ (st ≠ 2 ∧ st ≠ 3) then (s, full)
  else
    let r := k.ramp.getD { tStart := t, vStart := s.vOut c, vTarget := full, checked := false, reached := false }
    if r.reached then (s, full)
    else
      let v := r.vStart + s.num ctlOutletSsRate c * ((t - r.tStart : Nat) : Int) / 1000000
      let s := s.setConv c { k with ramp := some { r with vTarget := full, reached := decide (full ≤ v) } }
      if full ≤ v then (s.put ctlStateAborts c 0, full) else (s, max 0 v)

/-- The current a controlled stop still allows (spec/05 R161). -/
def State.stopLimit (s : State) (c t : Nat) : Option Int :=
  match (s.conv c).stopFrom with
  | none => none
  | some (t0, i0) =>
    if s.convState c = 5 then some (max 0 (i0 - s.num ctlOutletStopRate c * ((t - t0 : Nat) : Int) / 1000)) else none

/-! ### The phase-share unit (spec/05 R155–R159) -/

/-- Phases turned off and removed, each with its cause and detail (spec/05 R159): marked failed for good, n_avail reported, each fault recorded,
the outlet degraded; below n_min the converter stops with the last cause. -/
def State.failPhases (s : State) (c : Nat) (ps : List Nat) (finds : List (Nat × Nat)) (t : Nat) : State :=
  match finds.getLast? with
  | none => s
  | some last =>
    let s := ps.foldl (fun s p => s.putBit ctlStateFailedMap c p true) s
    let s := ((s.reportPhases c).put ctlStateDegraded c 1).reportSlots t
    let stops := decide (c < 12) && decide (s.get ctlStateNAvail c < 16 * s.get ctlOutletNMin c) && s.convActive c
    let s := (if stops then finds.dropLast else finds).foldl (fun s f => s.faultRecord c f.1 f.2 t true) s
    (if stops then s.immediateStop c last.1 last.2 t else s).sendCommands c

/-- Sum and number of the samples present in the current update, in 0.1 A. -/
def sumOf (k : Conv) (ps : List Nat) : Int × Int :=
  let l := ps.filterMap fun p => (Tab.get k.phases p PhaseRec.zero).i
  (l.foldl (· + ·) 0, l.length)
/-- The same of the samples of the update before. -/
def prevSumOf (k : Conv) (ps : List Nat) : Int × Int :=
  let l := ps.filterMap fun p => (Tab.get k.phases p PhaseRec.zero).prev
  (l.foldl (· + ·) 0, l.length)

/-- Whether a phase's sense has failed in this update, `moved` saying whether the mean of the others moved by more than 5 % of i_phase
(spec/05 R158). -/
def senseBad (iPhase : Int) (moved : Bool) (r : PhaseRec) : Bool :=
  match r.i with
  | none => true
  | some i => decide (iPhase * 3 < mag i * 200) || (r.prev == some i && moved)

/-- The findings of R158 for one update: phases with two consecutive findings of an open phase, and of a failed sense, with the records after
the update. Means are compared as exact fractions. -/
def State.judgePhases (s : State) (c : Nat) : State × List Nat × List Nat :=
  let k := s.conv c
  let use := s.inUse c
  let ip := s.iPhase c
  if ip ≤ 0 then (s, [], [])
  else
    let n : Int := use.length
    let trims := use.foldl (fun (a : Int) p => a + (Tab.get k.phases p PhaseRec.zero).trim) 0
    let trimMax := s.num ctlOutletTrimMax c * 2 ^ 47 / 1000
    let phases := use.foldl (fun (ph : Tab PhaseRec) p =>
      let r := Tab.get k.phases p PhaseRec.zero
      let others := use.filter (· != p)
      let a := sumOf k others
      let b := prevSumOf k others
      let moved := decide (0 < a.2 ∧ 0 < b.2 ∧ ip * a.2 * b.2 < 20 * 100 * mag (a.1 * b.2 - b.1 * a.2))
      let nearMean := decide (mag (r.trim * n - trims) ≤ trimMax * n)
      let isOpen := r.i.any (fun i => decide (mag i * 100 * 50 < ip)) && nearMean && decide (0 < a.2 ∧ ip * a.2 < a.1 * 100 * 10)
      let bad := senseBad ip moved r
      Tab.set ph p { r with opens := if isOpen then r.opens + 1 else 0, stuck := if bad then r.stuck + 1 else 0, prev := r.i }) k.phases
    let s := s.setConv c { k with phases := phases }
    (s, use.filter fun p => decide (2 ≤ (Tab.get phases p PhaseRec.zero).opens),
      use.filter fun p => decide (2 ≤ (Tab.get phases p PhaseRec.zero).stuck) && decide ((Tab.get phases p PhaseRec.zero).opens < 2))

/-- The trims of one update (spec/05 R155). -/
def State.trimPhases (s : State) (c : Nat) : State :=
  let k := s.conv c
  let use := s.inUse c
  let ip := s.iPhase c
  let n : Int := (use.length : Int)
  if ip ≤ 0 ∨ n = 0 then s
  else
    let sum := use.foldl (fun (a : Int) p => a + (Tab.get k.phases p PhaseRec.zero).i.getD 0) 0
    let lim := s.num ctlOutletTrimMax c * 2 ^ 47 / 1000
    let phases := use.foldl (fun (ph : Tab PhaseRec) p =>
      let r := Tab.get ph p PhaseRec.zero
      match r.i with
      | none => ph
      | some i =>
        let d := roundHalf ((sum - n * i) * 100 * 2 ^ 47) (n * 64 * ip)
        Tab.set ph p { r with trim := limitTo (-lim) lim (r.trim + d) }) k.phases
    s.setConv c { k with phases := phases }

/-- The lowest-numbered shed phase of the head carrying fewer phases in use (spec/05 R156). -/
def State.phaseToAdd (s : State) (c : Nat) : Option Nat :=
  let use := s.inUse c
  let k := s.conv c
  let shed := (s.phasesOf c).filter fun p => k.shed.testBit p && !(s.bit ctlStateFailedMap c p)
  let on (j : Nat) : Nat := (use.filter fun p => p / 12 == j).length
  match shed.find? (fun p => decide (on (p / 12) ≤ on (1 - p / 12))) with
  | some p => some p
  | none => shed.head?

/-- The highest-numbered phase of the head carrying more phases in use (spec/05 R156). -/
def State.phaseToShed (s : State) (c : Nat) : Option Nat :=
  let use := s.inUse c
  let on (j : Nat) : Nat := (use.filter fun p => p / 12 == j).length
  (use.filter fun p => decide (on (1 - p / 12) ≤ on (p / 12))).getLast?

/-- The mean current per phase in use against `pct` percent of i_phase (spec/05 R156): whether above, whether below; exact. -/
def State.loadAgainst (s : State) (c : Nat) (pct : Int) : Bool × Bool :=
  let a := sumOf (s.conv c) (s.inUse c)
  let x := mag a.1 * 100 * 100
  let y := pct * s.iPhase c * max 1 a.2
  (decide (y < x), decide (x < y))

/-- Adding at once above shed_hi, and the timer of shedding (spec/05 R156). -/
def State.sharePhases (s : State) (c t : Nat) : State :=
  if c ≥ 12 then s
  else
    let k := s.conv c
    if (s.loadAgainst c (s.num ctlOutletShedHi c)).1 then
      match s.phaseToAdd c with
      | none => s.setConv c { k with lowSince := none }
      | some p =>
        let s := s.setConv c { k with lowSince := none, shed := withBit k.shed p false,
                                      phases := Tab.set k.phases p { Tab.get k.phases p PhaseRec.zero with trim := 0, opens := 0, stuck := 0 } }
        s.reportPhases c
    else if (s.loadAgainst c (s.num ctlOutletShedLo c)).2 then
      s.setConv c { k with lowSince := some (k.lowSince.getD t) }
    else s.setConv c { k with lowSince := none }

end Sys2Proof.Machine
end

