-- ==== Sys2Proof/Machine/Kerb.lean ====
section
/-! DEFINITION. The Kerb's epochs: composition, commits, retractions, the fast path, and what the control engine has in force
(spec/04 R104–R132, R480; spec/09 R255). -/

namespace Sys2Proof.Machine

/-! ### Epoch numbers and times (spec/00 R4, spec/04 R107, R108) -/

/-- How far epoch `e` lies ahead of the epoch in progress, modulo 2^32 (spec/00 R4). -/
def State.ahead (s : State) (e : Nat) : Nat := (e + 2 ^ 32 - s.kerb.cur) % 2 ^ 32

/-- Whether epoch `a` is not later than epoch `b` (spec/00 R4). -/
def notLater (a b : Nat) : Bool := decide ((b + 2 ^ 32 - a) % 2 ^ 32 < 2 ^ 31)

/-- The epoch `d` after the one in progress. -/
def State.epochNo (s : State) (d : Nat) : Nat := (s.kerb.cur + d) % 2 ^ 32

/-- The configured epoch length, ns. -/
def State.newLen (s : State) : Nat := s.get allocConfigEpochLenMs 0 * 1000000

/-- t0 of the epoch `d` after the one in progress: the epoch in progress keeps its end (spec/04 R107, R108). Before epoch 0 begins, `d` counts
from epoch 0. -/
def State.t0Ahead (s : State) (d : Nat) : Nat :=
  if d = 0 then s.kerb.t0 else s.kerb.t0 + s.kerb.len + (d - 1) * s.newLen

/-- The record of epoch `e` (spec/04 R130). -/
def State.epoch (s : State) (e : Nat) : Option Epoch := (Tab.find s.kerb.epochs (e % 16)).filter fun r => r.num == e

/-- The record of an epoch replaced. -/
def State.setEpoch (s : State) (r : Epoch) : State := { s with kerb := { s.kerb with epochs := Tab.set s.kerb.epochs (r.num % 16) r } }

/-- The earliest unbegun epoch whose t0 is at or after a stamp, as a distance (spec/03 R103, spec/04 R122). -/
def State.firstAfter (s : State) (t : Nat) : Nat :=
  ((List.range 60).find? fun d => decide (1 ≤ d) && decide (t ≤ s.t0Ahead d)).getD 60

/-! ### Composition (spec/04 R112, R114, R115) -/

/-- The standing proposal of epoch `e` among those that satisfy `p`: latest stamp, then lower core. -/
def State.standing (s : State) (e : Nat) (p : Proposal → Bool) : Option Proposal :=
  s.kerb.props.foldl (fun (best : Option Proposal) q =>
    if q.epoch ≠ e ∨ p q = false then best
    else match best with
    | none => some q
    | some b => if b.stamp < q.stamp ∨ (b.stamp = q.stamp ∧ q.core < b.core) then some q else best) none

/-- An outlet's entry carried forward into epoch `n` (spec/04 R114): under stale_action 1, an entry formed after the one that made the outlet
stale is lowered toward zero by ramp (R115). -/
def State.carry (s : State) (o n : Nat) (e : Entry) : Entry :=
  let e := { e with clamps := 0, origin := 1, proposer := 0xFF, tag := 0 }
  if s.flag allocConfigStaleAction 0 && Tab.get s.kerb.stale o false && !(notLater n (Tab.get s.kerb.staleAt o 0)) then
    let ramp := s.num allocOutletRamp o
    let down (x : Int) : Int := if x ≤ ramp ∧ -x ≤ ramp then 0 else if x > 0 then x - ramp else x + ramp
    let scale (p i : Int) : Int := if i = 0 then 0 else p * down i / i
    { e with iMax := down e.iMax, iMin := down e.iMin, pMax := scale e.pMax e.iMax,
             pMin := if e.iMin = 0 then 0 else ceilDiv (e.pMin * down e.iMin) e.iMin }
  else e

/-- An outlet's entry as proposed (spec/04 Table 4-1): p_max 0 means none beyond i_max × v_max. -/
def Proposal.entry (q : Proposal) (o : Nat) : Entry :=
  let x := q.outs.getD o { iMax := 0, iMin := 0, pMax := 0, vMax := 0, prio := 0 }
  { iMax := x.iMax, iMin := x.iMin, pMax := if x.pMax = 0 then max x.iMax 0 * x.vMax / 1000000 else x.pMax, pMin := 0, vMax := x.vMax,
    prio := x.prio, tag := q.tag, proposer := q.core, origin := 0, clamps := 0 }

/-- What an epoch asks: standing proposals, carry-forward of the preceding epoch for the rest (spec/04 R112, R114); the battery assists only
where the standing battery proposal says so (R117). -/
def State.asked (s : State) (e : Nat) (prev : Epoch) : Asked :=
  let bat := s.standing e fun q => q.mask.testBit 12
  let rect := s.standing e fun q => q.mask.testBit 13
  { outs := outlets.map fun o => match s.standing e fun q => q.mask.testBit o with
      | some q => q.entry o
      | none => s.carry o e (entryOf prev.outs o)
    pBat := match bat with | some q => q.pBat | none => prev.pBat
    vbus := match rect with | some q => q.vbus | none => prev.vbus
    rectLim := match rect with | some q => q.rectLim | none => prev.rectLim
    assist := match bat with | some q => q.assist | none => false }

/-- Epoch `d` ahead clamped after `prev` (spec/04 R116), with the outlets whose pre-transfer steps end (R480). -/
def State.clampAhead (s : State) (d : Nat) (prev : Epoch) : Epoch × List Nat :=
  let e := s.epochNo d
  let old := (s.epoch e).getD Epoch.zero
  let len := if d = 0 then s.kerb.len else s.newLen
  s.clampEpoch prev len (s.asked e prev)
    { Epoch.zero with num := e, t0 := s.t0Ahead d, retractions := old.retractions, closed := old.closed }

/-- The committed epoch `d` ahead, or its projection (spec/04 R114). -/
def State.project (s : State) : Nat → Epoch
  | 0 => (s.epoch s.kerb.cur).getD Epoch.zero
  | d + 1 => match s.epoch (s.epochNo (d + 1)) with
    | some r => r
    | none => (s.clampAhead (d + 1) (s.project d)).1

/-! ### Notices, sources and what is sent -/

/-- A bit of an open core's clamp-notice word, with the count of notices; source 0x02 (spec/04 R132). -/
def State.notice (s : State) (core bit t : Nat) : State :=
  let p := s.physical core
  let k := s.core p
  let w := Tab.get k.rc 2 0
  let n := min (w / 2 ^ 32 % 2 ^ 16 + 1) 0xFFFF
  let w := (w % 2 ^ 32 ||| 2 ^ bit) + n * 2 ^ 32
  (s.setCore p { k with rc := Tab.set k.rc 2 w }).raise 0x02 t

/-- The core whose proposal of a field of the mask stands for an epoch. -/
def State.proposerOf (s : State) (e bit : Nat) : Option Nat := (s.standing e fun q => q.mask.testBit bit).map (·.core)

/-- A notice to each of a list of cores. -/
def State.noticeAll (s : State) (cores : List Nat) (bit t : Nat) : State := cores.foldl (fun s c => s.notice c bit t) s

/-- The notices of a commit (spec/04 R132): below the proposal, to the core that proposed the part; what C12 and C13 shed, to every core with an
entry in the epoch. -/
def State.commitNotices (s : State) (r : Epoch) (t : Nat) : State :=
  let bat := s.standing r.num fun q => q.mask.testBit 12
  let rect := (s.proposerOf r.num 13).toList
  let mine (c : Nat) : Bool := (outlets.any fun o => (entryOf r.outs o).proposer == c) || bat.any (·.core == c) || rect.contains c
  let all := [0, 1, 2].filter mine
  let s := outlets.foldl (fun s o =>
    let x := entryOf r.outs o
    if x.proposer < 3 ∧ x.clamps ≠ 0 then s.notice x.proposer o t else s) s
  let s := match bat with
    | none => s
    | some q => if r.siteClamps.testBit 10 ∨ r.pBat ≠ q.pBat then s.notice q.core 12 t else s
  let s := if r.siteClamps.testBit 12 then s.noticeAll all 13 t else s
  let s := if r.siteClamps.testBit 13 then s.noticeAll all 14 t else s
  if r.siteClamps.testBit 15 then s.noticeAll rect 15 t else s

/-- Channels that carry REF and SYNC: enabled, with a rectifier entry (spec/04 R126). -/
def State.rectChannels (s : State) : List Nat :=
  [0, 1, 2, 3].filter fun ch => s.flag canConfigEnable ch && s.nodeIds.any fun n =>
    s.get nodeEntryKind n == 5 && s.get nodeEntryChan n == ch

/-- The REF frames of an epoch (spec/04 R126, Table 4-3). -/
def State.sendRef (s : State) (r : Epoch) : State :=
  let b := max r.bus 0
  let total := s.cRect r.rectLim
  s.rectChannels.foldl (fun s ch =>
    let n := (s.rectOnline ch : Int)
    let per := if total ≤ 0 ∨ n = 0 then 0 else ceilDiv (b * s.rectTerm r.rectLim ch) (total * n * 100)
    let data := r.num % 65536 + ofSigned 16 per * 2 ^ 16 + (r.vbus / 100).toNat % 65536 * 2 ^ 32
      + (if r.retractions > 0 then 1 else 0) * 2 ^ 48 + ch * 2 ^ 56
    s.sendCan ch 2 false 0x100 8 data r.t0) s

/-- A committed entry sent to its heads and the control engine (spec/04 R120). -/
def State.sendEntry (s : State) (r : Epoch) : State :=
  let s := outlets.foldl (fun s o =>
    if s.get allocOutletIRated o = 0 then s
    else
      let x := entryOf r.outs o
      s.svcAvenues ((s.outletHead o).toList ++ s.stageHeads o) 3 (.entry o r.num [(r.t0 : Int), x.iMax, x.iMin, x.pMax, x.pMin])) s
  s.svcAvenues (s.stageHeads 12) 3 (.entry 12 r.num [(r.t0 : Int), r.pBat, r.vbus, 0, 0])

/-- l_eff and b_max shown, source 0x08 on a change (spec/04 Tables 4-6, 4-11). -/
def State.showLimits (s : State) (t : Nat) : State :=
  let l := s.lEff
  let r := (s.epoch s.kerb.cur).getD Epoch.zero
  let b := s.bMax r.rectLim
  if l = s.kerb.lastL ∧ b = s.kerb.lastB then s
  else
    let s := ((s.puti allocSiteLEff 0 l).puti allocSiteBMax 0 b).raise 0x08 t
    { s with kerb := { s.kerb with lastL := l, lastB := b } }

/-! ### Present limits and the window (spec/09 R255, spec/04 R131) -/

/-- The cap held for an outlet (12 the battery) that covers an epoch (spec/04 R122). -/
def State.capOf (s : State) (o : Nat) (e : Nat) : Option Cap := s.kerb.caps.find? fun c => c.outlet == o && notLater c.first e

/-- Whether a record's entry for an outlet stands: no retraction deleted it since it was committed (spec/04 R122). -/
def Epoch.holds (r : Epoch) (o : Nat) : Bool := !(r.gone.contains o)

/-- An entry limited by a cap's magnitudes (spec/04 R122). -/
def Cap.limit (c : Cap) (f : Force) : Force :=
  { f with iMax := min f.iMax c.iCap, iMin := max f.iMin (-c.iCap), pMax := min f.pMax c.pCap, pMin := max f.pMin (-c.pCap) }

/-- The bounds of an entry. -/
def Entry.force (e : Entry) : Force :=
  { iMax := e.iMax, iMin := e.iMin, pMax := e.pMax, pMin := e.pMin, vMax := e.vMax, prio := e.prio }

/-- Bounds limited by the cap that covers an epoch whose entry does not stand (spec/04 R122). -/
def State.capped (s : State) (o e : Nat) (f : Force) : Force :=
  if (s.epoch e).any (·.holds o) then f else match s.capOf o e with | none => f | some c => c.limit f

/-- Present limits of an outlet (spec/09 R255): the entry of the following epoch, or the one in force; with the caps of that epoch and of the
one in progress, and the override. -/
def State.presentLimits (s : State) (o : Nat) : Force :=
  let next := s.epochNo 1
  let f := match (s.epoch next).filter (·.holds o) with
    | some r => (entryOf r.outs o).force
    | none => s.kerb.force.getD o Force.zero
  let f := s.capped o s.kerb.cur (s.capped o next f)
  match s.kerb.override with
  | none => f
  | some v => f.meet (v.outs.getD o Force.zero)

/-- The four limits rewritten in every command page (spec/09 Table 9-8). -/
def State.writeLimits (s : State) : State :=
  outlets.foldl (fun s o =>
    let f := s.presentLimits o
    let b := pageBase o
    let s := s.poke (b + 0x108) 4 (max f.iMax 0).toNat
    let s := s.poke (b + 0x10C) 4 (max f.pMax 0).toNat
    let s := s.poke (b + 0x110) 4 (max f.vMax 0).toNat
    s.poke (b + 0x114) 4 (max (-f.iMin) 0).toNat) s

/-- The epoch and site-time window rewritten under the sequence rule (spec/04 R131, Table 4-10, spec/02 R47). -/
def State.writeWindow (s : State) (t : Nat) : State :=
  let w := 0x6000E000
  let r := (s.epoch s.kerb.cur).getD Epoch.zero
  let outs := outlets.map fun o => s.inForce o
  let bat := s.batInForce
  let bus := (outlets.map fun o => s.pC o (outs.getD o Force.zero).pMax).foldl (· + ·) bat
  let q := s.kerb.seq + 2
  let s := { s with kerb := { s.kerb with seq := q } }
  let s := (s.poke w 8 q).poke (w + 8) 8 t
  let s := ((s.poke (w + 0x10) 4 s.kerb.cur).poke (w + 0x14) 4 s.kerb.len).poke (w + 0x18) 8 s.kerb.t0
  let s := (s.poke (w + 0x20) 4 (ofSigned 32 s.lEff)).poke (w + 0x24) 4 (ofSigned 32 (s.bMax r.rectLim))
  let s := (s.poke (w + 0x28) 4 (ofSigned 32 (s.importOf bus))).poke (w + 0x2C) 4 (ofSigned 32 bus)
  let s := (s.poke (w + 0x30) 4 (ofSigned 32 bat)).poke (w + 0x34) 4 (s.get battSummaryDisLim 0)
  let s := (s.poke (w + 0x38) 4 (s.get battSummaryChgLim 0)).poke (w + 0x3C) 4 (if s.kerb.override.isSome then 1 else 0)
  outlets.foldl (fun s o =>
    let a := w + 0x40 + 0x10 * o
    let f := outs.getD o Force.zero
    let s := (s.poke a 4 (ofSigned 32 f.iMax)).poke (a + 4) 4 (ofSigned 32 f.pMax)
    (s.poke (a + 8) 4 (s.get ctlStateVOut o)).poke (a + 12) 4 (s.get ctlStateIOut o)) s

/-! ### Commit and retraction (spec/04 R112, R116, R120–R123, R480) -/

/-- The caps that still cover an epoch whose entry a retraction deleted; the others are lifted (spec/04 R122). -/
def State.liftCaps (s : State) : State :=
  let held (c : Cap) : Bool := s.kerb.epochs.any fun p =>
    decide (s.ahead p.2.num ≤ 8) && notLater c.first p.2.num && p.2.gone.contains c.outlet
  { s with kerb := { s.kerb with caps := s.kerb.caps.filter held } }

/-- An epoch committed or recommitted: its record replaced, its entry sent, caps lifted for it, notices and source 0x01; REF again after
its closing point. -/
def State.commit (s : State) (r : Epoch) (t : Nat) : State :=
  let s := (s.setEpoch { r with gone := [], stamp := t, state := 1 }).liftCaps
  let s := (s.sendEntry r).commitNotices r t
  let s := if r.closed then s.sendRef r else s
  s.raise 0x01 t

/-- A cap joined to those held: the lesser of the two for its outlet, from the earlier of the two first epochs (spec/04 R122). -/
def joinCap (l : List Cap) (c : Cap) : List Cap :=
  match l.find? fun x => x.outlet == c.outlet with
  | none => l ++ [c]
  | some x =>
    let m : Cap := { outlet := c.outlet, first := if notLater x.first c.first then x.first else c.first,
                     iCap := min x.iCap c.iCap, pCap := min x.pCap c.pCap }
    l.map fun y => if y.outlet = c.outlet then m else y

/-- A cap of zero for an outlet, 12 the battery. -/
def zeroCap (first o : Nat) : Cap := { outlet := o, first := first, iCap := 0, pCap := 0 }

/-- A retraction from the epoch `d` ahead (spec/04 R122): every record from it on is touched, the entries of the outlets it caps are deleted
there, the caps are held, a cap of zero stops a converter in RUN (spec/05 Table 5-4), the heads receive it; source 0x03 and notices. -/
def State.retract (s : State) (d : Nat) (caps : List Cap) (t : Nat) : State :=
  let caps := caps.foldl joinCap []
  let s := { s with kerb := { s.kerb with
    retractNo := (s.kerb.retractNo + 1) % 2 ^ 32,
    caps := caps.foldl joinCap s.kerb.caps,
    epochs := s.kerb.epochs.map fun (p : Nat × Epoch) =>
      if d ≤ s.ahead p.2.num ∧ s.ahead p.2.num < 2 ^ 31 then
        (p.1, { p.2 with retractions := min (p.2.retractions + 1) 255,
                         gone := p.2.gone ++ ((caps.map fun (c : Cap) => c.outlet).filter fun o => !(p.2.gone.contains o)) }) else p } }
  let heads := caps.flatMap fun (c : Cap) => (s.outletHead c.outlet).toList ++ s.stageHeads c.outlet
  let s := s.svcAvenues heads 0 (.retraction (s.epochNo d) (caps.map fun (c : Cap) => (c.outlet, c.iCap, c.pCap)))
  let s := caps.foldl (fun s c =>
    if c.outlet < 12 ∧ c.iCap = 0 ∧ s.convState c.outlet = 4 then s.controlledStop c.outlet t else s) s
  ((s.noticeAll [0, 1, 2] 17 t).raise 0x03 t).writeLimits

/-- Whether a value of an entry falls: an upper bound lowered or a lower bound raised. -/
def Entry.falls (new old : Entry) : Bool :=
  decide (new.iMax < old.iMax) || decide (new.pMax < old.pMax) || decide (new.vMax < old.vMax) || decide (old.iMin < new.iMin)
    || decide (old.pMin < new.pMin)

/-- The epochs ahead, re-clamped in order from `prev`; a record only where `keep` says so (spec/04 R121). -/
def State.reclampFrom (s : State) (keep : Nat → Bool) : Nat → Nat → Epoch → List (Nat × Epoch × List Nat)
  | 0, _, _ => []
  | n + 1, d, prev =>
    let r := s.clampAhead d prev
    (if keep d then [(d, r.1, r.2)] else []) ++ State.reclampFrom s keep n (d + 1) r.1

/-- Whether a value of an epoch falls: an outlet's, the battery's (its power or its magnitude), the bus reference (spec/04 R121). -/
def Epoch.falls (new old : Epoch) : Bool :=
  (outlets.any fun o => (entryOf new.outs o).falls (entryOf old.outs o)) || decide (new.pBat < old.pBat) || decide (mag new.pBat < mag old.pBat)
    || decide (new.vbus < old.vbus)

/-- The caps of a retraction from the epoch `first` ahead: the least magnitudes over the retracted epochs, for each outlet that falls and for the
battery (spec/04 R122). -/
def capsOf (s : State) (news : List (Nat × Epoch × List Nat)) (first : Nat) : List Cap :=
  let rs := news.filter fun p => decide (first ≤ p.1)
  let fell (o : Nat) : Bool := rs.any fun p => (s.epoch p.2.1.num).any fun old => (entryOf p.2.1.outs o).falls (entryOf old.outs o)
  let least (f : Epoch → Int) : Int := rs.foldl (fun (m : Int) p => min m (f p.2.1)) (2 ^ 32 - 1)
  let outs := (outlets.filter fell).map fun o =>
    ({ outlet := o, first := s.epochNo first, iCap := least fun r => max (entryOf r.outs o).iMax (-(entryOf r.outs o).iMin),
       pCap := least fun r => max (entryOf r.outs o).pMax (-(entryOf r.outs o).pMin) } : Cap)
  if rs.isEmpty then [] else outs ++ [{ outlet := 12, first := s.epochNo first, iCap := 0, pCap := least fun r => mag r.pBat }]

/-- Pre-transfer steps ended for want of site power (spec/04 R480): FC takes the converter to DISCHARGE with cause 0x13. -/
def State.endPreTransfer (s : State) (os : List Nat) (t : Nat) : State :=
  os.foldl (fun s o =>
    if s.convState o = 2 ∨ s.convState o = 3 then (s.faultRecord o 0x13 0 t true).toDischarge o 0x13 t else s) s

/-- The epochs a re-clamp at `t` covers, from the first unbegun one, re-clamped in order (spec/04 R121). `also` names a further epoch to
commit. -/
def State.reclampNews (s : State) (also : Option Nat) (t : Nat) : List (Nat × Epoch × List Nat) :=
  let keep (d : Nat) : Bool := (s.epoch (s.epochNo d)).isSome || also == some d
  let start := max 1 (s.firstAfter t)
  let last := ((List.range 10).filter fun d => keep d).getLast?.getD 0
  s.reclampFrom keep (last + 1 - start) start (s.project (start - 1))

/-- Pre-transfer steps ended until no epoch to be committed needs more of them ended, and the outlets concerned (spec/04 R480); each round ends
at least one of the twelve. -/
def State.dropReserves (s : State) (also : Option Nat) (t : Nat) : Nat → State × List Nat
  | 0 => (s, [])
  | n + 1 =>
    let news := s.reclampNews also t
    let os := outlets.filter fun o => news.any fun p => p.2.2.contains o
    if os.isEmpty then (s, [])
    else
      let r := (s.endPreTransfer os t).dropReserves also t n
      (r.1, os ++ r.2)

/-- Every committed epoch that has not begun re-clamped in order (spec/04 R121): pre-transfer steps ended where only they break the limit
(R480), a retraction first where any value falls, then the recommits. `also` names a further epoch to commit (a new proposal's), `shut` the
one whose composition closes with it, `causeCaps` the caps a cause sets. -/
def State.recompose (s : State) (also shut : Option Nat) (causeCaps : List Cap) (t : Nat) : State :=
  if s.kerb.begun = false then s.showLimits t
  else
    let start := max 1 (s.firstAfter t)
    let r := s.dropReserves also t 12
    let news := r.1.reclampNews also t
    let causes := causeCaps ++ r.2.map (zeroCap (s.epochNo start))
    let s := r.1
    let falls := news.find? fun p => (s.epoch p.2.1.num).any fun old => p.2.1.falls old
    let s1 := match falls, causes with
      | none, [] => s
      | some p, cs => s.retract (if cs.isEmpty then p.1 else min p.1 start) (capsOf s news (if cs.isEmpty then p.1 else min p.1 start) ++ cs) t
      | none, cs => s.retract start (capsOf s news start ++ cs) t
    let s2 := news.foldl (fun s p =>
      let old := s.epoch p.2.1.num
      let new := { p.2.1 with retractions := (old.getD p.2.1).retractions, closed := p.2.1.closed || shut == some p.1 }
      let same := shut != some p.1 && old.any fun o => decide (({ new with stamp := o.stamp, gone := [], state := o.state } : Epoch) = o)
      if same then s else s.commit new t) s1
    (s2.showLimits t).writeLimits

/-- The re-clamp of an input change or a proposal (spec/04 R121). -/
def State.reclamp (s : State) (also : Option Nat) (causeCaps : List Cap) (t : Nat) : State := s.recompose also none causeCaps t

/-- A retraction with caps of zero for a set of targets, 12 the battery, and the recommits that follow (spec/04 R119, R123). -/
def State.zeroCaps (s : State) (os : List Nat) (t : Nat) : State := s.reclamp none (os.map (zeroCap (s.epochNo (s.firstAfter t)))) t

/-- Every unbegun epoch retracted with caps of zero for every outlet and the battery; its t0 follows the configured length (spec/04 R108, spec/06
R183). -/
def State.retractAll (s : State) (t : Nat) : State :=
  if s.kerb.begun = false then s
  else
    let d := s.firstAfter t
    let s := s.retract d ((outlets ++ [12]).map (zeroCap (s.epochNo d))) t
    let move (p : Nat × Epoch) : Nat × Epoch :=
      if 1 ≤ s.ahead p.2.num ∧ s.ahead p.2.num ≤ 8 then (p.1, { p.2 with t0 := s.t0Ahead (s.ahead p.2.num) }) else p
    { s with kerb := { s.kerb with epochs := s.kerb.epochs.map move } }

/-! ### Fast path (spec/04 R124, R125) -/

/-- The values in force as entries, for shedding. -/
def State.forceEntries (s : State) : List Entry :=
  outlets.map fun o =>
    let f := s.inForce o
    { Entry.zero with iMax := f.iMax, iMin := f.iMin, pMax := f.pMax, pMin := f.pMin, vMax := f.vMax, prio := f.prio }

/-- B in force. -/
def State.busInForce (s : State) : Int := s.busOf s.forceEntries s.batInForce

/-- Whether L lies below I(k) of the epoch in progress (spec/04 R124 T1). -/
def State.availShort (s : State) : Bool := s.kerb.begun && decide (s.lEff < ((s.epoch s.kerb.cur).getD Epoch.zero).importW)

/-- Whether C_rect lies below B(k) of the epoch in progress (spec/04 R124 T3). -/
def State.rectShort (s : State) : Bool :=
  let r := (s.epoch s.kerb.cur).getD Epoch.zero
  s.kerb.begun && decide (s.cRect r.rectLim < r.bus)

/-- Whether the condition of T1 or T3 holds (spec/04 R124). -/
def State.fastDue (s : State) : Bool := s.availShort || s.rectShort

/-- The caps the fast path's computation sets, for the outlets and the battery it lowered (spec/04 R123). -/
def State.fastCaps (s : State) (old new : List Entry) (oldBat newBat : Int) (t : Nat) : List Cap :=
  let first := s.epochNo (s.firstAfter t)
  (outlets.filter fun o => entryOf old o ≠ entryOf new o).map (fun o =>
      let e := entryOf new o
      ({ outlet := o, first := first, iCap := max e.iMax (-e.iMin), pCap := max e.pMax (-e.pMin) } : Cap))
    ++ (if oldBat = newBat then [] else [{ outlet := 12, first := first, iCap := 0, pCap := mag newBat }])

/-- What is in force. -/
def State.inForceNow (s : State) : Prior :=
  { outs := s.kerb.force, bat := s.kerb.forceBat, vbus := s.kerb.forceVbus, rectLim := s.kerb.forceRect, override := s.kerb.override }

/-- What is in force changes at an instant: what was is kept for triggers stamped before it (spec/05 R139). -/
def State.keepPrior (s : State) (at_ : Nat) : State := { s with kerb := { s.kerb with prior := some s.inForceNow, forceAt := at_ } }

/-- Other values put in force. -/
def State.putForce (s : State) (f : Prior) : State :=
  { s with kerb := { s.kerb with force := f.outs, forceBat := f.bat, forceVbus := f.vbus, forceRect := f.rectLim, override := f.override } }

/-- The state with what was in force at a stamp (spec/05 R139): the values before the last change where the stamp lies before it. -/
def State.asOf (s : State) (t : Nat) : State :=
  match s.kerb.prior with
  | some f => if t < s.kerb.forceAt then s.putForce f else s
  | none => s

/-- The fast path engaged (spec/04 R125, R480): the values in force shed to the new B_max, set as the override; source 0x04, notices, a
retraction under R121. -/
def State.engage (s : State) (t : Nat) : State :=
  let r := (s.epoch s.kerb.cur).getD Epoch.zero
  let x := s.busInForce - s.bMax r.rectLim
  let o := s.shed 12 true (s.num battSummaryDisLim 0) s.forceEntries s.batInForce x
  let os := if o.2.2 > 0 then s.endReserves o.2.2 else []
  let caps := s.fastCaps s.forceEntries o.1 s.batInForce o.2.1 t ++ os.map (zeroCap (s.epochNo (s.firstAfter t)))
  let s := s.keepPrior t
  let s := { s with kerb := { s.kerb with override := some { outs := o.1.map Entry.force, pBat := o.2.1, stamp := t } } }
  let s := ((s.raise 0x04 t).noticeAll [0, 1, 2] 18 t).endPreTransfer os t
  ((s.reclamp none caps t).writeWindow t).writeLimits

/-- The fast path where T1 or T3 calls for it (spec/04 R124). -/
def State.fastPath (s : State) (t : Nat) : State := if s.fastDue = false then s else s.engage t

/-- Trigger T2, a feeder trip: unconditional while an epoch is in progress (spec/04 R124). -/
def State.fastTrip (s : State) (t : Nat) : State := if s.kerb.begun = false then s.showLimits t else s.engage t

/-! ### Bus support (spec/05 R143) -/

/-- Whether the battery converter must support the bus, C_rect taken with the rectifier limits in force. -/
def State.busNeedsBattery (s : State) : Bool :=
  s.flag allocSiteFeederTripped 0 || decide (s.cRect s.kerb.forceRect = 0)

/-- Bus support entered. -/
def State.enterBusSupport (s : State) : State := if s.busNeedsBattery then s.put ctlStateBusSupport 12 1 else s

/-! ### Meanings of the Kerb's events -/

/-- KERB_START (spec/04 R107): epoch 0 begins at the next multiple of the epoch length. -/
def execKerbStart (t : Nat) (s : State) : Res :=
  let s := s.at t
  if s.kerb.started then .next s
  else
    let len := s.newLen
    let t0 := if len = 0 then t else (t + len - 1) / len * len
    .next { s with kerb := { s.kerb with started := true, begun := false, cur := 0, t0 := t0, len := len } }

/-- The state of a record in the object alloc.epoch and the window of retained epochs (spec/04 R130): records older than seven ended epochs
are dropped. -/
def State.dropOld (s : State) : State :=
  let es := s.kerb.epochs.filter fun p => decide (s.ahead p.2.num ≤ 8) || decide (2 ^ 32 - 7 ≤ s.ahead p.2.num)
  { s with kerb := { s.kerb with epochs := es } }

/-- A carry-forward commit of an epoch that has none, before it begins (spec/04 R114); pre-transfer steps end first where only they break the
limit (R480). -/
def State.ensureEpoch (s : State) (d t : Nat) : State :=
  match s.epoch (s.epochNo d) with
  | some _ => s
  | none =>
    let prev := if d = 0 then (s.epoch ((s.kerb.cur + 2 ^ 32 - 1) % 2 ^ 32)).getD Epoch.zero else s.project (d - 1)
    let r := s.clampAhead d prev
    let s := s.endPreTransfer r.2 t
    s.commit { r.1 with closed := true } t

/-- The SYNC frames (spec/04 R126). -/
def State.sendSync (s : State) : State := s.rectChannels.foldl (fun s ch => s.sendCan ch 0 false 0x080 2 (s.kerb.cur % 65536) (s.kerb.t0 + s.kerb.len / 2)) s

/-- EPOCH_START (spec/04 R107, R126): due at t0 of the next epoch; the one in progress ends, its proposals leave the queue. -/
def execEpochStart (t : Nat) (s : State) : Res :=
  let s := s.at t
  let k := s.kerb
  let next := k.t0 + k.len
  if k.started = false ∨ (k.begun = false ∧ t < k.t0) ∨ (k.begun = true ∧ t < next) then .next s
  else
    let s := if k.begun then
        let s := match s.epoch k.cur with
          | none => s
          | some r => s.setEpoch { r with state := 3 }
        let len := s.newLen
        { s with kerb := { s.kerb with cur := (k.cur + 1) % 2 ^ 32, t0 := next, len := len,
                                       props := s.kerb.props.filter fun q => q.epoch != k.cur } }
      else { s with kerb := { s.kerb with begun := true } }
    let s := s.ensureEpoch 0 t
    let s := match s.epoch s.kerb.cur with
      | none => s
      | some r => s.setEpoch { r with state := 2 }
    .next ((s.dropOld).sendSync.showLimits t)

/-- The bounds the control engine takes at an activation instant (spec/04 R109, R122): each entry that stands, else the previous values limited
by the cap. -/
def State.takeForce (s : State) (r : Epoch) : State :=
  let cur := s.kerb.cur
  let fs := outlets.map fun o =>
    if r.holds o then (entryOf r.outs o).force
    else
      let f := s.kerb.force.getD o Force.zero
      match s.capOf o cur with | none => f | some c => c.limit f
  let bat := if r.holds 12 then r.pBat else match s.capOf 12 cur with
    | none => s.kerb.forceBat
    | some c => max (min s.kerb.forceBat c.pCap) (-c.pCap)
  let s := { s with kerb := { s.kerb with force := fs, forceBat := bat, forceVbus := if r.holds 12 then r.vbus else s.kerb.forceVbus,
                                          forceRect := if r.holds 12 then r.rectLim else s.kerb.forceRect } }
  let ran (o : Nat) : Entry :=
    let f := fs.getD o Force.zero
    if r.holds o then entryOf r.outs o
    else { entryOf r.outs o with iMax := f.iMax, iMin := f.iMin, pMax := f.pMax, pMin := f.pMin, vMax := f.vMax, origin := 2 }
  if r.gone.isEmpty then s else s.setEpoch { r with pBat := bat, outs := outlets.map ran }

/-- Whether the activation instant of the epoch in progress is due at `t` and not yet taken (spec/04 R109). -/
def State.activationDue (s : State) (t : Nat) : Bool :=
  s.kerb.begun && decide (s.kerb.t0 + 20000 ≤ t) && decide (s.kerb.activated ≠ s.kerb.cur + 1)

/-- The activation instant (spec/04 R109, R125, R131, spec/05 R143): t0 + 20 µs of the epoch in progress, once. -/
def State.activate (s : State) (t : Nat) : State :=
  if s.activationDue t = false then s
  else
    let k := s.kerb
    let s := s.keepPrior (k.t0 + 20000)
    let s := { s with kerb := { s.kerb with activated := k.cur + 1 } }
    let r := (s.epoch k.cur).getD { Epoch.zero with num := k.cur, t0 := k.t0, gone := List.range 13 }
    let s := s.takeForce r
    let s := match s.kerb.override with
      | none => s
      | some v => if v.stamp ≤ r.stamp then ({ s with kerb := { s.kerb with override := none } }).raise 0x05 t else s
    let s := if s.busNeedsBattery then s else s.put ctlStateBusSupport 12 0
    ((s.writeWindow t).writeLimits).raise 0x00 t

/-- ACTIVATION_INSTANT (spec/04 R109). -/
def execActivationInstant (t : Nat) (s : State) : Res := .next ((s.at t).activate t)

/-- V_NOW_REFRESH (spec/04 R131): v_now and i_now of the window. -/
def execVNowRefresh (t : Nat) (s : State) : Res := .next ((s.at t).writeWindow t)

/-- An outlet's carry-forward counted at the closing point of epoch `e` (spec/04 R115): the stale_epochs-th consecutive one makes it stale. -/
def State.countCarry (s : State) (o e t : Nat) : State :=
  let n := Tab.get s.kerb.carries o 0 + 1
  let s := { s with kerb := { s.kerb with carries := Tab.set s.kerb.carries o n } }
  if n = s.get allocConfigStaleEpochs 0 ∧ Tab.get s.kerb.stale o false = false then
    ({ s with kerb := { s.kerb with stale := Tab.set s.kerb.stale o true, staleAt := Tab.set s.kerb.staleAt o e } }).raise 0x07 t
  else s

/-- One closing point (spec/04 R110, R114, R115): fields without a standing proposal get carry-forward entries, stale outlets are marked,
the epoch is committed with its composition fixed and REF is sent. -/
def State.closeEpoch (s : State) (d t : Nat) : State :=
  let e := s.epochNo d
  let prev := s.project (d - 1)
  let open_ (bit : Nat) : Bool := (s.standing e fun q => q.mask.testBit bit).isNone
  let used := outlets.filter fun o => s.get allocOutletIRated o ≠ 0
  let carried := used.filter open_
  let fields := [12, 13].filter open_
  let cores := [0, 1, 2].filter fun c => (carried.any fun o => (entryOf prev.outs o).proposer == c) || fields.any fun b => s.proposerOf prev.num b == some c
  let s := (used.filter fun o => !(open_ o)).foldl (fun s o => { s with kerb := { s.kerb with carries := Tab.set s.kerb.carries o 0 } }) s
  let s := carried.foldl (fun s o => s.countCarry o e t) s
  let s := (s.noticeAll cores 16 t).recompose (some d) (some d) [] t
  if carried.isEmpty && fields.isEmpty then s else s.raise 0x06 t

/-- CLOSING_POINT (spec/04 R110): t0 − 1 ms of the earliest open epoch. -/
def execClosingPoint (t : Nat) (s : State) : Res :=
  let s := s.at t
  if s.kerb.begun = false then .next s
  else match ([1, 2, 3, 4, 5, 6, 7, 8].find? fun d =>
      !((s.epoch (s.epochNo d)).any (·.closed)) && decide (s.t0Ahead d ≤ t + 1000000)) with
  | none => .next s
  | some d => .next (s.closeEpoch d t)

/-- INPUT_CHANGE_RECLAMP (spec/04 R121, R122). -/
def execInputChangeReclamp (t : Nat) (s : State) : Res := .next ((s.at t).reclamp none [] t)

/-- AVAIL_FALLBACK (spec/04 R129): the host side has been absent for 60 s; avail takes the value of avail_fallback. -/
def execAvailFallback (t : Nat) (s : State) : Res :=
  let s := s.at t
  if s.cway.hostAbsent ∧ s.cway.hostAbsentSince + 60000000000 ≤ t then
    .next (((s.put allocSiteAvail 0 (s.get allocSiteAvailFallback 0)).touch 0x0201 0).showLimits t)
  else .next s

/-- FAST_PATH_ENGAGE (spec/04 R124, R125). -/
def execFastPathEngage (t : Nat) (s : State) : Res := .next ((s.at t).fastPath t)

/-! ### Proposals (spec/04 R111–R113, spec/02 R59) -/

/-- A two's complement field of `n` bytes at an offset of an object read as bytes. -/
def sField (raw off n : Nat) : Int := toSigned (8 * n) (raw / 2 ^ (8 * off) % 2 ^ (8 * n))
/-- An unsigned field of `n` bytes. -/
def uField (raw off n : Nat) : Nat := raw / 2 ^ (8 * off) % 2 ^ (8 * n)

/-- The proposal object as read from 416 bytes (spec/04 Table 4-1). -/
def parseProposal (raw epoch core stamp : Nat) : Proposal :=
  { epoch := epoch, core := core, stamp := stamp, mask := uField raw 0 2 % 2 ^ 14, assist := (uField raw 2 2).testBit 0,
    tag := uField raw 4 4, pBat := sField raw 8 4, vbus := (uField raw 12 4 : Nat), rectLim := [0, 1, 2, 3].map fun c => uField raw (16 + 2 * c) 2,
    outs := outlets.map fun o =>
      let b := 0x20 + 0x20 * o
      { iMax := sField raw b 4, iMin := sField raw (b + 4) 4, pMax := (uField raw (b + 8) 4 : Nat), vMax := (uField raw (b + 12) 4 : Nat),
        prio := uField raw (b + 16) 1 } }

/-- Whether a proposal object breaks a rule of Table 4-1: reserved bits zero, an unprovisioned outlet named, i_min above i_max, prio
above 7 (in a proposed outlet). -/
def State.malformed (s : State) (raw : Nat) (q : Proposal) : Bool :=
  uField raw 0 2 / 2 ^ 14 != 0 || uField raw 2 2 / 2 != 0 || uField raw 0x18 8 != 0
  || outlets.any fun o =>
      let x := q.outs.getD o { iMax := 0, iMin := 0, pMax := 0, vMax := 0, prio := 0 }
      uField raw (0x31 + 0x20 * o) 15 != 0
      || (q.mask.testBit o && (s.get allocOutletIRated o == 0 || decide (x.iMax < x.iMin) || decide (7 < x.prio)))

/-- Whether epoch `e` lies in the run-ahead window (spec/04 R111). -/
def State.inWindow (s : State) (e : Nat) : Bool := s.kerb.begun && decide (1 ≤ s.ahead e) && decide (s.ahead e ≤ 8)

/-- EPROP (spec/02 R59, spec/04 R111, R112): statuses 1, 2, 3 in that order; an accepted proposal ends the stale state of its outlets and
is clamped and committed at once. -/
def execEprop (t : Nat) (c : Fin 6) (rd ra rb : Fin 32) (s : State) : Res :=
  let s := s.at t
  .next (s.issueAlone c fun k =>
  let a := (k.reg rb).toNat
  let e := (k.reg ra).toNat % 2 ^ 32
  if k.kind ≠ 0 then s.exc c 0x01 0 (regWord 0x31 rd ra rb 0x100) k.pc t
  else if a % 8 ≠ 0 then s.exc c 0x05 0 (k.reg rb) k.pc t
  else if (isDataSram a && isDataSram (a + 415)) = false then s.exc c 0x03 0 (k.reg rb) k.pc t
  else
    let done (s : State) (st : Nat) : State := s.retire c ((s.core c).setReg rd (BitVec.ofNat 64 st)) (k.pc + 4)
    let d := s.ahead e
    let raw := s.loadBytes c a 416
    let q := parseProposal raw e (s.logical c) t
    if s.inWindow e = false ∨ s.t0Ahead d < t + 1000000 then done s 1
    else if s.malformed raw q then done s 2
    else if 64 ≤ s.kerb.props.length then done s 3
    else
      let fresh := outlets.filter fun o => q.mask.testBit o
      let s := { s with kerb := { s.kerb with
        props := s.kerb.props ++ [q],
        carries := fresh.foldl (fun l o => Tab.set l o 0) s.kerb.carries,
        stale := fresh.foldl (fun l o => Tab.set l o false) s.kerb.stale } }
      done (s.reclamp (some d) [] t) 0)

/-- ERETR (spec/02 R59, spec/04 R113). -/
def execEretr (t : Nat) (c : Fin 6) (rd ra : Fin 32) (s : State) : Res :=
  let s := s.at t
  .next (s.issueAlone c fun k =>
  let e := (k.reg ra).toNat % 2 ^ 32
  if k.kind ≠ 0 then s.exc c 0x01 0 (regWord 0x31 rd ra 0 0x200) k.pc t
  else
    let done (s : State) (st : Nat) : State := s.retire c ((s.core c).setReg rd (BitVec.ofNat 64 st)) (k.pc + 4)
    if s.inWindow e = false then done s 1
    else
      let me := s.logical c
      let gone (q : Proposal) : Bool := q.core == me && decide (s.ahead e ≤ s.ahead q.epoch) && decide (s.ahead q.epoch ≤ 8)
        && decide (t + 1000000 ≤ s.t0Ahead (s.ahead q.epoch))
      let s' := { s with kerb := { s.kerb with props := s.kerb.props.filter fun q => !gone q } }
      done (if s.kerb.props.any gone then s'.reclamp none [] t else s') 0)

/-- An epoch's record as the bits of Table 4-9. -/
def Epoch.image (r : Epoch) : Nat :=
  let f (pos w : Nat) (v : Int) : Nat := ofSigned w v * 2 ^ pos
  let head := f 0 32 r.num + f 32 8 r.state + f 40 8 r.retractions + f 64 64 r.t0 + f 128 32 r.lEff + f 160 32 r.bMax + f 192 32 r.importW
    + f 224 32 r.bus + f 256 32 r.pBat + f 288 32 r.vbus + f 320 16 r.siteClamps
  outlets.foldl (fun n o =>
    let x := entryOf r.outs o
    let b := 384 + 256 * o
    n + f b 32 x.iMax + f (b + 32) 32 x.iMin + f (b + 64) 32 x.pMax + f (b + 96) 32 x.pMin + f (b + 128) 32 x.vMax
      + f (b + 160) 3 x.origin + f (b + 163) 16 x.clamps + f (b + 192) 32 x.tag + f (b + 224) 8 x.proposer + f (b + 232) 3 x.prio) head

/-- Whether the Kerb holds or retains an epoch (spec/04 R130). -/
def State.retained (s : State) (e : Nat) : Option Epoch :=
  if s.kerb.begun ∧ (s.ahead e ≤ 8 ∨ 2 ^ 32 - 7 ≤ s.ahead e) then s.epoch e else none

/-- EQRY (spec/02 R59, spec/04 R130): the word of the record, or all ones. -/
def execEqry (c : Fin 6) (rd ra rb : Fin 32) (s : State) : Res :=
  .next (s.issue c fun k =>
    let e := (k.reg ra).toNat % 2 ^ 32
    let i := (k.reg rb).toNat
    let v : Word := match s.retained e with
      | none => BitVec.allOnes 64
      | some r => if 53 < i then BitVec.allOnes 64 else BitVec.ofNat 64 (r.image / 2 ^ (64 * i))
    s.retire c (k.setReg rd v) (k.pc + 4))

end Sys2Proof.Machine
end

