-- ==== Sys2Proof/Machine/Cool.lean ====
section
/-! DEFINITION. Cable cooling: the model, the derate current, findings, pump, fan and chiller (spec/06 R166–R174). -/

namespace Sys2Proof.Machine

/-- An outlet's cooling record. -/
def State.coolRec (s : State) (o : Nat) : CoolRec := Tab.get s.cool.outlets o CoolRec.reset

/-- An outlet's cooling record replaced. -/
def State.setCool (s : State) (o : Nat) (r : CoolRec) : State := { s with cool := { s.cool with outlets := Tab.set s.cool.outlets o r } }

/-! ### Fan and chiller (spec/06 R166–R168) -/

/-- The coolant slot while the pump is off (spec/06 R167): histories zero, output u_min, so it stays at u_max no longer. -/
def State.pumpOff (s : State) (o n : Nat) : State :=
  let s := ((s.setSlotHist n SlotHist.zero).puti ctlSlotULast n (s.slotClamps n).1).put ctlSlotState n 1
  s.setCool o { s.coolRec o with maxSince := none }

/-- One update of an outlet's coolant slot (spec/06 R166): reference t_set, measurement T_out, full scale 256 °C. -/
def State.coolantUpdate (s : State) (o n t : Nat) : State :=
  if s.pumpRuns o t = false then
    (s.pumpOff o n).drivePump o t
  else
    let fs : Int := 2560
    let m := s.geti coolStateTOut o
    let e := sat16 (perUnit (s.num coolOutletTSet o) fs - perUnit m fs)
    let c := s.slotClamps n
    let r := s.slotStep n e c.1 c.2
    let k := r.1.coolRec o
    let s := r.1.setCool o { k with maxSince := if r.2 = c.2 then some (k.maxSince.getD t) else none }
    s.drivePump o t

/-! ### The model (spec/06 R169–R171) -/

/-- Whether an outlet has a model (spec/06 R170). -/
def State.hasModel (s : State) (o : Nat) : Bool :=
  s.get coolOutletR20 o != 0 && s.get coolOutletCCond o != 0 && s.get coolOutletCCool o != 0

/-- The initial node temperature (spec/06 R171): the highest of the four readings present, 90 °C with none. -/
def CoolRec.initial (r : CoolRec) : Int :=
  match [r.tIn, r.tOut, r.tDcp, r.tDcn].filterMap id with
  | [] => 900
  | a :: l => l.foldl max a

/-- 0.1 °C as a node temperature, rounded half up. -/
def toNode (t : Int) : Int := roundHalf (t * 1024) 10

/-- A node temperature in 0.1 °C, rounded half up. -/
def ofNode (x : Int) : Int := roundHalf (x * 10) 1024

/-- One step of 1 ms (spec/06 R169), from the mean of i² as a sum of mA² over a count. The arithmetic is exact. -/
def State.modelStep (s : State) (o : Nat) (r : CoolRec) (n : Nodes) : Nodes :=
  let cnt : Int := max 1 r.i2n
  let i2 : Int := r.i2
  let g (f : Fld) : Int := s.num f o
  let tin10 : Int := (r.lastIn.getD r.tInit) * 1024
  let cond := 1024000000 + g coolOutletAlpha * (n.tc - 20480)
  let dtc := i2 * g coolOutletR20 * cond - cnt * g coolOutletGCw * (n.tc - n.tw) * 10 ^ 15
  let tc := roundHalf (n.tc * (10 ^ 21 * g coolOutletCCond * cnt) + dtc) (10 ^ 21 * g coolOutletCCond * cnt)
  let hasK := s.get coolOutletCK o ≠ 0
  let gf : Int := if r.found.testBit 0 then 0 else g coolOutletKFlow * min (r.flow.getD 0 : Int) 10000
  let kk := if hasK then g coolOutletGKw * ((n.kp - n.tw) + (n.kn - n.tw)) else 0
  let dtw := 1000 * (g coolOutletGCw * (n.tc - n.tw) + kk) - gf * (10 * n.tw - tin10)
  let tw := roundHalf (n.tw * (10 ^ 9 * g coolOutletCCool) + dtw) (10 ^ 9 * g coolOutletCCool)
  let contact (x : Int) : Int :=
    if hasK then
      let d := 10 ^ 15 * g coolOutletCK * cnt
      roundHalf (x * d + i2 * g coolOutletRK * 1024 - cnt * g coolOutletGKw * (x - n.tw) * 10 ^ 9) d
    else x
  { tc := tc, tw := tw, kp := contact n.kp, kn := contact n.kn }

/-- The conductor curve at a node temperature, as a fraction in 0.1 % over a denominator: linear between its points, the end values outside
(spec/06 R172). -/
def State.curve (s : State) (o : Nat) (tc : Int) : Int × Int :=
  let p (k : Nat) : Int × Int := (s.num (coolOutletCurveT k) o, s.num (coolOutletCurveF k) o)
  let x := tc * 10
  let pts := (List.range 8).map p
  if x ≤ (p 0).1 * 1024 then ((p 0).2, 1)
  else
    ((pts.zip (pts.drop 1)).foldl (fun (acc : Option (Int × Int)) q =>
      match acc with
      | some a => some a
      | none =>
        let a := q.1
        let b := q.2
        if x ≤ b.1 * 1024 ∧ a.1 < b.1 then some (a.2 * ((b.1 - a.1) * 1024) + (b.2 - a.2) * (x - a.1 * 1024), (b.1 - a.1) * 1024)
        else none) none).getD ((p 7).2, 1)

/-- f_k in thousandths over a denominator (spec/06 R172) of a temperature in 1/10,240 K: 1 below ck_start, 0 from ck_stop. -/
def State.contactFactor (s : State) (o : Nat) (y : Int) : Int × Int :=
  let a := s.num coolOutletCkStart o
  let b := s.num coolOutletCkStop o
  if y < a * 1024 then (1000, 1)
  else if b * 1024 ≤ y then (0, 1)
  else (1000 * (b * 1024 - y), (b - a) * 1024)

/-- The hotter contact in 1/10,240 K, which holds a measurement (0.1 °C) and a node (1/1,024 K) exactly (spec/06 R169, R172): measured or
modelled; at Tc when neither exists. -/
def State.contactTemp (s : State) (o : Nat) (r : CoolRec) (n : Nodes) : Int :=
  let meas := [r.tDcp, r.tDcn].filterMap (·.map fun v => v * 1024)
  let model := if s.get coolOutletCK o ≠ 0 then [n.kp * 10, n.kn * 10] else []
  match meas ++ model with
  | [] => n.tc * 10
  | a :: l => l.foldl max a

/-- The derate current and its limiter code (spec/06 R172, Table 6-1, Table 6-8): rounded down. -/
def State.derate (s : State) (o : Nat) : Int × Nat :=
  let r := s.coolRec o
  let rated := s.num allocOutletIRated o
  let fb := s.num coolOutletFallbackI o
  if r.found.testBit 4 then (0, 4)
  else if s.hasModel o = false then (fb, 3)
  else match r.nodes with
  | none => (fb, 3)
  | some n =>
    let c := s.curve o n.tc
    let k := s.contactFactor o (s.contactTemp o r n)
    let ic := c.1 * rated / (1000 * c.2)
    let ik := k.1 * rated / (1000 * k.2)
    let m := min ic ik
    if r.fallback ∧ fb < m then (fb, 3)
    else if ik < ic then (ik, 2)
    else if ic < rated then (ic, 1)
    else (min m (if r.fallback then fb else m), if r.fallback ∧ fb ≤ m then 3 else 0)

/-! ### Findings (spec/06 R174, Table 6-1) -/

/-- The flags byte's finding bits (spec/06 Table 6-8) follow the findings in force; fan and chiller bits stay. -/
def State.showFindings (s : State) (o : Nat) : State :=
  let r := s.coolRec o
  let f := s.get coolStateFlags o % 4 + (if r.found.testBit 0 then 4 else 0) + (if r.found.testBit 1 then 8 else 0)
    + (if r.found.testBit 2 || r.found.testBit 3 then 16 else 0) + (if s.hasModel o then 0 else 32)
  s.put coolStateFlags o f

/-- A finding begins: fallback in force, source 0x9B (spec/06 R174). -/
def State.beginFinding (s : State) (o bit t : Nat) : State :=
  let r := s.coolRec o
  if r.found.testBit bit then s
  else ((s.setCool o { r with found := withBit r.found bit true, fallback := true }).raise 0x9B t).showFindings o

/-- A finding ends: source 0x9B; the 60 s of R174 run from the last end. -/
def State.endFinding (s : State) (o bit t : Nat) : State :=
  let r := s.coolRec o
  if r.found.testBit bit then
    ((s.setCool o { r with found := withBit r.found bit false, clearAt := t }).raise 0x9B t).showFindings o
  else s

/-- The start of a condition, kept while it holds. -/
def sinceIf (b : Bool) (old : Option Nat) (t : Nat) : Option Nat := if b then some (old.getD t) else none

/-- A signed field written where a reading is present. -/
def State.putOpt (s : State) (f : Fld) (i : Nat) (v : Option Int) : State := v.elim s fun x => s.puti f i x

/-- The fan by T_in and the chiller request by T_out (spec/06 R168). -/
def State.switchFan (s : State) (o : Nat) (tIn tOut : Option Int) : State :=
  let f := s.get coolStateFlags o
  let fanOn := s.num coolOutletFanOn o * 10
  let f1 := tIn.elim f fun v => if fanOn < v then withBit f 0 true else if v < fanOn - 30 then withBit f 0 false else f
  let f2 := tOut.elim f1 fun v => if v < s.num coolOutletTSet o - 10 then withBit f1 1 false else f1
  if f2 = f then s else (s.put coolStateFlags o f2).sendOutletCmd o

/-- Readings of an outlet taken at `t`, none where absent or invalid (spec/06 R168, R174): starts and ends of conditions, fan and chiller. -/
def State.coolReadings (s : State) (o : Nat) (tIn tOut : Option Int) (flow : Option Nat) (dcp dcn : Option Int) (t : Nat) : State :=
  let r := s.coolRec o
  let low := s.pumpRuns o t && decide (flow.getD 0 < s.get coolOutletFlowMin o)
  let coolBad := tIn.isNone || tOut.isNone
  let contBad := dcp.isNone || dcn.isNone
  let r := { r with tIn := tIn, tOut := tOut, tDcp := dcp, tDcn := dcn, flow := flow,
                    lastIn := tIn.orElse fun _ => r.lastIn,
                    lowSince := sinceIf low r.lowSince t, coolSince := sinceIf coolBad r.coolSince t,
                    contSince := sinceIf contBad r.contSince t }
  let s := s.setCool o r
  let s := if low then s else s.endFinding o 0 t
  let s := if coolBad then s else s.endFinding o 2 t
  let s := if contBad then s else s.endFinding o 3 t
  s.switchFan o tIn tOut

/-- The readings of an outlet head's block (spec/06 "The coolant loop", spec/12 Table 12-8): shown in cool.state and taken. -/
def State.coolBlock (s : State) (o : Nat) (b : OutletBlk) (t : Nat) : State :=
  let ok (n : Nat) : Bool := !(b.invalid.getLsbD n)
  let opt (n : Nat) (v : BitVec 16) : Option Int := if ok n then some v.toInt else none
  let tIn := opt 5 b.tIn
  let tOut := opt 6 b.tOut
  let flow := if ok 7 then some b.flow.toNat else none
  let dcp := opt 8 b.tDcp
  let dcn := opt 9 b.tDcn
  let s := ((s.putOpt coolStateTIn o tIn).putOpt coolStateTOut o tOut).putOpt coolStateTDcp o dcp
  let s := (s.putOpt coolStateTDcn o dcn).putOpt coolStateFlow o (flow.map Int.ofNat)
  let s := (s.setCool o { s.coolRec o with lastBlock := some t }).endFinding o 4 t
  s.coolReadings o tIn tOut flow dcp dcn t

/-- No block of an outlet's head: every reading is absent (spec/06 Table 6-1). -/
def State.coolAbsent (s : State) (o t : Nat) : State := s.coolReadings o none none none none none t

/-- i_der published to the Kerb (spec/06 R173). -/
def State.publishDerate (s : State) (o : Nat) : State :=
  let d := s.derate o
  (s.puti coolStateIDer o d.1).put coolStateLimiter o d.2

/-- The nodes where the model has none yet, from the readings at hand (spec/06 R171); a T_in received before does not count (R169). -/
def State.initNodes (s : State) (o : Nat) : State :=
  let r := s.coolRec o
  if s.hasModel o = false ∨ r.nodes.isSome then s
  else
    let t := r.initial
    let x := toNode t
    s.setCool o { r with nodes := some { tc := x, tw := x, kp := x, kn := x }, tInit := t, lastIn := none }

/-! ### Meanings -/

/-- CABLE_MODEL_STEP (spec/06 R169, R172, R173): every 1 ms the model advances and i_der is computed; a fall of more than 10 % of i_rated
is published at once. -/
def execCableModelStep (t : Nat) (o : Fin 12) (s : State) : Res :=
  let s := (s.at t).initNodes o
  let r := s.coolRec o
  let s := match r.nodes with
    | none => s
    | some n =>
      if s.hasModel o = false then s
      else
        let n' := s.modelStep o r n
        let pred := 20 * n'.tw - 1024 * r.lastIn.getD r.tInit
        let dis := match r.tOut with
          | none => r.offSince.isSome
          | some v => decide (s.num coolOutletModelTol o * 10240 < mag (1024 * v - pred))
        let s := s.setCool o { r with nodes := some n', offSince := sinceIf dis r.offSince t }
        let s := if dis then s else s.endFinding o 1 t
        let s := (s.puti coolStateTcPred o (ofNode n'.tc)).puti coolStateTwPred o (ofNode n'.tw)
        (s.puti coolStateTkpPred o (ofNode n'.kp)).puti coolStateTknPred o (ofNode n'.kn)
  let s := s.showFindings o
  let d := s.derate o
  let s := s.setCool o { s.coolRec o with computed := d.1 }
  if s.num allocOutletIRated o < 10 * (s.num coolStateIDer o - d.1) then .next (s.publishDerate o) else .next s

/-- DERATE_PUBLISH (spec/06 R173): at 5 ms modulo 10 ms; a fall always, a rise once it is 2 % of i_rated. -/
def execDeratePublish (t : Nat) (o : Fin 12) (s : State) : Res :=
  let s := s.at t
  let d := s.derate o
  let p := s.num coolStateIDer o
  if t % 10000000 ≠ 5000000 then .next s
  else if d.1 < p ∨ (p < d.1 ∧ s.num allocOutletIRated o ≤ 50 * (d.1 - p)) then .next (s.publishDerate o)
  else .next s

/-- POST_RUN_END (spec/06 R167): the pump stops, the coolant slot's histories are held at zero and its output at u_min. -/
def execPostRunEnd (t : Nat) (o : Fin 12) (s : State) : Res :=
  let s := s.at t
  if s.pumpRuns o t then .next s
  else
    let s := match s.slotOf o 2 with
      | none => s
      | some n => s.pumpOff o n
    .next (s.drivePump o t)

/-- CHILL_HOLD (spec/06 R168): the slot's output has stayed at u_max for chill_hold seconds. -/
def execChillHold (t : Nat) (o : Fin 12) (s : State) : Res :=
  let s := s.at t
  match (s.coolRec o).maxSince with
  | none => .next s
  | some t0 =>
    if t < t0 + s.get coolOutletChillHold o * 1000000000 then .next s
    else .next ((s.put coolStateFlags o (withBit (s.get coolStateFlags o) 1 true)).sendOutletCmd o)

/-- The stamp of the last block of an outlet's head, or, before the first, of the start of the field side. -/
def State.heardAt (s : State) (o : Nat) : Option Nat :=
  (s.coolRec o).lastBlock.orElse fun _ => if (s.outletHead o).isSome then some s.sup.goodAt else none

/-- Since when a reading is absent: as blocks showed, or, with no block since, since the last one. -/
def State.absentSince (s : State) (o : Nat) (since : Option Nat) : Option Nat := since.orElse fun _ => s.heardAt o

/-- A finding of Table 6-1 whose condition has held for `ns`. -/
def State.timedFinding (s : State) (o bit ns t : Nat) (since : Option Nat) : State :=
  match since with
  | none => s
  | some t0 => if t0 + ns ≤ t then s.beginFinding o bit t else s

/-- LOSS_OF_FLOW (spec/06 Table 6-1): 500 ms below flow_min while the pump is commanded. -/
def execLossOfFlow (t : Nat) (o : Fin 12) (s : State) : Res :=
  let s := s.at t
  .next (s.timedFinding o 0 500000000 t (if s.pumpRuns o t then s.absentSince o (s.coolRec o).lowSince else none))

/-- MODEL_DISAGREES (spec/06 Table 6-1): beyond model_tol for 10 s. -/
def execModelDisagrees (t : Nat) (o : Fin 12) (s : State) : Res :=
  let s := s.at t
  .next (s.timedFinding o 1 10000000000 t (s.coolRec o).offSince)

/-- COOLANT_SENSOR_LOST (spec/06 Table 6-1): T_in or T_out gone for 1 s. -/
def execCoolantSensorLost (t : Nat) (o : Fin 12) (s : State) : Res :=
  let s := s.at t
  .next (s.timedFinding o 2 1000000000 t (s.absentSince o (s.coolRec o).coolSince))

/-- CONTACT_SENSOR_LOST (spec/06 Table 6-1): T_dcp or T_dcn gone for 1 s. -/
def execContactSensorLost (t : Nat) (o : Fin 12) (s : State) : Res :=
  let s := s.at t
  .next (s.timedFinding o 3 1000000000 t (s.absentSince o (s.coolRec o).contSince))

/-- OUTLET_HEAD_LOST (spec/06 Table 6-1): no sample block for 100 ms: i_der := 0, and the converter stops under spec/05 R149. -/
def execOutletHeadLost (t : Nat) (o : Fin 12) (s : State) : Res :=
  let s := s.at t
  match s.heardAt o with
  | none => .next s
  | some t0 =>
    if t < t0 + 100000000 ∨ (s.coolRec o).found.testBit 4 then .next s
    else
      let s := (s.beginFinding o 4 t).publishDerate o
      if s.convActive o || s.convState o == 1 then .next (s.immediateStop o 0x08 0 t) else .next s

/-- FALLBACK_END (spec/06 R174): no finding has held for 60 s. -/
def execFallbackEnd (t : Nat) (o : Fin 12) (s : State) : Res :=
  let s := s.at t
  let r := s.coolRec o
  if r.fallback ∧ r.found = 0 ∧ r.clearAt + 60000000000 ≤ t then .next (s.setCool o { r with fallback := false }) else .next s

/-! ### Writes of cool.outlet (spec/06 R170, R171, R185) -/

/-- Whether a node's step is too large for its heat capacity (spec/06 R170): 1 ms × conductances ÷ capacity above 0.5; conductances in
mW/K. -/
def stepTooLarge (g c : Int) : Bool := decide (c * 500 * 1000 < g)

/-- The status of a write of cool.outlet[o] that leads to `s'` (spec/06 R170, R185, Table 6-7, Table 6-6). -/
def coolWriteStatus (s s' : State) (o : Nat) : Nat :=
  let g (f : Fld) : Int := s'.num f o
  let bad := s'.hasModel o && (stepTooLarge (g coolOutletGCw) (g coolOutletCCond)
    || stepTooLarge (g coolOutletGCw + (if s'.get coolOutletCK o = 0 then 0 else 2 * g coolOutletGKw) + 100 * g coolOutletKFlow)
        (g coolOutletCCool)
    || (s'.get coolOutletCK o != 0 && stepTooLarge (g coolOutletGKw) (g coolOutletCK)))
  let order := (List.range 7).all fun k => decide (s'.get (coolOutletCurveT k) o ≤ s'.get (coolOutletCurveT (k + 1)) o)
  let range := (List.range 8).all fun k => decide (s'.get (coolOutletCurveF k) o ≤ 1000)
  if bad ∨ order = false ∨ range = false ∨ s'.get coolOutletCkStop o ≤ s'.get coolOutletCkStart o then 6
  else if s.convIdle o = false then 7
  else 0

/-- What an accepted write of cool.outlet[o] does beside its fields (spec/06 R171): new nodes are initialised, existing ones kept. -/
def State.coolWritten (s0 s : State) (o : Nat) : State :=
  if s.hasModel o = false then s.setCool o { s.coolRec o with nodes := none }
  else
    let s := s.initNodes o
    if s0.hasModel o && s0.get coolOutletCK o == 0 && s.get coolOutletCK o != 0 then
      let r := s.coolRec o
      let x := toNode r.initial
      s.setCool o { r with nodes := r.nodes.map fun n => { n with kp := x, kn := x } }
    else s

end Sys2Proof.Machine
end

