-- ==== Sys2Proof/Machine/Inject.lean ====
section
/-! DEFINITION. Injections: the conditions they stand under, their ends (spec/18 R475–R477). -/

namespace Sys2Proof.Machine

/-- Whether an avenue carries an outlet head or the incomer head. -/
def State.metrologyAvenue (s : State) (a : Nat) : Bool :=
  (List.range (s.get avenueStateN a)).any fun p => s.get headRecordType (8 * a + p) == 2 || s.get headRecordType (8 * a + p) == 3

/-- The heads that serve a converter: its stage heads and its outlet head. -/
def State.convHeads (s : State) (c : Nat) : List Nat := s.stageHeads c ++ (s.outletHead c).toList

/-- Whether an avenue holds a head of a converter. -/
def State.avenueServes (s : State) (a c : Nat) : Bool := (s.convHeads c).any fun h => h / 8 == a

/-- Whether a CAN channel carries something for a converter: safe data of its outlet, BMS frames of the battery converter's strings. -/
def State.channelServes (s : State) (ch c : Nat) : Bool :=
  if c < 12 then s.get safetyOutletCanCh c == ch
  else (List.range (s.get battConfigNStr 0)).any fun i => s.get battStringCanCh i == ch

/-- The conditions of R475 for the content of slot `j`, in mode `m`, with the converters that `idle` says are OFF or HELD. -/
def State.injectHolds (s : State) (m : Nat) (idle : Nat → Bool) (j : Nat) : Bool :=
  let med := s.get injectMedium j
  let tgt := s.get injectTarget j
  let a := (tgt - 4) / 2
  let all := List.range 13
  let inMode := m == 5 || (m == 1 && med != 3 && all.all fun c =>
    idle c || !((med == 1 && s.avenueServes a c) || (med == 5 && s.channelServes tgt c)))
  let battery := med != 1 || idle 12 || !(s.avenueServes a 12)
  let session := med != 1 || !(s.metrologyAvenue a) || s.bill.sessions.isEmpty
  let incomer := med != 1 || m == 5 || !((List.range (s.get avenueStateN a)).any fun p => s.get headRecordType (8 * a + p) == 3)
  inMode && battery && session && incomer

/-- The end of slot `j`'s injection with an end state (spec/18 R476): event 0x10; a CAN channel held because of it is released (R477). -/
def State.endInjection (s : State) (j st t : Nat) : State :=
  let s := ((s.put injectState j st).put injectEnd j t).event 0x10 j st 0 t
  let ch := s.get injectTarget j
  if s.get injectMedium j = 5 ∧ (s.canChan ch).injHeld ∧ s.get canStateState ch = 4 then s.canJoin ch else s

/-- The injections whose conditions a change breaks are ended before it takes effect (spec/18 R476). -/
def State.endBroken (s : State) (m : Nat) (idle : Nat → Bool) (t : Nat) : State :=
  (List.range 8).foldl (fun s j =>
    if s.get injectState j = 1 ∧ s.injectHolds m idle j = false then s.endInjection j 5 t else s) s

/-- The injections whose conditions do not hold as things stand are ended. -/
def State.endUnfit (s : State) (t : Nat) : State := s.endBroken (s.get modeStateMode 0) s.convIdle t

/-- Injections that the host side applies end with its reset (spec/18 R474): those on host lanes, the Causeway and host messages. -/
def State.endHostInjections (s : State) (t : Nat) : State :=
  (List.range 8).foldl (fun s j =>
    if s.get injectState j = 1 ∧ 2 ≤ s.get injectMedium j ∧ s.get injectMedium j ≤ 4 then s.endInjection j 5 t else s) s

end Sys2Proof.Machine
end

