-- ==== Sys2Proof/Machine/CtlRows.lean ====
section
/-! DEFINITION. Meanings of the control engine's events (spec/05 R134–R165). -/

namespace Sys2Proof.Machine

/-! ### Deadlines (spec/05 R152) -/

/-- The settle time of FC (spec/05 R152). -/
def settleFc : Nat := 100

/-- The last of some stamped things at or before a stamp. -/
def lastAt {α : Type} (l : List (Nat × α)) (t : Nat) : Option α := (l.find? fun p => decide (p.1 ≤ t)).map (·.2)

/-- The last voltage sample at or before a stamp. -/
def State.voltsAt (s : State) (c t : Nat) : Int := (lastAt (s.conv c).volts t).getD (s.vOut c)

/-- Pre-start checks incomplete after 20 ms (spec/05 Table 5-4): OFF with cause 0x02. -/
def State.precheckEnd (s : State) (c t : Nat) : State :=
  let s := s.faultRecord c 0x02 0 t true
  (s.setConv c { s.conv c with cause := 2 }).gatesOff c 0 t

/-- The half-way point of a ramp (spec/05 R153). -/
def State.rampHalf (s : State) (c : Nat) (r : Ramp) : Nat :=
  r.tStart + ((r.vTarget - r.vStart) * 1000000 / max 1 (s.num ctlOutletSsRate c) / 2).toNat

/-- The half-way check of a ramp (spec/05 R153): no rise with the current at its bound aborts it, with 1, 5 and 30 s of backoff and then
HELD after DISCHARGE. -/
def State.halfCheck (s : State) (c : Nat) (r : Ramp) (t : Nat) : State :=
  let tHalf := s.rampHalf c r
  let k := s.conv c
  let s := s.setConv c { k with ramp := some { r with checked := true } }
  if s.voltsAt c tHalf * 10 ≤ r.vTarget ∧ (lastAt k.updates tHalf).getD false = true then
    let n := min 15 (s.get ctlStateAborts c + 1)
    let s := (s.faultRecord c 0x05 0 t true).put ctlStateAborts c n
    if n ≤ 3 then
      let wait := if n = 1 then 1000000000 else if n = 2 then 5000000000 else 30000000000
      (s.gatesOff c 7 t).put ctlStateBackoffUntil c (t + wait)
    else s.toDischarge c 0x05 t
  else s

/-- The end of a backoff (spec/05 Table 5-4): to PRECHECK if the session still requests energising, else OFF. -/
def State.backoffEnd (s : State) (c t : Nat) : State :=
  if (s.page c).request = 1 then (s.enterState c 1 t).sendCommands c else s.enterState c 0 t

/-- The end of PRECHARGE's time (spec/05 Table 5-4): |v_out − target| above pc_tol is cause 0x04. -/
def State.prechargeEnd (s : State) (c t : Nat) : State :=
  let tEnd := (s.conv c).since + s.get ctlOutletPcTimeout c * 1000000
  if s.num ctlOutletPcTol c < mag (s.voltsAt c tEnd - (s.page c).vPc) then (s.faultRecord c 0x04 0 t true).toDischarge c 0x04 t else s

/-- The end of the 1 s of discharge after gates off at `t0` (spec/05 R162): 60 V or more is HELD with cause 0x0B. -/
def State.dischargeEnd (s : State) (c t0 t : Nat) : State :=
  if s.voltsAt c (t0 + 1000000000) < 60000 then s else (s.faultRecord c 0x0B 0 t true).toHeld c 0x0B t

/-- When a controlled stop must have reached i_open (spec/05 R161). -/
def State.stopDue (s : State) (c t0 : Nat) (i0 : Int) : Nat :=
  t0 + (ceilDiv (i0 * 1000) (max 1 (s.num ctlOutletStopRate c))).toNat + 10000000

/-- The half-way check where its point lies before `t` and it has not been made. -/
def State.halfDue (s : State) (c t : Nat) : State :=
  match (s.conv c).ramp with
  | none => s
  | some r =>
    if r.checked = false ∧ c < 12 ∧ (s.convState c = 2 ∨ s.convState c = 3) ∧ s.rampHalf c r < t then s.halfCheck c r (s.rampHalf c r) else s

/-- A converter's deadline that lies before `t` takes effect before what is stamped `t` is taken (spec/03 R99, spec/05 R152). -/
def State.ctlDue (s : State) (c t : Nat) : State :=
  let s := s.halfDue c t
  let k := s.conv c
  match s.convState c with
  | 1 => if k.since + 20000000 < t then s.precheckEnd c (k.since + 20000000) else s
  | 3 =>
    let e := k.since + s.get ctlOutletPcTimeout c * 1000000
    if e < t then s.prechargeEnd c e else s
  | 5 => match k.stopFrom with
    | some (t0, i0) => if s.stopDue c t0 i0 < t then s.immediateStop c 0x12 0 (s.stopDue c t0 i0) else s
    | none => s
  | 6 => match k.gatesOff with
    | some t0 => if t0 + 1000000000 < t then s.dischargeEnd c t0 (t0 + 1000000000) else s
    | none => s
  | 7 => if s.get ctlStateBackoffUntil c < t then s.backoffEnd c (s.get ctlStateBackoffUntil c) else s
  | _ => s

/-! ### Slot updates -/

/-- A slot counts one trigger block; whether it falls due with divisor `d` (spec/05 R138). -/
def State.countTrigger (s : State) (n d : Nat) : State × Bool :=
  let h := s.slotHist n
  let a := h.arrivals + 1
  if d ≤ a then (s.setSlotHist n { h with arrivals := 0 }, true) else (s.setSlotHist n { h with arrivals := a }, false)

/-- A slot whose trigger block has arrived, where it falls due. -/
def State.dueSlot (s : State) (arrived : Bool) (slot : Option Nat) (d : Nat → Nat) : State × Option Nat :=
  match slot with
  | none => (s, none)
  | some n =>
    if arrived = false then (s, none)
    else
      let r := s.countTrigger n (d n)
      (r.1, if r.2 then some n else none)

/-- Whether the battery converter is wanted: the mode lets it run, and power is asked of it or the bus needs it (notes/assumptions/15.md). -/
def State.batteryWanted (s : State) : Bool :=
  [1, 2, 3, 5].contains (s.get modeStateMode 0) && (s.batInForce != 0 || s.flag ctlStateBusSupport 12)

/-- The battery converter's checks of PRECHECK: no shorted switch counted, every stage head heard and its self-test passed (spec/05 R151). -/
def State.batteryChecked (s : State) : Bool :=
  let k := s.conv 12
  let heads := s.stageHeads 12
  !heads.isEmpty && !(k.stages.any fun e => e.2.mids.any fun m => decide (m.2 ≠ 0))
    && (heads.zipIdx.all fun p => !(Tab.get k.stages p.2 StageRec.zero).mids.isEmpty)
    && heads.all fun h => (Tab.get s.safe.sa.v3 h View3.reset).st.testBit 2 && (Tab.get s.safe.sb.v3 h View3.reset).st.testBit 2

/-- The battery converter along Table 5-4 (spec/05 R150): no session asks for it, no cable, precharge or contactor stands between PRECHECK and
RUN, and its discharge ends on a v_out of 0 (notes/assumptions/15.md). -/
def State.batteryRun (s : State) (t : Nat) : State :=
  match s.convState 12 with
  | 0 =>
    if s.batteryWanted = false ∨ s.stageHeads 12 = [] then s
    else if s.lacksSlot 12 then s.put ctlStateIncomplete 12 1
    else
      let s := (s.endBroken (s.get modeStateMode 0) (fun c => c != 12 && s.convIdle c) t).put ctlStateIncomplete 12 0
      (s.enterState 12 1 t).sendCommands 12
  | 1 =>
    if s.batteryWanted = false then (s.setConv 12 { s.conv 12 with cause := 0 }).gatesOff 12 0 t
    else if s.batteryChecked then (((s.enterState 12 2 t).enterState 12 3 t).enterState 12 4 t).sendCommands 12
    else s
  | 4 => if s.batteryWanted then s else s.controlledStop 12 t
  | 6 => if (s.conv 12).cause = 9 ∨ (s.conv 12).heat then s.toHeld 12 9 t else s.enterState 12 0 t
  | _ => s

/-- i_out from the phase samples, mA (notes/assumptions/18.md). -/
def State.takeCurrent (s : State) (c : Nat) : State :=
  let k := s.conv c
  let i := (s.phasesOf c).foldl (fun (a : Int) p => a + (Tab.get k.phases p PhaseRec.zero).i.getD 0) 0
  s.puti ctlStateIOut c (100 * i)

/-- The voltage slot's effective clamps: its own within the current bounds in force over i_fs (spec/05 R142). -/
def State.cascadeClamps (s : State) (c n : Nat) : Int × Int :=
  let k := s.slotClamps n
  let fs := max 1 (s.iFs c)
  let hi := min k.2 (s.geti ctlStateIHi c * 2 ^ 47 / fs)
  let lo := max k.1 (ceilDiv (s.geti ctlStateILo c * 2 ^ 47) fs)
  (min lo hi, hi)

/-- The update of a voltage or bus-voltage slot that fell due: its output is the cascade's current reference (spec/05 R136 kind 0, R143). -/
def State.voltUpdate (s : State) (c t : Nat) (slot : Option Nat) : State :=
  match slot with
  | none => s
  | some n =>
    let rs := if c < 12 then s.softStart c t else (s, s.kerb.forceVbus)
    let s := rs.1.put ctlStateVRef c rs.2.toNat
    let v := if c < 12 then s.vOut c else (Tab.get (s.conv 12).stages 0 StageRec.zero).vIn
    let e := sat16 (perUnit rs.2 (s.vFs c) - perUnit v (s.vFs c))
    let b := s.cascadeClamps c n
    let r := s.slotStep n e b.1 b.2
    r.1.setConv c { r.1.conv c with cascade := toQ15 r.2 * s.iFs c / 32768 }

/-- The current reference: the cascade's output, or power-follow's for the battery converter, within the bounds and a controlled stop's
ramp (spec/05 R143, R147, R161). -/
def State.currentRef (s : State) (c t : Nat) : Int :=
  let k := s.conv c
  let want := if c < 12 ∨ s.flag ctlStateBusSupport 12 then k.cascade else s.batInForce * 1000000 / max 1 k.vB
  let x := limitTo (s.geti ctlStateILo c) (s.geti ctlStateIHi c) want
  match s.stopLimit c t with
  | none => x
  | some m => limitTo (-m) m x

/-- The findings of a current slot's update and the phases they remove (spec/05 R158, R159): each phase with its own record, a lost stage head
with one. -/
def State.sharePhaseFaults (s : State) (c t : Nat) : State :=
  let j := s.judgePhases c
  let s := j.1
  let heads := (s.stageHeads c).zipIdx.filter fun p => decide (2 ≤ (Tab.get (s.conv c).stages p.2 StageRec.zero).absent)
  let lost := heads.filter fun h => j.2.2.any fun p => p / 12 == h.2
  let alone := j.2.2.filter fun p => !(lost.any fun h => h.2 == p / 12)
  s.failPhases c (j.2.1 ++ j.2.2) (j.2.1.map (fun p => (0x06, p)) ++ lost.map (fun h => (0x0F, h.1)) ++ alone.map fun p => (0x07, p)) t

/-- The update of a current slot that fell due and of the phase-share unit (spec/05 R155–R159). -/
def State.currUpdate (s : State) (c t : Nat) (slot : Option Nat) : State :=
  match slot with
  | none => s
  | some n =>
    let i := s.currentRef c t
    let atHi := decide (s.geti ctlStateIHi c ≤ i)
    let k := s.conv c
    let s := s.setConv c { k with iRef := i, updates := ((t, atHi) :: k.updates).take 4 }
    let e := sat16 (perUnit i (s.iFs c) - perUnit (s.geti ctlStateIOut c) (s.iFs c))
    let b := s.slotClamps n
    let r := s.slotStep n e b.1 b.2
    let s := r.1.setConv c { r.1.conv c with duty := r.2 }
    ((s.trimPhases c).sharePhases c t).sendCommands c

/-- One update of a converter whose gates may switch (spec/05 R138, R142, R147, R159): the phase-share unit's findings first, so that the bounds
are those of the phases left, then bounds, voltage slot, current slot; a controlled stop ends below i_open (R161). -/
def State.converterUpdate (s : State) (c t : Nat) (volt curr : Option Nat) : State :=
  let s := if curr.isSome then s.sharePhaseFaults c t else s
  if s.convActive c = false then s
  else
    let s := if volt.isSome || curr.isSome then s.formBounds c t else s
    let s := (s.voltUpdate c t volt).currUpdate c t curr
    if s.convState c = 5 ∧ mag (s.geti ctlStateIOut c) < s.num ctlOutletIOpen c * 1000 then s.toDischarge c 0 t else s

/-- What an uncorrectable block in a slot's state brings (spec/05 R165): the slot faults; where it fell due, its previous output is resent and
nothing is computed in this update. -/
def State.faultDue (s : State) (n c t : Nat) (due : Option Nat) : State × Option Nat :=
  let s := s.slotFault n t
  if due = some n then ((if s.get ctlSlotRole n = 2 then s.sendOutletCmd c else s.sendCommands c), none) else (s, due)

/-- SLOT_UPDATE (spec/05 R134–R149, R155–R159, R165): trigger blocks of a converter have arrived, stamped `t`: the last of its stage heads',
its outlet head's, or both (R138); the block of region 37 that held the named slot's state was as `blk.res` says. The values in force are those
at the stamp (R139). -/
def execSlotUpdate (t : Nat) (conv : Fin 13) (blk : SlotArrival) (slotBad : Option (Fin 64)) (s : State) : Res :=
  let c := conv.val
  let s := (((s.at t).activate t).ctlDue c t).countBlock 37 blk.res ((slotBad.elim 0 fun n => n.val) * 256) t
  let now := s.inForceNow
  let s := s.asOf t
  let s := (s.takeCurrent c).reportPhases c
  let s := if c = 12 then s.enterBusSupport.batteryRun t else s
  let idle := c == 12 && !s.flag ctlStateBusSupport 12
  let s := if idle then (s.slotOf 12 3).elim s fun n => s.put ctlSlotState n 1 else s
  let active := s.convActive c
  let rv := s.dueSlot (active && !idle && (if c < 12 then blk.outlet else blk.stages)) (s.slotOf c (voltRole c)) (s.get ctlSlotDivisor)
  let rc := rv.1.dueSlot (active && blk.stages) (rv.1.slotOf c 0) (rv.1.get ctlSlotDivisor)
  let rk := rc.1.dueSlot (blk.outlet && decide (c < 12)) (rc.1.slotOf c 2) fun _ => coolantDivisor (rc.1.triggerGen c 2)
  let bad := if BlockResult.lost blk.res then slotBad else none
  let r : State × Option Nat × Option Nat × Option Nat := match bad with
    | none => (rk.1, rv.2, rc.2, rk.2)
    | some n =>
      let due := [rv.2, rc.2, rk.2].contains (some n.val)
      let f := rk.1.faultDue n c t (if due then some n.val else none)
      let keep (x : Option Nat) : Option Nat := if x = some n.val then none else x
      (f.1, keep rv.2, keep rc.2, keep rk.2)
  let s := r.2.2.2.elim r.1 fun n => r.1.coolantUpdate c n t
  let s := if s.convActive c then s.converterUpdate c t r.2.1 r.2.2.1 else s
  .next (s.putForce now)

/-- PHASE_SHED (spec/05 R156): the mean has stayed below shed_lo for shed_hold; never below n_min phases. -/
def execPhaseShed (t : Nat) (conv : Fin 13) (s : State) : Res :=
  let c := conv.val
  let s := s.at t
  let k := s.conv c
  if c = 12 ∨ s.convActive c = false then .next s
  else match k.lowSince, s.phaseToShed c with
  | some t0, some p =>
    if t < t0 + s.get ctlOutletShedHold c * 1000 ∨ (s.inUse c).length ≤ s.get ctlOutletNMin c then .next s
    else
      let s := s.setConv c { k with shed := withBit k.shed p true, lowSince := some t }
      .next ((s.reportPhases c).sendCommands c)
  | _, _ => .next s

/-! ### Deadline rows (spec/05 R152: settle of 100 ns) -/

/-- PRECHECK_TIMEOUT (spec/05 Table 5-4): checks incomplete after 20 ms. -/
def execPrecheckTimeout (t : Nat) (conv : Fin 13) (s : State) : Res :=
  let c := conv.val
  let s := s.at t
  if s.convState c ≠ 1 ∨ t < (s.conv c).since + 20000000 + settleFc then .next s else .next (s.precheckEnd c t)

/-- SOFT_START_HALF_CHECK (spec/05 R153): at t_half + settle. -/
def execSoftStartHalfCheck (t : Nat) (conv : Fin 13) (s : State) : Res :=
  let c := conv.val
  let s := s.at t
  match (s.conv c).ramp with
  | none => .next s
  | some r =>
    if r.checked ∨ c = 12 ∨ (s.convState c ≠ 2 ∧ s.convState c ≠ 3) ∨ t < s.rampHalf c r + settleFc then .next s
    else .next (s.halfCheck c r t)

/-- BACKOFF_ELAPSED (spec/05 Table 5-4). -/
def execBackoffElapsed (t : Nat) (conv : Fin 13) (s : State) : Res :=
  let c := conv.val
  let s := s.at t
  if s.convState c ≠ 7 ∨ t < s.get ctlStateBackoffUntil c + settleFc then .next s else .next (s.backoffEnd c t)

/-- PRECHARGE_TIMEOUT (spec/05 Table 5-4). -/
def execPrechargeTimeout (t : Nat) (conv : Fin 13) (s : State) : Res :=
  let c := conv.val
  let s := s.at t
  if s.convState c ≠ 3 ∨ t < (s.conv c).since + s.get ctlOutletPcTimeout c * 1000000 + settleFc then .next s else .next (s.prechargeEnd c t)

/-- CONTROLLED_STOP_TIMEOUT (spec/05 R161): i_open not reached in |i at start| ÷ stop_rate + 10 ms; immediate, cause 0x12. -/
def execControlledStopTimeout (t : Nat) (conv : Fin 13) (s : State) : Res :=
  let c := conv.val
  let s := s.at t
  match (s.conv c).stopFrom with
  | none => .next s
  | some (t0, i0) =>
    if s.convState c ≠ 5 ∨ t < s.stopDue c t0 i0 + settleFc then .next s else .next (s.immediateStop c 0x12 0 t)

/-- DISCHARGE_TIMEOUT (spec/05 R162). -/
def execDischargeTimeout (t : Nat) (conv : Fin 13) (s : State) : Res :=
  let c := conv.val
  let s := s.at t
  match (s.conv c).gatesOff with
  | none => .next s
  | some t0 => if s.convState c ≠ 6 ∨ t < t0 + 1000000000 + settleFc then .next s else .next (s.dischargeEnd c t0 t)

/-- A temperature of a stage head taken (spec/05 R160): k_hs, derate, and the shutdown at 110 °C: at its onset in
any state, and where a converter is on its way or energised, since a cause that persists meets it again (R150). -/
def State.takeHeatsink (s : State) (c j : Nat) (temp : Int) (head t : Nat) : State :=
  let k := s.conv c
  let r := Tab.get k.stages j StageRec.zero
  let derate := decide (950 ≤ temp) || (r.derate && decide (900 ≤ temp))
  let kk := if 950 ≤ temp then max 0 (1250 - temp) else if derate then r.k else 300
  let s := s.setConv c { k with stages := Tab.set k.stages j { r with temp := temp, derate := derate, k := kk } }
  let hot := (Tab.get (s.conv c).stages 0 StageRec.zero).temp
  let hot := if (s.stageHeads c).length < 2 then hot else max hot (Tab.get (s.conv c).stages 1 StageRec.zero).temp
  let s := (s.puti ctlStateHsTempMax c hot).reportPhases c
  if 1100 ≤ temp ∧ (r.temp < 1100 ∨ s.convIdle c = false ∧ s.convState c ≠ 6 ∧ s.convState c ≠ 7) then s.immediateStop c 0x09 head t
  else if s.convState c = 8 ∧ s.get ctlStateHeldCause c = 0x09 ∧ hot < 900 then s.enterState c 0 t
  else s

/-- The converters a head serves as a stage head, with its place in each. -/
def State.stageOf (s : State) (h : Nat) : List (Nat × Nat) :=
  (List.range 13).flatMap fun c => ((s.stageHeads c).zipIdx.filter fun p => p.1 == h).map fun p => (c, p.2)

/-- The outlets a head serves as outlet head. -/
def State.outletOf (s : State) (h : Nat) : List Nat := outlets.filter fun o => s.outletHead o == some h

/-- HEATSINK_TEMP_TIMEOUT (spec/05 R160): a temperature absent for 100 ms is taken as 105 °C. -/
def execHeatsinkTempTimeout (t : Nat) (head : Fin 48) (s : State) : Res :=
  let h := head.val
  let s := s.at t
  .next ((s.stageOf h).foldl (fun s p =>
    let r := Tab.get (s.conv p.1).stages p.2 StageRec.zero
    if r.at_ + 100000000 ≤ t then
      let k := s.conv p.1
      let s := s.setConv p.1 { k with stages := Tab.set k.stages p.2 { r with derate := true, k := 200, temp := 1050 } }
      s.reportPhases p.1
    else s) s)

/-! ### Blocks of the control engine (spec/05 R149, R151, R160, R162) -/

/-- A stage head's block taken for one of its converters (spec/05 R151, R158, R160). -/
def State.stageBlock (s : State) (c j h : Nat) (b : StageBlk) (t : Nat) : State :=
  let k := s.conv c
  let r := Tab.get k.stages j StageRec.zero
  let n := s.headPhases h
  let vIn : Int := 100 * b.vIn.toNat
  let sample (q : Nat) : Option Int := if b.invalid.getLsbD q then none else (b.iPh[q]?).map BitVec.toInt
  let mids := if b.midpoint && b.gatesOff then
      (List.range n).foldl (fun (m : Tab Nat) q =>
        let high := !(b.invalid.getLsbD q) && decide (vIn < 2 * 100 * ((b.iPh[q]?).elim 0 fun x => (x.toNat : Int)))
        Tab.set m q (if high then Tab.get m q 0 + 1 else 0)) r.mids
    else r.mids
  let phases := if b.midpoint then k.phases
    else (List.range n).foldl (fun (ph : Tab PhaseRec) q =>
      Tab.set ph (q + 12 * j) { Tab.get ph (q + 12 * j) PhaseRec.zero with i := sample q }) k.phases
  let r := { r with vIn := vIn, absent := 0, mids := mids, gatesOff := b.gatesOff, at_ := if b.tempInv then r.at_ else t }
  let s := s.setConv c { k with stages := Tab.set k.stages j r, phases := phases }
  let s := if b.tempInv then
      let k := s.conv c
      (s.setConv c { k with stages := Tab.set k.stages j { Tab.get k.stages j StageRec.zero with derate := true, k := 200, temp := 1050 } }).reportPhases c
    else s.takeHeatsink c j b.hsTemp.toInt h t
  match if s.convState c = 1 then (List.range n).find? fun q => decide (3 ≤ Tab.get mids q 0) else none with
  | none => s
  | some q =>
    let s := (s.putBit ctlStateFailedMap c (q + 12 * j) true).put ctlStateDegraded c 1
    let s := (s.faultRecord c 0x01 (q + 12 * j) t true).reportSlots t
    ((s.setConv c { s.conv c with gatesOff := some t, discharge := true }).toHeld c 0x01 t).reportPhases c |>.sendCommands c

/-- An absent or lost block of a stage head: its phases have no sample, and two in a row are a head lost (spec/05 R158, R159). -/
def State.stageAbsent (s : State) (c j h : Nat) : State :=
  let k := s.conv c
  let r := Tab.get k.stages j StageRec.zero
  let phases := (List.range (s.headPhases h)).foldl (fun (ph : Tab PhaseRec) q =>
    Tab.set ph (q + 12 * j) { Tab.get ph (q + 12 * j) PhaseRec.zero with i := none }) k.phases
  s.setConv c { k with stages := Tab.set k.stages j { r with absent := r.absent + 1 }, phases := phases }

/-- PRECHECK is complete (spec/05 R151): no shorted switch counted, insulation clear, the outlet permitted; to CABLECHECK. -/
def State.precheckDone (s : State) (c t : Nat) : State :=
  let s := s.ctlDue c t
  let k := s.conv c
  let shorts := k.stages.any fun e => e.2.mids.any fun m => decide (m.2 ≠ 0)
  let seen := !(s.stageHeads c).isEmpty && (s.stageHeads c).zipIdx.all fun p => !(Tab.get k.stages p.2 StageRec.zero).mids.isEmpty
  if s.convState c = 1 ∧ c < 12 ∧ shorts = false ∧ seen ∧ k.insulation % 4 = 1 ∧ s.bit safetyStatePermit 0 c then
    (s.enterState c 2 t).sendCommands c
  else s

/-- Whether v_out is an over-voltage (spec/05 R149). -/
def State.overVoltage (s : State) (c : Nat) (v : Int) : Bool :=
  s.convActive c && decide (min (s.vCap c) (s.vRated c) + 1000 * s.num ctlOutletOvMargin c < v)

/-- A voltage sample of an outlet (spec/05 R149, R162): none where absent, invalid or beyond ±1.05 × v_fs. -/
def State.takeVolts (s : State) (o : Nat) (v : Option Int) (t : Nat) : State :=
  let s := s.ctlDue o t
  let k := s.conv o
  match v.filter fun x => decide (mag x * 100 ≤ 105 * s.vFs o) with
  | none =>
    let n := k.vBad + 1
    let s := s.setConv o { k with vBad := n, ov := 0 }
    if n = 2 then s.immediateStop o 0x08 0 t else s
  | some x =>
    let tooHigh := s.overVoltage o x
    let n := if tooHigh then k.ov + 1 else 0
    let s := s.setConv o { k with vBad := 0, ov := n, volts := ((t, x) :: k.volts).take 4 }
    let s := s.puti ctlStateVOut o x
    let s := s.setStatus o 14 (s.convState o == 3 && decide (mag (x - (s.page o).vPc) ≤ s.num ctlOutletPcTol o)) t
    if n = 2 then s.immediateStop o 0x10 0 t
    else if s.convState o = 6 ∧ x < 60000 then
      let k := s.conv o
      if k.cause = 9 ∨ k.heat ∨ (k.cause = 5 ∧ 3 < s.get ctlStateAborts o) then s.toHeld o (if k.cause = 5 ∧ !k.heat then 5 else 9) t
      else s.enterState o 0 t
    else if (s.conv o).discharge ∧ x < 20000 ∧ s.convState o ≠ 1 then (s.setConv o { s.conv o with discharge := false }).sendCommands o
    else s

/-- The cable check of CABLECHECK (spec/05 R151): a fault of the insulation monitor fails it (cause 0x03); clear at the test voltage passes
it (status [10]). -/
def State.cableCheck (s : State) (o t : Nat) : State :=
  let k := s.conv o
  if s.convState o ≠ 2 then s
  else if k.insulation.testBit 1 then (s.faultRecord o 0x03 0 t true).toDischarge o 0x03 t
  else if k.insulation % 8 = 1 ∧ k.ramp.any (fun r => decide (r.vTarget ≤ s.vOut o)) then s.setStatus o 10 true t
  else s

end Sys2Proof.Machine
end

