-- ==== Sys2Proof/Machine/Nodes.lean ====
section
/-! DEFINITION. The node table: states, admission, digests, reconciliation (spec/13 R348–R354, R371). -/

namespace Sys2Proof.Machine

/-- The settle time of FN (spec/13). -/
def settleFn : Nat := 1000

/-- What FN remembers of an entry. -/
def State.nodeRec (s : State) (n : Nat) : NodeRec := Tab.get s.net.nodes n NodeRec.reset
/-- The same replaced. -/
def State.setNodeRec (s : State) (n : Nat) (r : NodeRec) : State := { s with net := { s.net with nodes := Tab.set s.net.nodes n r } }

/-- The medium of a kind (spec/13 Tables 13-1, 13-13): 0 none, 1 avenue, 2 CAN, 3 mesh. -/
def kindMedium (k : Nat) : Nat := if k = 0 ∨ 8 < k then 0 else if k ≤ 4 then 1 else if k ≤ 7 then 2 else 3

/-- The head an entry of kind 1–4 names. -/
def State.entryHead (s : State) (n : Nat) : Nat := 8 * s.get nodeEntryChan n + s.get nodeEntryAddr n

/-- node.summary's counts, over the entries in use (spec/13 Table 13-14). -/
def State.countNodes (s : State) : State :=
  let ids := s.nodeIds
  (List.range 5).foldl (fun s st => s.put (nodeSummaryCount st) 0 (ids.filter fun n => s.get nodeEntryState n == st).length) s

/-- The slot whose injection covers a node's medium and target (spec/18 Table 18-5). -/
def State.nodeSlot (s : State) (n t : Nat) : Option Nat :=
  let k := s.get nodeEntryKind n
  if k ≤ 4 then s.provokedAvenue (s.get nodeEntryChan n) t
  else if k ≤ 7 then s.provoked 5 (s.get nodeEntryChan n) t
  else s.provoked 6 n t

/-! ### Reconciliation (spec/13 R352, R354, R357, R371) -/

/-- An entry's blob: its length and bytes. -/
def State.blobOf (s : State) (n : Nat) : Nat × Nat :=
  let len := s.get nodeEntryBlobLen n
  let all := (List.range 8).foldl (fun v p => v + s.get nodeBlobPart (8 * n + p) * 2 ^ (2048 * p)) 0
  (len, all % 2 ^ (8 * len))

/-- A command frame to a CAN node (spec/13 Table 13-4): code, length field. -/
def State.canCommand (s : State) (n code len : Nat) : State :=
  s.sendCan (s.get nodeEntryChan n) 2 false (0x680 + s.get nodeEntryAddr n) 8 (code + len * 2 ^ 16) 0

/-- An application message to a mesh node (spec/13 R371): type, flags 0, sequence number, body. -/
def State.sendMesh (s : State) (n typ len data : Nat) : State :=
  let r := s.nodeRec n
  let s := s.setNodeRec n { r with seq := (r.seq + 1) % 2 ^ 16 }
  s.emitMesh n (.mesh n typ (len + 4) (typ + r.seq * 2 ^ 16 + data % 2 ^ (8 * len) * 2 ^ 32)) s.now

/-- A CONFIG message from an offset of the blob (spec/13 Table 13-9). -/
def State.meshConfigFrom (s : State) (n off : Nat) : State :=
  let b := s.blobOf n
  let k := min 200 (b.1 - off)
  s.sendMesh n 2 (k + 4) (off + b.1 * 2 ^ 16 + b.2 / 2 ^ (8 * off) % 2 ^ (8 * k) * 2 ^ 32)

/-- The first identifier of a node's CONFIG segments. -/
def segId (addr : Nat) : Nat := 0x1F000000 + addr * 65536

/-- Segments of 8 bytes of an entry's blob. -/
def State.segments8 (s : State) (n : Nat) : Nat := ((s.blobOf n).1 + 7) / 8

/-- A blob sent to its node: CONFIG in the mailbox; CONFIG_START and the segments on CAN, CONFIG_END following the last; the first CONFIG on
the mesh. -/
def State.sendBlob (s : State) (n try_ : Nat) : State :=
  let b := s.blobOf n
  if b.1 = 0 then s
  else match kindMedium (s.get nodeEntryKind n) with
  | 1 => s.sendMail (s.entryHead n) 4 b.1 b.2
  | 2 =>
    let s := (s.setNodeRec n { s.nodeRec n with xfer := try_ }).canCommand n 4 b.1
    (List.range (s.segments8 n)).foldl (fun s j =>
      s.queueCan (s.get nodeEntryChan n)
        { cls := 2, slot := none, ide := true, fdf := false, brs := false, id := segId (s.get nodeEntryAddr n) + j, dlc := 8,
          data := b.2 / 2 ^ (64 * j) % 2 ^ 64, retries := s.get canConfigRetries (s.get nodeEntryChan n), attempts := 0, deadline := 0,
          node := n }) s
  | 3 => (s.setNodeRec n { s.nodeRec n with xfer := try_ }).meshConfigFrom n 0
  | _ => s

/-- A node asked for a heartbeat with its digest (spec/13 Tables 13-4, 13-9). -/
def State.askDigest (s : State) (n : Nat) : State :=
  match kindMedium (s.get nodeEntryKind n) with
  | 2 => s.canCommand n 3 0
  | 3 => s.sendMesh n 5 0 0
  | _ => s

/-! ### AUX requests on their way (spec/13 Table 13-3, R366, R372) -/

/-- Whether the mesh head is ACTIVE: else application frames are held (spec/13 Table 13-3). -/
def State.meshHeadActive (s : State) : Bool := s.nodeIds.any fun n => s.get nodeEntryKind n == 4 && s.get nodeEntryState n == 2

/-- Whether a request waits for a route repair. -/
def Mesh.isWaiting (m : Mesh) (r : MeshReq) : Bool := m.waiting.any fun w => w.1 == r.core * 8 + r.slot

/-- The oldest request that waits for no route. -/
def Mesh.front (m : Mesh) : Option MeshReq := m.reqs.find? fun r => !(m.isWaiting r)

/-- The AUX message of a request sent to its node. -/
def State.sendAux (s : State) (r : MeshReq) : State :=
  let s := s.sendMesh r.node 4 r.len r.data
  { s with net := { s.net with mesh := { s.net.mesh with txOut := true } } }

/-- The oldest request that may go is sent, once none is out and while the mesh head is ACTIVE. -/
def State.meshNext (s : State) : State :=
  if s.net.mesh.txOut ∨ s.meshHeadActive = false then s else s.net.mesh.front.elim s s.sendAux

/-! ### Transitions (spec/13 R350, Tables 13-2, 13-3) -/

/-- What leaving ACTIVE costs (spec/13 Table 13-3): a stage head's phases fail with cause 0x0F, an outlet head's outlet is retracted with caps
of zero, a rectifier's may engage the fast path (spec/04 R124 T3). -/
def State.loseNode (s : State) (n t : Nat) : State :=
  let h := s.entryHead n
  match s.get nodeEntryKind n with
  | 1 => (s.stageOf h).foldl (fun s (p : Nat × Nat) =>
      let ps := (s.phasesOf p.1).filter fun q => q / 12 == p.2 && !(s.bit ctlStateFailedMap p.1 q)
      s.failPhases p.1 ps (if ps.isEmpty then [] else [(0x0F, h)]) t) s
  | 2 => s.zeroCaps (s.outletOf h) t
  | 5 => if s.rectShort then s.engage t else s.showLimits t
  | _ => s

/-- A node moves to a state with a cause (0 none), stamped: source 0x95, event 0x03, the summary, what it gains or loses; a mesh node that
is LOST has left (source 0x91), and the held frames go once a mesh head is ACTIVE. -/
def State.moveNode (s : State) (n st cause t : Nat) : State :=
  let old := s.get nodeEntryState n
  let slot := s.nodeSlot n t
  let s := ((s.put nodeEntryState n st).put nodeEntryCause n cause).put nodeEntrySince n t
  let s := if st = 4 then s.inc nodeEntryLosses n 1 else s
  let s := if slot.isSome then s.inc injStatsNodes 0 1 else s
  let s := (s.eventOn slot 0x03 n (st + cause * 256) 0 t).raise 0x95 t
  let s := s.countNodes
  let s := s.setNodeRec n { s.nodeRec n with graceAt := none }
  let s := s.putBit nodeEntryFlags n 0 false
  let s := if old = 2 ∧ st ≠ 2 then s.loseNode n t else s
  let s := if st = 4 ∧ s.get nodeEntryKind n = 8 then s.raise 0x91 t else s
  if st = 2 then
    let s := if s.get nodeEntryKind n = 4 then s.meshNext else s
    let s := if s.get nodeEntryKind n = 5 then (s.canCommand n 2 0).showLimits t else s
    (List.range 13).foldl (fun s c => if s.get nodeEntryKind n = 1 then s.reportPhases c else s) s
  else if st = 3 ∧ s.flag nodeEntryAutoReconcile n then s.sendBlob n 1
  else s

/-- Whether the digest last reported is the one expected, over the reported length (spec/13 R349). -/
def State.digestOk (s : State) (n : Nat) : Bool :=
  let m := if kindMedium (s.get nodeEntryKind n) = 2 then 2 ^ 64 else 2 ^ 512
  s.get nodeEntryReported n % m == s.get nodeEntryExpected n % m

/-- Admission (spec/13 R351): none while it cannot be judged, else whether it passes. A head is admitted once its record has come with the
entry's kind and it is placed in every schedule; a mesh node once it has completed bootstrap. -/
def State.admits (s : State) (n : Nat) : Option Bool :=
  let k := s.get nodeEntryKind n
  match kindMedium k with
  | 1 =>
    let h := s.entryHead n
    let typ := s.get headRecordType h
    if typ = 0 then none
    else if typ ≠ k then some false
    else if (s.avn (h / 8)).placed.testBit (h % 8) then some true else none
  | 2 => some true
  | 3 => if (s.nodeRec n).booted then some true else none
  | _ => none

/-- A node in JOINING judged by its admission and its last digest; a head of another type is a stranger at the entry's address (flag [1],
notes/assumptions/22.md). -/
def State.judgeJoining (s : State) (n t : Nat) : State :=
  match s.admits n with
  | none => s
  | some false => (s.moveNode n 3 3 t).putBit nodeEntryFlags n 1 true
  | some true => if s.digestOk n then s.moveNode n 2 0 t else (s.moveNode n 3 2 t).raise 0x96 t

/-- A heartbeat's digest and state (spec/13 R350): the moves of Table 13-2. -/
def State.heartbeatMoves (s : State) (n t : Nat) : State :=
  let r := s.nodeRec n
  let ok := s.digestOk n
  let s := if ok then s else s.inc nodeEntryMismatches n 1
  match s.get nodeEntryState n with
  | 2 =>
    if ok then (s.setNodeRec n { r with graceAt := none }).putBit nodeEntryFlags n 0 false
    else if r.graceAt.isSome then s
    else (s.moveNode n 3 2 t).raise 0x96 t
  | 3 => if ok then (s.moveNode n 1 0 t).judgeJoining n t else s
  | 1 => s.judgeJoining n t
  | _ =>
    if s.get nodeEntryKind n = 5 ∧ r.trip = 1 then s
    else ((s.setNodeRec n { r with trip := 0 }).moveNode n 1 0 t).judgeJoining n t

/-- The expected digest of an entry has changed (spec/13 R352, Table 13-2): an ACTIVE node has reconcile_s to report it and gets a blob that is
not empty; one in CUL-DE-SAC whose last report matches goes to JOINING. -/
def State.expectedChanged (s : State) (n t : Nat) : State :=
  match s.get nodeEntryState n with
  | 2 =>
    let s := s.setNodeRec n { s.nodeRec n with graceAt := some (t + s.get nodeSummaryReconcileS 0 * 1000000000) }
    (s.putBit nodeEntryFlags n 0 true).sendBlob n 1
  | 3 => if s.digestOk n then s.moveNode n 1 0 t else s
  | _ => s

/-- The period of a node's heartbeat, ns (spec/13 Table 13-1). -/
def State.heartbeatNs (s : State) (n : Nat) : Nat :=
  if kindMedium (s.get nodeEntryKind n) = 3 then s.get meshConfigHbMesh 0 * 1000000000 else 1000000000

/-- diag.head and diag.node refreshed (spec/18 R472). -/
def State.refreshDiag (s : State) (n uptime : Nat) (lateHb : Bool) : State :=
  let r := s.nodeRec n
  let s := (s.inc diagNodeHeard n 1).inc diagNodeLateHb n (if lateHb then 1 else 0)
  let s := ((s.inc diagNodeRetries n r.retries).put diagNodeHops n r.hops).put diagNodeLqi n r.lqi
  let s := s.setNodeRec n { r with retries := 0 }
  if kindMedium (s.get nodeEntryKind n) ≠ 1 then s
  else
    let h := s.entryHead n
    let c := Tab.get s.lanes.heads h HeadCount.reset
    let s := ((s.inc diagHeadAbsentSlots h c.absent).inc diagHeadUncorrBlocks h c.bad).inc diagHeadLate h c.late
    let s := ((s.inc diagHeadMbDropped h c.dropped).put diagHeadUptime h uptime).put diagHeadFwVer h (s.get headRecordFwVer h)
    let s := s.puti diagHeadTempMax h (max c.temp (s.geti diagHeadTempMax h))
    { s with lanes := { s.lanes with heads := Tab.set s.lanes.heads h { HeadCount.reset with seq := c.seq } } }

/-! ### Silences and graces by their deadlines (spec/13 R350, R352, R353, spec/03 R99) -/

/-- The silence after which an entry's node is LOST, ns (spec/13 R353). -/
def State.silenceNs (s : State) (n : Nat) : Nat := if kindMedium (s.get nodeEntryKind n) = 3 then 3 * s.heartbeatNs n else 3000000000

/-- When an entry's silence makes its node LOST: its heartbeat's, for a rectifier the earlier of that and its status frames'. -/
def State.silenceDue (s : State) (n : Nat) : Nat :=
  let d := max (s.get nodeEntryLastHeard n) (s.get nodeEntrySince n) + s.silenceNs n
  if s.get nodeEntryKind n = 5 then min d (max (s.nodeRec n).statusAt (s.get nodeEntrySince n) + 300000000) else d

/-- The grace of R352 has ended without the new digest: CUL-DE-SAC with cause 2, stamped with its end. -/
def State.graceOver (s : State) (n g : Nat) : State :=
  let s := (s.setNodeRec n { s.nodeRec n with graceAt := none }).putBit nodeEntryFlags n 0 false
  if s.digestOk n ∨ s.get nodeEntryState n ≠ 2 then s else (s.moveNode n 3 2 g).raise 0x96 g

/-- A silence has run to its deadline `d`: JOINING and ACTIVE are LOST at `d`; in CUL-DE-SAC only flag [2] is set (Table 13-2). -/
def State.silent (s : State) (n d : Nat) : State :=
  let st := s.get nodeEntryState n
  if st = 1 ∨ st = 2 then s.moveNode n 4 1 d else if st = 3 then s.putBit nodeEntryFlags n 2 true else s

/-- An entry as it stands when an arrival stamped `t` is judged: what fell due before `t` has happened, each at its own deadline, whatever the
order in which FN takes them up (spec/03 R99). -/
def State.nodeUpTo (s : State) (n t : Nat) : State :=
  let st := s.get nodeEntryState n
  if st ≠ 1 ∧ st ≠ 2 then s
  else
    let d := s.silenceDue n
    let s := (s.nodeRec n).graceAt.elim s fun g => if g < t ∧ g ≤ d then s.graceOver n g else s
    if d < t then s.silent n d else s

/-! ### Reception and error confinement of CAN (spec/13 R363) -/

/-- Error-active while both counters are at most 127, else error-passive. -/
def State.canJudge (s : State) (ch : Nat) : State :=
  if s.canLive ch then s.put canStateState ch (if s.get canStateTec ch ≤ 127 ∧ s.get canStateRec ch ≤ 127 then 1 else 2) else s

/-- An error seen while receiving. -/
def State.canRxError (s : State) (ch : Nat) : State := ((s.inc canStateErrors ch 1).inc canStateRec ch 1).canJudge ch

/-- A frame that reaches the device on a CAN channel, through the injections on it (spec/18 Table 18-5): whether it is lost. One dropped is not
seen; a wrong CRC and a forced error flag are errors of the channel. -/
def State.canUnit (s : State) (ch t : Nat) : Bool × State :=
  let a := s.unitSeen 5 ch 0 t
  a.1.elim (false, a.2) fun j => (true, if a.2.get injectAction j = 1 then a.2 else a.2.canRxError ch)

/-! ### Rows (spec/13 R350–R353, R357) -/

/-- A heartbeat of a medium, channel and address; on the mesh the address is the node ID. -/
def State.takeBeat (s : State) (h : Heartbeat) (t : Nat) : State :=
  let m := h.medium.val
  let n := if m = 1 then s.nodeAt 1 4 h.chan h.addr.toNat
    else if m = 2 then s.nodeAt 5 7 h.chan h.addr.toNat
    else if m = 3 ∧ s.get nodeEntryKind h.addr.toNat = 8 then some h.addr.toNat else none
  match n with
  | none => if m = 2 then s.inc canStateStrangers h.chan 1 else s
  | some n =>
    let last := s.get nodeEntryLastHeard n
    let late := last != 0 && decide (2 * last + 3 * s.heartbeatNs n < 2 * t)
    let s := ((s.nodeUpTo n t).put nodeEntryLastHeard n t).put nodeEntryReported n h.digest
    let s := (s.putBit nodeEntryFlags n 2 false).refreshDiag n h.uptime.toNat late
    s.heartbeatMoves n t

/-- NODE_TIMEOUT (spec/13 R353): after FN's settle time; the move is stamped with the timeout. -/
def execNodeTimeout (t : Nat) (n : Fin 1024) (s : State) : Res :=
  let s := s.at t
  if s.get nodeEntryKind n = 0 ∨ t < s.silenceDue n + settleFn then .next s else .next (s.silent n (s.silenceDue n))

/-- RECONCILE_TIMEOUT (spec/13 R352): the grace ends without the new digest. -/
def execReconcileTimeout (t : Nat) (n : Fin 1024) (s : State) : Res :=
  let s := s.at t
  match (s.nodeRec n).graceAt with
  | none => .next s
  | some g => if t < g + settleFn then .next s else .next (s.graceOver n g)

/-- CAN_CONFIG_REPLY (spec/13 R357): a refusal restarts the transfer once, then raises source 0x96. -/
def execCanConfigReply (t : Nat) (ch : Fin 4) (addr : Fin 64) (code st : BitVec 8) (_seg : BitVec 16) (s : State) : Res :=
  let a := (s.at t).canUnit ch t
  let s := a.2
  if a.1 then .next s
  else match s.nodeAt 5 7 ch addr with
  | none => .next s
  | some n =>
    let r := s.nodeRec n
    if r.xfer = 0 then .next s
    else if st = 1 then
      if r.xfer = 1 then .next (s.sendBlob n 2) else .next ((s.setNodeRec n { r with xfer := 0 }).raise 0x96 t)
    else if code = 5 then .next (s.setNodeRec n { r with xfer := 0 })
    else .next s

end Sys2Proof.Machine
end

