-- ==== Sys2Proof/Machine/CanRows.lean ====
section
/-! DEFINITION. CAN channels: reception, buffers and locks, transmission, error confinement (spec/13 R355–R363). TEC and REC follow ISO 11898-1
as R363 names it (notes/assumptions/22.md). -/

namespace Sys2Proof.Machine

/-! ### Error confinement (spec/13 R363) -/

/-- A frame received whole. -/
def State.canRxGood (s : State) (ch : Nat) : State :=
  ((s.incWrap canStateRx ch 1).put canStateRec ch (min 127 (s.get canStateRec ch) - 1)).canJudge ch

/-! ### Buffers and filters (spec/13 R358–R360, Table 13-5) -/

/-- The effect page of a channel. -/
def canPage (ch : Nat) : Nat := 0x40400000 + 0x10000 * ch
/-- A buffer's address: 32–63, 64 the high-priority buffer. -/
def canBufAddr (ch b : Nat) : Nat := if b = 64 then canPage ch + 0x1000 else canPage ch + 0x80 * (b - 32)

/-- A buffer. -/
def CanChan.buf (k : CanChan) (b : Nat) : CanBuf := Tab.get k.bufs b CanBuf.reset
/-- Free: read and released since it was last filled, and not locked. -/
def CanChan.free (k : CanChan) (b : Nat) : Bool := !(k.buf b).filled && (k.buf b).lock.isNone

/-- Bytes of a data length code. -/
def dlcBytes (dlc : Nat) : Nat := [0, 1, 2, 3, 4, 5, 6, 7, 8, 12, 16, 20, 24, 32, 48, 64].getD dlc 64

/-- A frame written into a buffer. -/
def State.fillBuf (s : State) (ch b filt : Nat) (f : CanFrame) (t : Nat) : State :=
  let k := s.canChan ch
  let a := canBufAddr ch b
  let hdr := 2 ^ 62 + filt * 2 ^ 40 + f.dlc.toNat * 2 ^ 32 + (if f.ide then 2 ^ 31 else 0) + (if f.fdf then 2 ^ 30 else 0)
    + (if f.brs then 2 ^ 29 else 0) + f.id.toNat
  let n := min f.data.len (dlcBytes f.dlc.toNat)
  let s := s.setCan ch { k with bufs := Tab.set k.bufs b { filled := true, lock := none } }
  let s := (s.poke a 8 hdr).poke (a + 8) 8 t
  (s.poke (a + 0x10) 64 (f.data.data % 2 ^ (8 * n))).poke (a + 0x50) 8 (Tab.get k.got filt 0 % 2 ^ 32)

/-- Whether auxiliary filter `i` (16c + f − 16) matches a frame. -/
def State.filterMatches (s : State) (i : Nat) (f : CanFrame) : Bool :=
  let m := s.get canFilterMask i
  s.get canFilterOwner i != 0 && (f.id.toNat &&& m) == (s.get canFilterFId i &&& m) && (s.flag canFilterIde i == f.ide)
  && (!(s.flag canFilterFdOnly i) || f.fdf)

/-- The next free buffer of a filter's range, in rotation. -/
def State.nextBuf (s : State) (ch filt : Nat) : Option Nat :=
  let i := 16 * ch + filt - 16
  let lo := s.get canFilterFirst i
  let n := s.get canFilterLast i + 1 - lo
  let k := s.canChan ch
  let from_ := Tab.get k.turn filt 0
  ((List.range n).map fun j => lo + (from_ + j) % n).find? k.free

/-- A frame given to auxiliary filter `filt`, 16–31, that it matches (spec/13 R358, R360). -/
def State.toFilter (s : State) (ch filt : Nat) (f : CanFrame) (t : Nat) : State :=
  let i := 16 * ch + filt - 16
  let k := s.canChan ch
  let s := s.setCan ch { k with got := Tab.set k.got filt ((Tab.get k.got filt 0 + 1) % 2 ^ 32) }
  if s.flag canFilterHp i then
    if (s.canChan ch).free 64 then (s.fillBuf ch 64 filt f t).raise (0x80 + 4 * ch) t else s.inc canStateHpOverruns ch 1
  else match s.nextBuf ch filt with
    | none => s.inc canFilterOverruns i 1
    | some b =>
      let s := s.fillBuf ch b filt f t
      let k := s.canChan ch
      (s.setCan ch { k with turn := Tab.set k.turn filt (b - s.get canFilterFirst i + 1) }).raise (0x81 + 4 * ch) t

/-! ### Reception (spec/13 R353, R358, Table 13-4) -/

/-- A rectifier's status frame: a reported trip makes it LOST; outside ACTIVE it is told to hold (spec/13 R353, Table 13-3). -/
def State.rectStatus (s : State) (n : Nat) (data t : Nat) : State :=
  let r := s.nodeRec n
  let tripped := data.testBit 0
  let r := { r with statusAt := t, trip := if tripped ∧ r.trip ≠ 0 then 1 else if !tripped ∧ r.trip = 1 then 2 else r.trip }
  let s := s.setNodeRec n r
  let st := s.get nodeEntryState n
  let s := if tripped ∧ (st = 1 ∨ st = 2) then (s.setNodeRec n { r with trip := 1 }).moveNode n 4 4 t else s
  if s.get nodeEntryState n ≠ 2 then s.canCommand n 1 0 else s

/-- CAN_FRAME (spec/13 R358): a frame the injections leave goes to the device and to every filter it matches. Heartbeats, replies, safe-data
items and BMS frames have steps of their own. -/
def execCanFrame (t : Nat) (ch : Fin 4) (f : CanFrame) (s : State) : Res :=
  let s := s.at t
  if s.canLive ch = false then .next s
  else
    let a := s.canUnit ch t
    let s := a.2
    if a.1 then .next s
    else if f.ok = false ∨ (f.fdf ∧ s.get canConfigFdMode ch = 0) then .next (s.canRxError ch)
    else
      let s := s.canRxGood ch
      let id := f.id.toNat
      let s := if f.ide = false ∧ f.dlc = 8 ∧ 0x640 ≤ id ∧ id < 0x680 then
          (s.nodeAt 5 5 ch (id - 0x640)).elim s fun n => (s.nodeUpTo n t).rectStatus n f.data.data t
        else s
      let fs := ((List.range 16).map (· + 16)).filter fun filt => s.filterMatches (16 * ch + filt - 16) f
      .next (fs.foldl (fun s filt => s.toFilter ch filt f t) s)

/-! ### Locks (spec/13 R359) -/

/-- A header loaded by core `c`: bit [63] where another core holds the lock, else the lock is taken. -/
def State.loadCanHeader (s : State) (c ch b : Nat) : Nat × State :=
  let k := s.canChan ch
  let v := Memory.read s.mem (canBufAddr ch b) 8
  match (k.buf b).lock with
  | some (o, _) => if o = c then (v, s) else (v % 2 ^ 63 + 2 ^ 63, s)
  | none => (v, s.setCan ch { k with bufs := Tab.set k.bufs b { k.buf b with lock := some (c, s.now) } })

/-- A buffer freed: its header no longer shows it filled. -/
def State.freeCanBuf (s : State) (ch b : Nat) : State :=
  let k := s.canChan ch
  let v := Memory.read s.mem (canBufAddr ch b) 8
  (s.setCan ch { k with bufs := Tab.set k.bufs b CanBuf.reset }).poke (canBufAddr ch b) 8 (v % 2 ^ 62)

/-- A tail loaded by core `c`: released where it holds the lock. -/
def State.loadCanTail (s : State) (c ch b : Nat) : Nat × State :=
  let v := Memory.read s.mem (canBufAddr ch b + 0x50) 8
  match ((s.canChan ch).buf b).lock with
  | some (o, _) => if o = c then (v, s.freeCanBuf ch b) else (v, s)
  | none => (v, s)

/-- CAN_LOCK_TIMEOUT (spec/13 R359): a lock held for 1 ms. -/
def execCanLockTimeout (t : Nat) (ch : Fin 4) (b : Fin 33) (s : State) : Res :=
  let s := s.at t
  match ((s.canChan ch).buf (b + 32)).lock with
  | none => .next s
  | some (_, t0) => if t < t0 + 1000000 + settleFn then .next s else .next ((s.freeCanBuf ch (b + 32)).inc canStateLockTimeouts ch 1)

/-! ### Transmission (spec/13 R361, R362) -/

/-- The result word of a slot: stamp bits, attempts, code; source 0x82 + 4c for any result but queued. -/
def State.canResult (s : State) (ch slot code attempts t : Nat) : State :=
  let s := s.poke (canPage ch + 0x3008 + 8 * slot) 8 (t % 2 ^ 32 * 2 ^ 32 + attempts % 256 * 256 + code)
  if code = 1 then s else s.raise (0x82 + 4 * ch) t

/-- Identifiers programs may send (spec/13 R356). -/
def auxId (ide : Bool) (id : Nat) : Bool :=
  if ide then decide (id < 0x1F000000) else inRange id 0x200 0x3FF || inRange id 0x700 0x7EF

/-- A doorbell of core `c`: the slot is copied into the queue, or refused with result 4 (spec/13 R361). -/
def State.canDoor (s : State) (c ch slot t : Nat) : State :=
  let a := canPage ch + 0x2000 + 0x80 * slot
  let h := Memory.read s.mem a 8
  let ide := h.testBit 31
  let fdf := h.testBit 30
  let id := h % 2 ^ 29
  let node := h / 2 ^ 48 % 1024
  let dlc := h / 2 ^ 32 % 256
  let mine := (((s.canChan ch).cur.toList ++ (s.canChan ch).queue).filter fun r => r.slot.any fun p => p.1 == c).length
  let nodeOk := s.get nodeEntryKind node == 7 && s.get nodeEntryChan node == ch && s.get nodeEntryState node == 2
  let modeOk := if fdf then s.get canConfigFdMode ch != 0 && decide (dlc < 16) else decide (dlc ≤ 8) && !(h.testBit 29)
  if nodeOk && auxId ide id && modeOk && decide (mine < 8) then
    let s := s.canResult ch slot 1 0 t
    s.queueCan ch { cls := 3, slot := some (c, slot), ide := ide, fdf := fdf, brs := h.testBit 29, id := id, dlc := dlc,
                    data := Memory.read s.mem (a + 0x10) 64 % 2 ^ (8 * dlcBytes dlc), retries := h / 2 ^ 40 % 32, attempts := 0,
                    deadline := Memory.read s.mem (a + 8) 8, node := node }
  else s.canResult ch slot 4 0 t

/-- What a frame's end means for its slot. -/
def State.canDone (s : State) (ch : Nat) (r : CanReq) (code attempts t : Nat) : State :=
  r.slot.elim s fun p => s.canResult ch p.2 code attempts t

/-- CAN_TRANSMIT_END (spec/13 R362): acknowledged at or before its deadline it is sent; else retried until its count is exhausted or its
deadline has passed. CONFIG_END follows the last segment of a transfer. A frame an
injection acts on as it is sent reaches nobody and is not acknowledged; one dropped is no error of the channel (notes/assumptions/40.md). -/
def execCanTransmitEnd (t : Nat) (ch : Fin 4) (acked : Bool) (s : State) : Res :=
  let s := s.at t
  let k := s.canChan ch
  match k.cur with
  | none => .next s
  | some r =>
    let n := r.attempts + 1
    let a := s.unitSeen 5 ch 1 t
    let dropped := a.1.any fun j => a.2.get injectAction j == 1
    let s := a.2.setCan ch { k with cur := none }
    let late := r.deadline ≠ 0 ∧ r.deadline < t
    if acked ∧ a.1.isNone then
      let s := ((s.incWrap canStateTx ch 1).put canStateTec ch (s.get canStateTec ch - 1)).canJudge ch
      let s := s.emit (.can ch r.id r.dlc r.data)
      let s := s.canDone ch r (if late then 5 else 2) n t
      let last := r.node < 1024 ∧ r.ide ∧ r.id + 1 = segId (s.get nodeEntryAddr r.node) + s.segments8 r.node
      .next ((if last then s.canCommand r.node 5 0 else s).canNext ch)
    else
      let s := if r.node < 1024 then s.setNodeRec r.node { s.nodeRec r.node with retries := (s.nodeRec r.node).retries + 1 } else s
      let s := if dropped then s else (s.inc canStateTec ch 8).canJudge ch
      let s := if late then s.canDone ch r 5 n t
        else if r.retries < n then s.canDone ch r 3 n t
        else s.queueCan ch { r with attempts := n }
      .next (s.canNext ch)

/-- CAN_DEADLINE (spec/13 R362): queued frames whose deadline has passed by the settle time end with result 5, stamped with the deadline; the
frame on the bus is judged at its end. -/
def execCanDeadline (t : Nat) (ch : Fin 4) (s : State) : Res :=
  let s := s.at t
  let k := s.canChan ch
  let gone := k.queue.filter fun r => r.deadline != 0 && decide (r.deadline + settleFn ≤ t)
  let s := s.setCan ch { k with queue := k.queue.filter fun r => !(r.deadline != 0 && decide (r.deadline + settleFn ≤ t)) }
  .next (gone.foldl (fun s r => s.canDone ch r 5 r.attempts r.deadline) s)

/-! ### Bus-off (spec/13 R353, R363) -/

/-- The nodes of a channel. -/
def State.nodesOn (s : State) (ch : Nat) : List Nat :=
  s.nodeIds.filter fun n => kindMedium (s.get nodeEntryKind n) == 2 && s.get nodeEntryChan n == ch

/-- BUS_OFF: TEC above 255; the fourth time within 60 s the channel is held; its nodes become LOST (spec/13 R353, R363). -/
def execBusOff (t : Nat) (ch : Fin 4) (tec : Nat) (s : State) : Res :=
  let s := s.at t
  if tec ≤ 255 ∨ s.canLive ch = false then .next s
  else
    let k := s.canChan ch
    let offs := t :: k.offs.filter fun x => decide (t ≤ x + 60000000000)
    let st := if 4 ≤ offs.length then 4 else 3
    let slot := s.provoked 5 ch t
    let inj := slot.any fun j => s.get injectState j == 1
    let k := { k with offs := offs, cur := none, injHeld := k.injHeld || (st == 4 && inj),
                      queue := k.cur.toList.foldr canInsert k.queue }
    let s := (s.setCan ch k).put canStateState ch st
    let s := (s.put canStateTec ch tec).inc canStateBusOffs ch 1
    let s := s.eventOn slot 0x0E ch st 0 t
    .next ((s.nodesOn ch).foldl (fun s n => if s.get nodeEntryState n = 1 ∨ s.get nodeEntryState n = 2 then s.moveNode n 4 5 t else s) s)

/-- BUS_RECOVERY: with auto_recover set, after 128 occurrences of 11 recessive bits. -/
def execBusRecovery (t : Nat) (ch : Fin 4) (s : State) : Res :=
  let s := s.at t
  if s.get canStateState ch = 3 ∧ s.flag canConfigAutoRecover ch then .next (s.canJoin ch) else .next s

/-- What a write of can.config brings into effect: an enabled channel joins the bus, a disabled one is off. -/
def State.canConfigured (s : State) (ch : Nat) : State :=
  if s.flag canConfigEnable ch then (if s.get canStateState ch = 0 then s.canJoin ch else s)
  else
    let k := s.canChan ch
    (s.put canStateState ch 0).setCan ch { k with cur := none, queue := [] }

end Sys2Proof.Machine
end

