-- ==== Sys2Proof/Machine/Pralines.lean ====
section
/-! DEFINITION. Pralines: their header, the permitted pairs, the key inside (spec/14 R390, R391). -/

namespace Sys2Proof.Machine

/-- The permitted pairs of algorithm and attribute (spec/14 R390). -/
def pairOk (alg attr : Nat) : Bool :=
  if alg = 1 then decide (1 ≤ attr) && decide (attr ≤ 4)
  else if alg = 2 then attr == 4
  else if alg = 3 ∨ alg = 4 then attr == 4 || attr == 5
  else alg == 5 && attr == 5

/-- Bytes of a private key: AES-256, AES-128, P-256, P-521, Ed448 (spec/14 R390). -/
def keyBytes (alg : Nat) : Nat :=
  if alg = 1 then 32 else if alg = 2 then 16 else if alg = 3 then 32 else if alg = 4 then 66 else 57

/-- Bytes of a key wrapped under RFC 5649: padded to whole 8 bytes, and 8 more (spec/14 Table 14-11). -/
def wrappedBytes (alg : Nat) : Nat := (keyBytes alg + 7) / 8 * 8 + 8

/-- Bytes of a public key; none for AES (spec/14 Table 14-17). -/
def publicBytes (alg : Nat) : Nat := if alg = 3 then 65 else if alg = 4 then 133 else if alg = 5 then 57 else 0

/-- Praline bytes 0x00–0x17, from which the key-encryption key is derived (spec/14 R390). -/
def pralineHeader (alg attr epoch label pin : Nat) : Nat :=
  0x314C5250 + 1 * 2 ^ 32 + alg % 256 * 2 ^ 40 + attr % 256 * 2 ^ 48 + epoch % 256 * 2 ^ 56 + label % 2 ^ 64 * 2 ^ 64 + pin % 2 * 2 ^ 128
    + wrappedBytes alg * 2 ^ 144

/-- The key inside praline `n`, where every condition of R391 holds: its epoch, the unwrap check, the pair. -/
def State.pralineKey (s : State) (n : Nat) : Option Nat :=
  let alg := s.get pralineAlg n
  let attr := s.get pralineAttr n
  let hdr := (s.get pralineMagic n) + s.get pralineFmt n * 2 ^ 32 + alg * 2 ^ 40 + attr * 2 ^ 48 + s.get pralineLcEpoch n * 2 ^ 56
    + s.get pralineLabel n * 2 ^ 64 + s.get pralinePin n * 2 ^ 128 + s.get pralineWlen n * 2 ^ 144
  if s.get pralineMagic n ≠ 0x314C5250 ∨ s.get pralineFmt n ≠ 1 then none
  else if s.get pralineLcEpoch n ≠ s.get lcStateLcEpoch 0 ∨ pairOk alg attr = false then none
  else Config.unwrapKey hdr (s.get pralineWlen n) (s.get pralineWrapped n)

end Sys2Proof.Machine
end

