-- ==== Sys2Proof/Machine/MeshRows.lean ====
section
/-! DEFINITION. The power-line mesh (spec/13 R364–R372). -/

namespace Sys2Proof.Machine

/-- The mesh replaced. -/
def State.setMesh (s : State) (m : Mesh) : State := { s with net := { s.net with mesh := m } }

/-- The neighbour entry of a node, or the first free one for it. -/
def State.nbrOf (s : State) (n : Nat) : Option Nat :=
  match (List.range 960).find? fun j => s.get meshNbrNode j == n && s.get meshNbrPhase j != 0 with
  | some j => some j
  | none => (List.range 960).find? fun j => s.get meshNbrPhase j == 0

/-! ### The effect page (spec/13 R372, Table 13-10) -/

/-- The mesh effect page. -/
def meshPage : Nat := 0x40440000
/-- A receive slot's address. -/
def meshRxAddr (r : Nat) : Nat := meshPage + 0x2000 + 0x200 * r

/-- An AUX message from an ACTIVE node into a free receive slot; dropped and counted where the node is not ACTIVE or none is free. -/
def State.auxReceived (s : State) (n : Nat) (body : Payload) (t : Nat) : State :=
  let m := s.net.mesh
  let drop := s.setMesh { m with dropped := min (m.dropped + 1) (2 ^ 32 - 1) }
  if s.get nodeEntryState n ≠ 2 then drop
  else match (List.range 16).find? fun r => !(Tab.get m.slots r CanBuf.reset).filled && (Tab.get m.slots r CanBuf.reset).lock.isNone with
  | none => drop
  | some r =>
    let len := min body.len 400
    let s := s.setMesh { m with slots := Tab.set m.slots r { filled := true, lock := none } }
    let a := meshRxAddr r
    let s := (s.poke a 8 (2 ^ 62 + n * 2 ^ 48 + len)).poke (a + 8) 8 t
    (s.poke (a + 0x10) 400 (body.data % 2 ^ (8 * len))).raise 0x90 t

/-- A receive slot's header loaded by core `c`. -/
def State.loadMeshHeader (s : State) (c r : Nat) : Nat × State :=
  let m := s.net.mesh
  let b := Tab.get m.slots r CanBuf.reset
  let v := Memory.read s.mem (meshRxAddr r) 8
  match b.lock with
  | some (o, _) => if o = c then (v, s) else (v % 2 ^ 63 + 2 ^ 63, s)
  | none => (v, s.setMesh { m with slots := Tab.set m.slots r { b with lock := some (c, s.now) } })

/-- A receive slot's tail loaded by core `c`: messages dropped; the locking core releases the slot. -/
def State.loadMeshTail (s : State) (c r : Nat) : Nat × State :=
  let m := s.net.mesh
  match (Tab.get m.slots r CanBuf.reset).lock with
  | some (o, _) =>
    if o = c then
      (m.dropped, (s.setMesh { m with slots := Tab.set m.slots r CanBuf.reset }).poke (meshRxAddr r) 8 (Memory.read s.mem (meshRxAddr r) 8 % 2 ^ 62))
    else (m.dropped, s)
  | none => (m.dropped, s)

/-- The result of a transmit slot; source 0x94 for any but queued. -/
def State.meshResult (s : State) (slot code t : Nat) : State :=
  let s := s.poke (meshPage + 0x1008 + 8 * slot) 8 code
  if code = 1 then s else s.raise 0x94 t

/-- A doorbell of core `c` for a transmit slot: refused unless it names an ACTIVE node of kind 8 and a length of 1–400. -/
def State.meshDoor (s : State) (c slot t : Nat) : State :=
  let h := Memory.read s.mem (meshPage + 0x200 * slot) 8
  let n := h / 2 ^ 48 % 1024
  let len := h % 2 ^ 16
  if s.get nodeEntryKind n = 8 ∧ s.get nodeEntryState n = 2 ∧ 1 ≤ len ∧ len ≤ 400 then
    let s := s.meshResult slot 1 t
    let m := s.net.mesh
    let r : MeshReq := { core := c, slot := slot, node := n, len := len, data := Memory.read s.mem (meshPage + 0x200 * slot + 8) len }
    (s.setMesh { m with reqs := m.reqs ++ [r] }).meshNext
  else s.meshResult slot 4 t

/-! ### PHY service (spec/13 R367, R368, R370) -/

/-- A frame's quality judged for its neighbour (spec/13 R367): degraded if it fails FEC, or lies more than 4 dB (16 counts of LQI,
notes/assumptions/22.md) below the LQI of the map in use. -/
def State.judgeLqi (s : State) (n lqi phase t : Nat) (fec : Bool) : State :=
  match s.nbrOf n with
  | none => s
  | some j =>
    let fresh := s.get meshNbrPhase j == 0
    let s := if fresh then ((s.put meshNbrNode j n).put meshNbrLqi j lqi).put meshNbrTmSet j t else s
    let s := s.put meshNbrPhase j (phase + 1)
    let bad := !fec || decide (lqi + 16 < s.get meshNbrLqi j)
    s.put meshNbrDegraded j (if bad then min 255 (s.get meshNbrDegraded j + 1) else 0)

/-- A frame of a node taken whole shows that its route stands again: its waiting requests go (spec/13 R366, notes/assumptions/22.md), with
source 0x92. -/
def State.routeBack (s : State) (n t : Nat) : State :=
  let m := s.net.mesh
  if m.waiting.all fun w => w.2.1 != n then s
  else ((s.setMesh { m with waiting := m.waiting.filter fun w => w.2.1 != n }).raise 0x92 t).meshNext

/-- A frame taken from the mesh head (spec/13 R368, R371): one that fails FEC, FCS or authentication goes no further. Heartbeats have a step
of their own. -/
def State.takeMesh (s : State) (t : Nat) (m : MeshRx) : State :=
  let n := m.node.toNat
  let s := s.judgeLqi n m.lqi.toNat (m.phase.toNat % 3) t m.fecOk
  if m.fecOk = false then s.inc meshStateFecFail 0 1
  else if m.fcsOk = false ∨ m.authOk = false ∨ s.get nodeEntryKind n ≠ 8 then s.setNodeRec n { s.nodeRec n with lqi := m.lqi.toNat }
  else
    let s := (s.setNodeRec n { s.nodeRec n with lqi := m.lqi.toNat }).routeBack n t
    if m.typ = 4 then s.auxReceived n m.body t
    else if m.typ = 3 then
      let r := s.nodeRec n
      let off := m.body.data % 2 ^ 16
      let refused := m.body.data / 2 ^ 16 % 256 == 1
      if r.xfer = 0 then s
      else if refused then (s.setNodeRec n { r with xfer := 0 }).raise 0x96 t
      else if (s.blobOf n).1 ≤ off then s.setNodeRec n { r with xfer := 0 }
      else s.meshConfigFrom n off
    else s

/-- TX_CONF (spec/13 R370): 0 the frame was sent, and the oldest request is acknowledged (notes/assumptions/22.md); 1 the channel was busy and 2
it was aborted: it is sent again, counted as a retransmission. The next request follows. -/
def execTxConf (t : Nat) (result : Fin 3) (_ended : Nat) (s : State) : Res :=
  let s := s.at t
  let m := s.net.mesh
  match m.front with
  | none => .next s
  | some r =>
    if m.txOut = false then .next s
    else
      let s := s.setMesh { m with txOut := false }
      if result = 0 then
        let s := s.setMesh { s.net.mesh with reqs := s.net.mesh.reqs.filter fun x => x != r }
        .next (s.meshResult r.slot 2 t).meshNext
      else .next (s.setNodeRec r.node { s.nodeRec r.node with retries := (s.nodeRec r.node).retries + 1 }).meshNext

/-- BUSY (spec/13 R370). -/
def execBusy (t : Nat) (sensed : Bool) (s : State) : Res :=
  let s := s.at t
  .next (s.setMesh { s.net.mesh with busy := sensed })

/-- TONE_MAP_REFRESH (spec/13 R367): on TTL expiry, the third degraded frame in a row, or a request. -/
def execToneMapRefresh (t : Nat) (nbr : Fin 960) (rx tx : Nat) (lqi : Nat) (s : State) : Res :=
  let s := s.at t
  let m := s.net.mesh
  let due := decide (s.get meshNbrTmSet nbr + s.get meshConfigTmTtl 0 * 1000000000 ≤ t) || decide (3 ≤ s.get meshNbrDegraded nbr)
    || Tab.get m.asked nbr false
  if s.get meshNbrPhase nbr = 0 ∨ due = false then .next s
  else
    let s := s.setMesh { m with asked := Tab.del m.asked nbr }
    let s := ((s.put meshNbrTmRx nbr rx).put meshNbrTmTx nbr tx).put meshNbrLqi nbr lqi
    let s := (s.put meshNbrTmSet nbr t).put meshNbrDegraded nbr 0
    .next ((s.inc meshStateTmRefresh 0 1).raise 0x93 t)

/-! ### Bootstrap and keys (spec/13 R369) -/

/-- Whether the praline an entry names can be loaded (spec/14 R391): one is written in its slot. -/
def State.pskLoads (s : State) (n : Nat) : Bool :=
  let p := s.get nodeEntryPskSlot n
  decide (p < 1024) && s.get pralineAlg p == 2 && s.get pralineAttr p == 4 && (s.pralineKey p).isSome

/-- BOOTSTRAP: a node whose EUI-64 has an entry of kind 8 or 4 with a praline that loads, and that authenticates, joins; any other is a stranger,
seen at its entry's address where it has one (flag [1]).
The short address is the node ID plus 1 (notes/assumptions/22.md). -/
def execBootstrap (t : Nat) (eui : BitVec 64) (authOk : Bool) (s : State) : Res :=
  let s := s.at t
  let n := s.nodeIds.find? fun n => (s.get nodeEntryKind n == 8 || s.get nodeEntryKind n == 4) && s.get nodeEntryEui64 n == eui.toNat
  match n.filter fun n => authOk && s.pskLoads n with
  | none => .next ((n.elim s fun n => s.putBit nodeEntryFlags n 1 true).inc meshStateStrangers 0 1)
  | some n =>
    let r := s.nodeRec n
    let s := (s.setNodeRec n { r with booted := true, hops := max 1 r.hops }).put nodeEntryShortAddr n (n + 1)
    let s := if r.booted then s else s.inc meshStateJoined 0 1
    .next (s.raise 0x91 t)

/-- GMK_RENEWAL: every gmk_days the group master key is drawn anew in HK and written into FN. -/
def execGmkRenewal (t : Nat) (s : State) : Res :=
  let s := s.at t
  let m := s.net.mesh
  if t < m.gmkAt + s.get meshConfigGmkDays 0 * 86400000000000 then .next s
  else .next (s.setMesh { m with gmkNo := m.gmkNo + 1, gmkAt := t })

/-! ### Routes (spec/13 R366) -/

/-- ROUTE_REPAIR: retries toward a neighbour are exhausted; frames for its node wait, up to 16 per destination; one there is no room for ends
with result 3, no route (notes/assumptions/22.md). -/
def execRouteRepair (t : Nat) (nbr : Nat) (s : State) : Res :=
  let s := s.at t
  let m := s.net.mesh
  let n := s.get meshNbrNode nbr
  let held := m.reqs.filter fun r => r.node == n && !(m.isWaiting r)
  let room := 16 - (m.waiting.filter fun w => w.2.1 == n).length
  let over_ := held.drop room
  let s := s.setMesh { m with txOut := m.txOut && !(m.front.any fun r => r.node == n), reqs := m.reqs.filter fun r => !(over_.contains r),
                              waiting := m.waiting ++ (held.take room).map fun r => (r.core * 8 + r.slot, r.node, t) }
  let s := over_.foldl (fun s r => s.meshResult r.slot 3 t) s
  .next ((s.inc meshStateRepairs 0 1).raise 0x92 t).meshNext

/-- ROUTE_WAIT_TIMEOUT: frames that have waited 10 s are discarded with result 3, no route. -/
def execRouteWaitTimeout (t : Nat) (s : State) : Res :=
  let s := s.at t
  let m := s.net.mesh
  let gone := m.waiting.filter fun w => decide (w.2.2 + 10000000000 + settleFn ≤ t)
  if gone.isEmpty then .next s
  else
    let s := s.setMesh { m with waiting := m.waiting.filter fun w => !gone.contains w,
                                reqs := m.reqs.filter fun r => !(gone.any fun w => w.1 == r.core * 8 + r.slot) }
    .next ((gone.foldl (fun s w => s.meshResult (w.1 % 8) 3 t) s).raise 0x92 t)

/-- A change of band or coupling restarts the mesh: every mesh node rejoins (spec/13 R365). -/
def State.meshRestart (s : State) (t : Nat) : State :=
  let ids := s.nodeIds.filter fun n => s.get nodeEntryKind n == 8 || s.get nodeEntryKind n == 4
  let s := ids.foldl (fun s n => (s.setNodeRec n { s.nodeRec n with booted := false }).put nodeEntryShortAddr n 0xFFFF) s
  (s.put meshStateJoined 0 0).raise 0x91 t

end Sys2Proof.Machine
end

