-- ==== Sys2Proof/Machine/Met.lean ====
section
/-! DEFINITION. Metrology: correction, power, registers, cycles and events (spec/07). -/

namespace Sys2Proof.Machine

/-! ### Access -/

/-- A channel's record. -/
def State.chan43 (s : State) (c : Nat) : Chan43 := Tab.get s.met.chans c Chan43.zero
/-- A channel's record replaced. -/
def State.setChan43 (s : State) (c : Nat) (r : Chan43) : State := { s with met := { s.met with chans := Tab.set s.met.chans c r } }
/-- A quantity's record: 0–11 outlets, 12 incomer total, 13–15 phases. -/
def State.quant (s : State) (q : Nat) : Quantity := Tab.get s.met.quants q Quantity.zero
/-- A quantity's record replaced. -/
def State.setQuant (s : State) (q : Nat) (r : Quantity) : State := { s with met := { s.met with quants := Tab.set s.met.quants q r } }

/-- A register's fields by quantity. -/
structure RegFields where
  flags : Fld
  k : Fld
  deliv : Fld
  ret : Fld
  net : Fld
  subst : Fld
  gap : Fld
  cD : Fld
  cR : Fld
  wD : Fld
  wR : Fld
  ck : Fld

/-- The register set of a quantity and its index there (spec/07 Table 7-10). -/
def regFields (q : Nat) : RegFields × Nat :=
  if q < 12 then
    (⟨meterOutletFlags, meterOutletK, meterOutletEDeliv, meterOutletERet, meterOutletENet, meterOutletESubst, meterOutletGapNs,
      meterOutletCDeliv, meterOutletCRet, meterOutletWDeliv, meterOutletWRet, meterOutletCK⟩, q)
  else
    (⟨meterIncomerFlags, meterIncomerK, meterIncomerEDeliv, meterIncomerERet, meterIncomerENet, meterIncomerESubst, meterIncomerGapNs,
      meterIncomerCDeliv, meterIncomerCRet, meterIncomerWDeliv, meterIncomerWRet, meterIncomerCK⟩, q - 12)

/-- A quantity's flag bit written. -/
def State.setMeterFlag (s : State) (q n : Nat) (b : Bool) : State := s.putBit (regFields q).1.flags (regFields q).2 n b

/-- The channels of a quantity (spec/07 R191, R192, Table 7-1). -/
def State.quantChans (s : State) (q : Nat) : List Nat :=
  if q < 12 then (if s.flag meterOutletCfgBasis q then [3 * q + 1, 3 * q + 2] else [3 * q, 3 * q + 2])
  else if s.flag meterSiteWiring 0 then
    (if q = 12 then [36, 37, 39, 41] else if q = 13 then [36, 39] else if q = 15 then [37, 41] else [])
  else (if q = 12 then [36, 37, 38, 39, 40, 41] else [36 + (q - 13), 39 + (q - 13)])

/-- Whether a quantity runs in net mode (spec/07 R195). -/
def State.netMode (s : State) (q : Nat) : Bool := if q < 12 then s.flag meterOutletCfgNet q else s.flag meterSiteNet 0

/-- Whether a channel carries current. -/
def isCurrent (c : Nat) : Bool := if c < 36 then c % 3 == 2 else decide (39 ≤ c)

/-- The calibration fields of a channel as written (spec/07 Table 7-8). -/
def State.calFields (s : State) (c : Nat) : Cal :=
  { offset := s.geti meterCalOffset c, gain := s.get meterCalGain c, scale := s.get meterCalScale c, tc := s.geti meterCalTc c,
    tRef := s.geti meterCalTRef c, delay := s.geti meterCalDelay c }

/-- The calibration of a channel at an index (spec/07 R210): a written one from its index on, in one piece. -/
def State.calAt (s : State) (c n : Nat) : Cal :=
  match Tab.find s.met.applyCal c with
  | some k => if k ≤ n then s.calFields c else (s.chan43 c).cal.getD (s.calFields c)
  | none => s.calFields c

/-- The calibration of a channel at the next index to be formed. -/
def State.calOf (s : State) (c : Nat) : Cal := s.calAt c s.met.next

/-! ### Samples received (spec/07 R187, R188) -/

/-- The 64-bit index of a sample with its low 16 bits, nearest to the index FM expects. -/
def extendIndex (low near : Nat) : Nat :=
  let base := near / 65536 * 65536 + low
  if base + 32768 < near then base + 65536 else if near + 32768 < base ∧ 65536 ≤ base then base - 65536 else base

/-- The index FM expects to arrive: five ahead of the one it forms next (spec/07 R190). -/
def State.expected (s : State) : Nat := s.met.next + 5

/-- A sample received, or flagged invalid by its head (none): a duplicate, one more than 5 from the expected index, and one that comes once index
k + 5 has been received are discarded (spec/07 R187, R188). -/
def State.takeRaw (s : State) (c low : Nat) (x : Option Int) : State :=
  let k := extendIndex low s.expected
  let r := s.chan43 c
  if s.expected + 5 < k ∨ k + 5 < s.expected ∨ (s.met.next ≠ 0 ∧ k < s.expected) ∨ (Tab.find r.raw k).isSome ∨ r.raw.any (fun e => decide (k + 5 ≤ e.1)) then s
  else s.setChan43 c { r with raw := Tab.set r.raw k x }

/-- An outlet head's metrology sample and shunt temperature (spec/07 R186, R188). -/
def State.meterBlock (s : State) (o : Nat) (b : OutletBlk) (t : Nat) : State :=
  let opt (n : Nat) (v : BitVec 24) : Option Int := if b.invalid.getLsbD n then none else some v.toInt
  let s := if b.present then
      let s := s.takeRaw (3 * o) b.k.toNat (opt 1 b.vConn)
      let s := s.takeRaw (3 * o + 1) b.k.toNat (opt 2 b.vConv)
      s.takeRaw (3 * o + 2) b.k.toNat (opt 3 b.i)
    else s
  let s := { s with met := { s.met with shunt := Tab.set s.met.shunt o (b.tShunt.toInt, t) } }
  s.setMeterFlag o 7 false

/-- The incomer head's metrology sample. -/
def State.incomerBlock (s : State) (b : IncomerBlk) : State :=
  if b.present then
    (List.range 7).foldl (fun s m =>
      s.takeRaw (36 + m) b.k.toNat (if b.invalid.getLsbD m then none else (b.raw[m]?).map BitVec.toInt)) s
  else s

/-! ### Correction (spec/07 R189, R190) -/

/-- The denominator of x4. -/
def x4Den : Int := 2 ^ 23 * 10 ^ 10

/-- x4 of a sample taken at a shunt temperature, as a numerator over `x4Den` (spec/07 R189 steps 1–4). -/
def Cal.scaled (k : Cal) (c : Nat) (x t : Int) : Int :=
  let temp := if isCurrent c && decide (c < 36) then 10 ^ 10 + k.tc * (t - k.tRef) else 10 ^ 10
  (x - k.offset) * k.gain * k.scale * temp

/-- Index `k` of a channel fixed: its sample, or the last valid one in its place (spec/07 R188). -/
def State.settle (s : State) (c k : Nat) : State :=
  let r := s.chan43 c
  let got : Option Int := (Tab.find r.raw k).elim none id
  let last := match got with | some x => some (x, (Tab.get s.met.shunt (c / 3) (2000, 0)).1) | none => r.last
  let run := if got.isSome then 0 else Tab.get r.runs (k - 1) 0 + 1
  s.setChan43 c { r with raw := r.raw.filter fun p => decide (k < p.1), used := (Tab.set r.used k last).filter fun p => decide (k ≤ p.1 + 12),
                         last := last, runs := (Tab.set r.runs k run).filter fun p => decide (k ≤ p.1 + 12) }

/-- The corrected sample y[n] of a channel, nV or nA (spec/07 R189, R190): the four-point interpolation, rounded once half up. A channel that
has not had a valid sample yet gives zero. -/
def State.corrected (s : State) (c n : Nat) : Int :=
  let r := s.chan43 c
  let k := s.calAt c n
  let num := (n : Int) * 1024 - k.delay
  let j := num / 1024
  let m := num - j * 1024
  let x (i : Int) : Int := ((Tab.find r.used (j + i).toNat).elim none id).elim 0 fun p => k.scaled c p.1 p.2
  let g : Int := 1024
  let c0 := -(m * (m - g) * (m - 2 * g))
  let c1 := 3 * ((m + g) * (m - g) * (m - 2 * g))
  let c2 := -3 * ((m + g) * m * (m - 2 * g))
  let c3 := (m + g) * m * (m - g)
  roundHalf (c0 * x (-1) + c1 * x 0 + c2 * x 1 + c3 * x 2) (6 * 2 ^ 30 * x4Den)

/-- Whether index `k` of a channel has been received or is declared absent: flagged so by its head, or not there when index k + 5 is
(spec/07 R188). -/
def State.settledAt (s : State) (c k : Nat) : Bool :=
  let r := s.chan43 c
  (Tab.find r.raw k).isSome || r.raw.any fun e => decide (k + 5 ≤ e.1)

/-- FM's settle time (spec/07 R200): the lag of R190 and the longest transit. -/
def settleFm : Nat := 100000

/-- Whether the next index n can be formed: n + 5 received or absent on every channel, or FM's settle time past the index, by when whatever has
not come has been declared absent (spec/07 R190; notes/assumptions/45.md). -/
def State.indexDue (s : State) (t : Nat) : Bool :=
  decide (s.met.next * 15625 + settleFm ≤ t) || (List.range 43).all fun c => s.settledAt c (s.met.next + 5)

/-! ### What waits for its step -/

/-- Keys of `Met.due`: beginning and end of the events of meter.status.events, of GAP and of reverse power by outlet. -/
def beginKey (b : Nat) : Nat := b
def endKey (b : Nat) : Nat := 16 + b
def gapKey (q : Nat) : Nat := 32 + q
def gapEndKey (q : Nat) : Nat := 48 + q
def revKey (o : Nat) : Nat := 64 + o
def revEndKey (o : Nat) : Nat := 80 + o

/-- Something complete at the instant of index `k` waits for its step (spec/07 R200), where `on` and it does not wait already. -/
def State.setDue (s : State) (on : Bool) (key k : Nat) : State :=
  if on && (Tab.find s.met.due key).isNone then { s with met := { s.met with due := Tab.set s.met.due key (k * 15625) } } else s

/-- What has waited is taken. -/
def State.dropDue (s : State) (key : Nat) : State := { s with met := { s.met with due := Tab.del s.met.due key } }

/-! ### Registers (spec/07 R194–R196) -/

/-- K of R194, aW·samples in 1 µWh. -/
def muWh : Int := 230400000000000000000

/-- A contribution added to a remainder: whole µWh and what is left. -/
def stepReg (rho a : Int) : Int × Int := ((rho + a) / muWh, (rho + a) % muWh)

/-- An unsigned register moved by `c` µWh; at its end it is saturated: flag [4] (spec/07 R196). -/
def State.moveReg (s : State) (q : Nat) (f : Fld) (c : Int) : State :=
  let i := (regFields q).2
  let v := s.num f i + c
  if v < 2 ^ 64 - 1 then s.put f i v.toNat else (s.put f i (2 ^ 64 - 1)).setMeterFlag q 4 true

/-- A delivered or returned register moved, its whole steps posted to billing (spec/08 R223). -/
def State.moveBilled (s : State) (q : Nat) (f : Fld) (deliv : Bool) (c : Int) : State :=
  let old := s.get f (regFields q).2
  let s := s.moveReg q f c
  s.billStep q deliv (s.get f (regFields q).2 - old)

/-- A signed register moved, saturating at ±(2^63 − 1); an upward step is delivered energy, a downward one returned (spec/08 R223). -/
def State.moveNet (s : State) (q : Nat) (f : Fld) (c : Int) : State :=
  let i := (regFields q).2
  let old := s.geti f i
  let v := old + c
  let m : Int := 2 ^ 63 - 1
  let s := if -m < v ∧ v < m then s.puti f i v else (s.puti f i (limitTo (-m) m v)).setMeterFlag q 4 true
  let d := s.geti f i - old
  if 0 ≤ d then s.billStep q true d.toNat else s.billStep q false (-d).toNat

/-- A contribution to e_deliv of a quantity, in aW·samples. -/
def State.addDeliv (s : State) (q : Nat) (a : Int) : State :=
  let f := (regFields q).1
  if s.get f.deliv (regFields q).2 = 2 ^ 64 - 1 then s
  else
    let r := s.quant q
    let x := stepReg r.rhoD a
    (s.setQuant q { r with rhoD := x.2 }).moveBilled q f.deliv true x.1

/-- A contribution to e_ret. -/
def State.addRet (s : State) (q : Nat) (a : Int) : State :=
  let f := (regFields q).1
  if s.get f.ret (regFields q).2 = 2 ^ 64 - 1 then s
  else
    let r := s.quant q
    let x := stepReg r.rhoR a
    (s.setQuant q { r with rhoR := x.2 }).moveBilled q f.ret false x.1

/-- A contribution to e_net. -/
def State.addNet (s : State) (q : Nat) (a : Int) : State :=
  let f := (regFields q).1
  if mag (s.geti f.net (regFields q).2) = 2 ^ 63 - 1 then s
  else
    let r := s.quant q
    let x := stepReg r.rhoN a
    (s.setQuant q { r with rhoN := x.2 }).moveNet q f.net x.1

/-- A contribution to e_subst. -/
def State.addSubst (s : State) (q : Nat) (a : Int) : State :=
  let f := (regFields q).1
  if s.get f.subst (regFields q).2 = 2 ^ 64 - 1 then s
  else
    let r := s.quant q
    let x := stepReg r.rhoS (mag a)
    (s.setQuant q { r with rhoS := x.2 }).moveReg q f.subst x.1

/-- A contribution to a quantity's residual after a freeze (spec/07 R206). -/
def State.addResidual (s : State) (q : Nat) (a : Int) : State :=
  let r := s.quant q
  let x := stepReg r.rhoX a
  s.setQuant q { r with rhoX := x.2, residual := r.residual + x.1 }

/-- Whether an index counts in the registers: its instant at or before the power-fail edge, or after the edge that ended the warning
(spec/07 R206, R207). -/
def State.counts (s : State) (n : Nat) : Bool :=
  s.met.frozen.all fun tf => decide (n * 15625 ≤ tf) || s.met.thaw.any fun tr => decide (tr < n * 15625)

/-- One index of an outlet's power (spec/07 R195, R206). -/
def State.outletEnergy (s : State) (o n : Nat) (p : Int) (subst : Bool) : State :=
  if s.counts n = false then s.addResidual o p
  else
    let s := if s.netMode o then s.addNet o p else (s.addDeliv o (max p 0)).addRet o (max (-p) 0)
    if subst then s.addSubst o p else s

/-- The power of a quantity at an index (spec/07 R191, R192), from corrected samples `y`. -/
def State.power (s : State) (q : Nat) (y : Nat → Int) : Int :=
  if q < 12 then
    let i := y (3 * q + 2)
    if s.flag meterOutletCfgBasis q then y (3 * q + 1) * i - roundHalf (s.num meterOutletCfgRCable q * i * i) (10 ^ 6)
    else y (3 * q) * i
  else if s.flag meterSiteWiring 0 then
    (if q = 12 then y 36 * y 39 + y 37 * y 41 else if q = 13 then y 36 * y 39 else if q = 15 then y 37 * y 41 else 0)
  else (if q = 12 then y 36 * y 39 + y 37 * y 40 + y 38 * y 41 else y (36 + (q - 13)) * y (39 + (q - 13)))

/-- The channels of the head a quantity is measured with. -/
def headChans (q : Nat) : List Nat := if q < 12 then [3 * q, 3 * q + 1, 3 * q + 2] else [36, 37, 38, 39, 40, 41, 42]

/-- Whether a quantity is uncalibrated: a channel of its own with scale zero, or its head another than a channel's calibration names
(spec/07 R203). -/
def State.uncalibrated (s : State) (q : Nat) : Bool :=
  ((s.quantChans q).any fun c => (s.calOf c).scale == 0) || (headChans q).any fun c => Tab.get s.met.swapped c false

/-- How many samples in a row are absent on a channel of a quantity up to an index, at most (spec/07 R188). -/
def State.quantAbsence (s : State) (q n : Nat) : Nat := (s.quantChans q).foldl (fun m c => max m (Tab.get (s.chan43 c).runs n 0)) 0

/-- The flags of a quantity's register set at an index (spec/07 Table 7-10). -/
def State.indexFlags (s : State) (q n : Nat) : State :=
  let s := s.setMeterFlag q 3 ((s.quant q).substAt.any fun k => decide (n < k + 64))
  let s := (s.setMeterFlag q 0 (s.netMode q)).setMeterFlag q 1 (s.clk.base != .locked)
  s.setMeterFlag q 6 (s.uncalibrated q)

/-- One index of a quantity: GAP time, or energy with its substitution marks; consecutive whole indices counted, GAP's beginning and end noted
(spec/07 R188). After a freeze GAP neither begins nor ends (R206). -/
def State.quantIndex (s : State) (q n : Nat) (p : Int) : State :=
  let f := (regFields q).1
  let ab := s.quantAbsence q n
  let r := s.quant q
  let whole := if ab = 0 then r.whole + 1 else 0
  let live := s.counts n
  let s := s.setQuant q { r with whole := whole, substAt := if ab = 0 then r.substAt else some n }
  let s := (s.put f.k (regFields q).2 n).indexFlags q n
  let s := (s.setDue (live && !r.gap && decide (64 < ab)) (gapKey q) n).setDue (live && r.gap && decide (64 ≤ whole)) (gapEndKey q) n
  if r.gap ∨ 64 < ab then (if live then (s.inc f.gap (regFields q).2 15625).putBit billNowFlags q 4 true else s)
  else if q < 12 then s.outletEnergy q n p (decide (0 < ab))
  else if live = false then s.addResidual q p
  else
    let s := if s.netMode q then s.addNet q p else s
    if 0 < ab then s.addSubst q p else s

/-! ### Line cycles (spec/07 R193) -/

/-- v_nom in nV. -/
def State.vNomNv (s : State) : Int := s.num meterSiteVNom 0 * 1000000

/-- A detector after the sample of an index, and the instant of a confirmed positive-going crossing (spec/07 R193): hysteresis of ±2 % of
√2 × v_nom. -/
def zeroStep (z : Zero) (y v : Int) (n : Nat) : Zero × Option Nat :=
  let outside := decide (v * v < 1250 * y * y)
  let at_ := if z.armed && decide (z.prev < 0) && decide (0 ≤ y) then
      some (((n : Int) - 1) * 15625 + (-z.prev) * 15625 / (y - z.prev)).toNat
    else if y < 0 then none else z.at_
  if y < 0 ∧ outside then ({ armed := true, at_ := none, prev := y }, none)
  else if z.armed ∧ 0 < y ∧ outside then ({ armed := false, at_ := none, prev := y }, some (at_.getD (n * 15625)))
  else ({ z with at_ := at_, prev := y }, none)

/-- A sum over two stretches of a cycle. -/
def CycleAcc.add (a b : CycleAcc) : CycleAcc :=
  { n := a.n + b.n, p := List.zipWith (· + ·) a.p b.p, vv := List.zipWith (· + ·) a.vv b.vv, ii := List.zipWith (· + ·) a.ii b.ii,
    nn := a.nn + b.nn }

/-- One index as a cycle's sums; a quantity in GAP adds nothing. -/
def State.cycleOf (s : State) (n : Nat) (y : Nat → Int) : CycleAcc :=
  let pw (q : Nat) : Int := if (s.quant q).gap || decide (64 < s.quantAbsence q n) then 0 else s.power q y
  { n := 1, p := [pw 12, pw 13, pw 14, pw 15], vv := [y 36 * y 36, y 37 * y 37, y 38 * y 38],
    ii := [y 39 * y 39, y 40 * y 40, y 41 * y 41, y 42 * y 42], nn := (y 36 + y 37 + y 38) * (y 36 + y 37 + y 38) }

/-- The order of the crossings of a cycle (spec/07 Table 7-3): one of each voltage, L1–L2–L3 (1) or L1–L3–L2 (2), else 0. -/
def crossOrder (l : List (Nat × Nat)) : Nat :=
  let at_ (m : Nat) : List Nat := (l.filter fun p => p.2 == m).map fun p => p.1
  match at_ 0, at_ 1, at_ 2 with
  | [a], [b], [c] =>
    let rising (x y z : Nat) : Bool := decide (x < y) && decide (y < z)
    if rising a b c || rising b c a || rising c a b then 1 else if rising a c b || rising c b a || rising b a c then 2 else 0
  | _, _, _ => 0

/-- A cycle ends at an instant before index `stop` (spec/07 R193): it waits for its processing, and the next begins with what came since. -/
def State.closeCycle (s : State) (at_ stop : Nat) (rest : CycleAcc) : State :=
  let m := s.met
  let e : EndedCycle := { at_ := at_, first := m.cycleFrom, stop := stop, acc := m.cycle, seq := crossOrder (m.order.filter fun p => decide (p.1 < at_)) }
  { s with met := { m with ended := if m.cycle.n = 0 then m.ended else m.ended ++ [e], cycle := rest, cycleFrom := stop, since := none,
                           order := m.order.filter fun p => decide (at_ ≤ p.1) } }

/-- Flag [7] of the incomer quantities and bit 5 of the events: synthetic cycles. -/
def State.showSynthetic (s : State) (b : Bool) : State :=
  [12, 13, 14, 15].foldl (fun s q => s.setMeterFlag q 7 b) (s.putBit meterStatusEvents 0 5 b)

/-- A confirmed crossing of V1: the cycle's duration, validity, frequency, and leaving of synthetic mode after 10 valid cycles in a row
(spec/07 R193). -/
def State.crossing (s : State) (at_ stop : Nat) (rest : CycleAcc) : State :=
  let m := s.met
  let d := m.lastCross.elim 0 fun l => at_ - l
  let ok := m.lastCross.isSome && decide (15380000 ≤ d) && decide (d ≤ 22220000)
  let valid := if ok then (d :: m.valid).take 10 else m.valid
  let sv := if m.synthetic then (if ok then m.synthValid + 1 else 0) else 0
  let leave := m.synthetic && decide (10 ≤ sv)
  let s := { s with met := { m with lastCross := some at_, lastValid := if ok then at_ else m.lastValid, valid := valid,
                                    synthValid := if leave then 0 else sv, synthetic := m.synthetic && !leave } }
  let total := valid.foldl (· + ·) 0
  let s := if valid.length = 10 ∧ ok then s.put meterStatusFreq 0 (10 * 10 ^ 12 / total) else s
  let s := if leave then s.showSynthetic false else s
  if s.met.synthetic then { s with met := { s.met with cycle := s.met.cycle.add rest, since := none } } else s.closeCycle at_ stop rest

/-- Crossings of the three voltages at an index (spec/07 R193, Table 7-3): three-wire judges V1, −V2 and V3. -/
def State.crossings (s : State) (y : Nat → Int) (n : Nat) (one : CycleAcc) : State :=
  let v := s.vNomNv
  let three := s.flag meterSiteWiring 0
  let val (m : Nat) : Int := if three && m == 1 then -(y 37) else y (36 + m)
  let z (m : Nat) : Zero := Tab.get s.met.zeros m { armed := false, at_ := none, prev := 0 }
  let r (m : Nat) : Zero × Option Nat := zeroStep (z m) (val m) v n
  let found := [0, 1, 2].filterMap fun m => (r m).2.map fun a => (a, m)
  let s := { s with met := { s.met with zeros := [(0, (r 0).1), (1, (r 1).1), (2, (r 2).1)], order := s.met.order ++ found } }
  let since := s.met.since.getD (n, CycleAcc.zero)
  match (r 0).2 with
  | some a => s.crossing a since.1 (since.2.add one)
  | none =>
    if (r 0).1.at_.isSome then { s with met := { s.met with since := some (since.1, since.2.add one) } }
    else { s with met := { s.met with cycle := (s.met.cycle.add since.2).add one, since := none } }

/-- Synthetic mode (spec/07 R193), before the next index: entered where no valid crossing has come for 2 ÷ f_nom; in it a boundary at each
multiple of 10^9 ÷ f_nom ns, indices before it in the old cycle. -/
def State.synthStep (s : State) : State :=
  let n := s.met.next
  let f := max 1 (s.get meterSiteFNom 0)
  if s.counts n = false then s
  else
    let enter := !s.met.synthetic && decide (s.met.lastValid * f + 2000000000 ≤ n * 15625 * f)
    let s := if enter then
        ({ s with met := { s.met with synthetic := true, synthValid := 0, synthNext := (n * 15625 * f + 999999999) / 1000000000 } } : State).showSynthetic true
      else s
    let m := s.met
    if m.synthetic ∧ m.synthNext * 1000000000 ≤ n * 15625 * f then
      let whole := m.cycle.add (m.since.getD (n, CycleAcc.zero)).2
      let s := ({ s with met := { m with cycle := whole, synthNext := m.synthNext + 1 } } : State).closeCycle (m.synthNext * 1000000000 / f) n CycleAcc.zero
      { s with met := { s.met with since := m.since.map fun _ => (n, CycleAcc.zero) } }
    else s

/-! ### Counters of events (spec/07 Table 7-3, R201) -/

/-- Whether a mean square over `n` indices is below a percentage of v_nom. -/
def rmsBelow (sq : Int) (n : Nat) (v : Int) (pct : Int) : Bool := decide (sq * 10000 < pct * pct * v * v * n)

/-- Whether it is above. -/
def rmsAbove (sq : Int) (n : Nat) (v : Int) (pct : Int) : Bool := decide (pct * pct * v * v * n < sq * 10000)

/-- The 16 indices of the feeder trip (spec/07 R201): every |y_V| below 50 % of √2 × v_nom, that is y² below half of v_nom². A trip ends the run
of good cycles. -/
def State.tripIndex (s : State) (n : Nat) (y : Nat → Int) : State :=
  let v := s.vNomNv
  let low (c : Nat) : Bool := decide (2 * y c * y c < v * v)
  let k := if low 36 && low 37 && low 38 then s.met.low + 1 else 0
  let s := { s with met := { s.met with low := k } }
  if k < 16 then s
  else
    let s := { s with met := { s.met with tripAt := n + 1, runs := Tab.del s.met.runs 10 } }
    s.setDue (!s.flag allocSiteFeederTripped 0) (beginKey 4) n

/-- Reverse power of an outlet judged at the end of a block (spec/07 Table 7-3): rev_ms blocks below −rev_w with bpt 0; 100 blocks not so. -/
def State.judgeReverse (s : State) (o n : Nat) : State :=
  let now := s.bit meterStatusRevOut 0 o
  let s := s.setDue (s.counts n && !now && !s.flag allocOutletBpt o && decide (s.get meterOutletCfgRevMs o ≤ Tab.get s.met.revBad o 0)) (revKey o) n
  s.setDue (s.counts n && now && decide (100 ≤ Tab.get s.met.revGood o 0)) (revEndKey o) n

/-- A register as it reads: what the mode does not feed is zero (spec/07 R195). -/
def State.shownReg (s : State) (q : Nat) (f : Fld) : Nat :=
  let r := (regFields q).1
  if (s.netMode q && [r.deliv, r.ret, r.cD, r.cR, r.wD, r.wR].any fun g => g.pos == f.pos) || (!s.netMode q && r.net.pos == f.pos) then 0
  else s.get f (regFields q).2

/-- One block of 1 ms of an outlet ends (spec/07 R212, Table 7-3): the counters of reverse power, the window, the model's i². -/
def State.outletBlockEnd (s : State) (o n : Nat) : State :=
  let b := Tab.get s.met.blocks o BlockAcc.zero
  let rev := decide (b.p < -(s.num meterOutletCfgRevW o) * 10 ^ 18 * 64)
  let m := s.met
  let s := { s with met := { m with
    blocks := Tab.set m.blocks o BlockAcc.zero,
    revBad := Tab.set m.revBad o (if rev then Tab.get m.revBad o 0 + 1 else 0),
    revGood := Tab.set m.revGood o (if rev then 0 else Tab.get m.revGood o 0 + 1),
    seqs := Tab.set m.seqs o (Tab.get m.seqs o 0 + 2) } }
  let i2 := (roundHalf b.ii (64 * 10 ^ 12)).toNat
  let s := s.setCool o { s.coolRec o with i2 := i2, i2n := 1 }
  let s := s.judgeReverse o n
  let w := 0x60000000 + 0x1000 * o
  let mean (x : Int) (d : Int) : Nat := ofSigned 32 (roundHalf x (64 * d))
  let s := (s.poke w 8 (Tab.get s.met.seqs o 0)).poke (w + 8) 8 n
  let s := (s.poke (w + 0x10) 4 (mean b.vc 1000000)).poke (w + 0x14) 4 (mean b.vv 1000000)
  let s := (s.poke (w + 0x18) 4 (mean b.i 1000000)).poke (w + 0x1C) 4 (mean b.p (10 ^ 18))
  let s := (s.poke (w + 0x20) 8 i2).poke (w + 0x28) 2 (ofSigned 16 (Tab.get s.met.shunt o (0, 0)).1)
  let s := (s.poke (w + 0x2C) 1 (s.get meterOutletFlags o)).poke (w + 0x30) 8 (s.shownReg o meterOutletEDeliv)
  (s.poke (w + 0x38) 8 (s.shownReg o meterOutletERet)).poke (w + 0x40) 8 (s.shownReg o meterOutletENet)

/-- An outlet's index added to its block. -/
def State.outletBlock (s : State) (o : Nat) (y : Nat → Int) : State :=
  let b := Tab.get s.met.blocks o BlockAcc.zero
  let i := y (3 * o + 2)
  let b := { vc := b.vc + y (3 * o), vv := b.vv + y (3 * o + 1), i := b.i + i, p := b.p + s.power o y, ii := b.ii + i * i }
  { s with met := { s.met with blocks := Tab.set s.met.blocks o b } }

/-- The indices whose samples are fixed when index `n` is formed: n + 5, and at the first index those before it. -/
def newlySettled (n : Nat) : List Nat := if n = 0 then [0, 1, 2, 3, 4, 5] else [n + 5]

/-- Index n formed (spec/07 R190–R196): samples up to n + 5 settled, corrections, powers, registers, cycles, blocks and counters. -/
def State.formIndex (s : State) : State :=
  let n := s.met.next
  let s := (newlySettled n).foldl (fun s k => (List.range 43).foldl (fun s c => s.settle c k) s) s
  let ys := (List.range 43).map fun c => s.corrected c n
  let y (c : Nat) : Int := ys.getD c 0
  let s := (List.range 16).foldl (fun s q => s.quantIndex q n (s.power q y)) s
  let s := outlets.foldl (fun s o => s.outletBlock o y) s
  let s := if n % 64 = 63 then outlets.foldl (fun s o => s.outletBlockEnd o n) s else s
  let s := if s.counts n then (s.tripIndex n y).crossings y n (s.cycleOf n y) else s
  { s with met := { s.met with next := n + 1 } }

/-! ### Cycle ends (spec/07 R193, R195, R200) -/

/-- The integer square root. -/
def isqrt (n : Int) : Nat := Nat.sqrt n.toNat

/-- The incomer window at a cycle end (spec/07 Table 7-13). -/
def State.incomerWindow (s : State) (a : CycleAcc) : State :=
  let w := 0x6000C000
  let seq := Tab.get s.met.seqs 12 0 + 2
  let s := { s with met := { s.met with seqs := Tab.set s.met.seqs 12 seq } }
  let n : Int := max 1 a.n
  let rms (x : Int) : Nat := isqrt (x / n) / 1000000
  let s := (s.poke w 8 seq).poke (w + 8) 8 (s.met.next - 1)
  let s := (s.poke (w + 0x10) 4 (s.get meterStatusFreq 0)).poke (w + 0x14) 4 (s.get meterIncomerFlags 0 + s.get meterStatusEvents 0 * 256)
  let s := [0, 1, 2].foldl (fun s m =>
    let b := w + 0x18 + 0x10 * m
    let s := (s.poke b 4 (rms (a.vv.getD m 0))).poke (b + 4) 4 (rms (a.ii.getD m 0))
    s.poke (b + 8) 4 (ofSigned 32 (roundHalf (a.p.getD (m + 1) 0) (n * 10 ^ 18)))) s
  let s := (s.poke (w + 0x48) 4 (if s.flag meterSiteWiring 0 then 0 else rms (a.ii.getD 3 0))).poke (w + 0x4C) 4
    (ofSigned 32 (roundHalf (a.p.getD 0 0) (n * 10 ^ 18)))
  let s := (s.poke (w + 0x50) 8 (s.shownReg 12 meterIncomerEDeliv)).poke (w + 0x58) 8 (s.shownReg 12 meterIncomerERet)
  s.poke (w + 0x60) 8 (s.shownReg 12 meterIncomerENet)

/-- A run of cycles that meet a condition: it goes on, begins at an index, or is broken. -/
def State.setRun (s : State) (id : Nat) (on : Bool) (first : Nat) : State :=
  let r := Tab.get s.met.runs id (first, 0)
  { s with met := { s.met with runs := if on then Tab.set s.met.runs id (r.1, r.2 + 1) else Tab.del s.met.runs id } }

/-- Cycles of a run; 0 where there is none. -/
def State.runCycles (s : State) (id : Nat) : Nat := (Tab.find s.met.runs id).elim 0 fun r => r.2

/-- First index of a run. -/
def State.runFirst (s : State) (id : Nat) : Nat := (Tab.find s.met.runs id).elim 0 fun r => r.1

/-- Whether a run has lasted `k` indices by the index before `stop`. -/
def State.runLasts (s : State) (id k stop : Nat) : Bool := (Tab.find s.met.runs id).any fun r => decide (r.1 + k ≤ stop)

/-- The runs a cycle moves (spec/07 Table 7-3): 0 reverse power and 1 not; 2 wrong and 3 right order; 4 neutral voltage above 10 % and 5 below
5 %; 6 to 8 a voltage below 50 % while another is above 80 %; 9 every voltage at or above 85 %, 10 the same since a trip. -/
def State.cycleRuns (s : State) (e : EndedCycle) : State :=
  let a := e.acc
  let v := s.vNomNv
  let rev := decide (a.p.getD 0 0 < -(s.num meterSiteRevInW 0) * 10 ^ 18 * a.n)
  let sq (i : Nat) : Int := a.vv.getD i 0
  let lost (i : Nat) : Bool := rmsBelow (sq i) a.n v 50 && [0, 1, 2].any fun j => j != i && rmsAbove (sq j) a.n v 80
  let good := [0, 1, 2].all fun i => !rmsBelow (sq i) a.n v 85
  let four := !s.flag meterSiteWiring 0
  let on : List Bool := [rev, !rev, e.seq == 2, e.seq == 1, four && rmsAbove a.nn a.n (3 * v) 10, rmsBelow a.nn a.n (3 * v) 5,
    lost 0, lost 1, lost 2, good]
  let s := (List.range 10).foldl (fun s i => s.setRun i (on.getD i false) e.first) s
  s.setRun 10 (good && decide (s.met.tripAt < e.stop)) (max e.first s.met.tripAt)

/-- What of Table 7-3 is complete with a cycle: an event not in progress begins, one in progress ends; a duration in indices at its last one. -/
def State.judgeCycle (s : State) (e : EndedCycle) : State :=
  let now (b : Nat) : Bool := s.bit meterStatusEvents 0 b
  let last := e.stop - 1
  let rev := s.get meterSiteRevInS 0 * 64000
  let lost := [6, 7, 8].find? fun i => decide (3 ≤ s.runCycles i)
  let s := match lost with
    | some i => if now 3 then s else { s with met := { s.met with lossCh := 30 + i } }
    | none => s
  let s := s.setDue (!now 0 && s.runLasts 0 rev e.stop) (beginKey 0) (s.runFirst 0 + rev - 1)
  let s := s.setDue (now 0 && decide (10 ≤ s.runCycles 1)) (endKey 0) last
  let s := s.setDue (!now 1 && decide (10 ≤ s.runCycles 2)) (beginKey 1) last
  let s := s.setDue (now 1 && decide (10 ≤ s.runCycles 3)) (endKey 1) last
  let s := s.setDue (!now 2 && s.runLasts 4 64000 e.stop) (beginKey 2) (s.runFirst 4 + 63999)
  let s := s.setDue (now 2 && s.runLasts 5 64000 e.stop) (endKey 2) (s.runFirst 5 + 63999)
  let s := s.setDue (!now 3 && lost.isSome) (beginKey 3) last
  let s := s.setDue (now 3 && s.runLasts 9 64000 e.stop) (endKey 3) (s.runFirst 9 + 63999)
  s.setDue (s.flag allocSiteFeederTripped 0 && s.runLasts 10 64000 e.stop) (endKey 4) (s.runFirst 10 + 63999)

/-- The sums of a cycle taken by the absolute registers of the incomer, each quantity judged alone (spec/07 R195). -/
def State.takeSums (s : State) (a : CycleAcc) : State :=
  if s.netMode 12 then s
  else [12, 13, 14, 15].foldl (fun s q =>
    let p := a.p.getD (q - 12) 0
    if 0 ≤ p then s.addDeliv q p else s.addRet q (-p)) s

/-- A cycle's end processed (spec/07 R195, R198, R200): registers, runs and events, its count with the latch due at every N-th, the window. -/
def State.endCycle (s : State) (e : EndedCycle) : State :=
  let s := ((s.takeSums e.acc).cycleRuns e).judgeCycle e
  let n := s.met.cycles + 1
  let due := n % max 1 (s.get meterSiteCompatN 0) == 0
  let s := { s with met := { s.met with cycles := n, latchIn := if due then some e.stop else s.met.latchIn } }
  (s.incWrap amnCyclesCycles 0 1).incomerWindow e.acc

/-- The cycle that a freeze cuts (spec/07 R206): its indices at or before the edge count, so its sums so far are taken as a cycle's
(notes/assumptions/45.md). -/
def State.cutCycle (s : State) : State :=
  let a := s.met.cycle.add (s.met.since.elim CycleAcc.zero fun p => p.2)
  let s := { s with met := { s.met with cycle := CycleAcc.zero, since := none, order := [], zeros := [] } }
  if a.n = 0 then s else s.takeSums a

end Sys2Proof.Machine
end

