-- ==== Sys2Proof/Machine/Ckpt.lean ====
section
/-! DEFINITION. Accumulator checkpoints and the power-fail commit (spec/15 R406, R407, R414). -/

namespace Sys2Proof.Machine

/-- The objects a checkpoint holds: meter.outlet, meter.incomer, the compatibility registers, the bill objects. -/
def ckObj (o : Nat) : Bool := [0x0860, 0x0880, 0x0C10, 0x0C20, 0x0C30, 0x0C40, 0x0C60, 0x1C00].contains o

/-- The object ID a key of the store carries. -/
def keyObj (k : Nat) : Nat := k / 4 / 65536 / 65536

/-- The newest of two copies, where each decodes. -/
def newest (a b : Option Checkpoint) : Option Checkpoint :=
  match a, b with
  | none, y => y
  | x, none => x
  | some x, some y => if x.seq < y.seq then some y else some x

/-- The state of the registers as a checkpoint, at the last index formed. -/
def State.takeCheckpoint (s : State) (seq : Nat) (frozen : Bool) : Checkpoint :=
  let k := s.met.next - 1
  { seq := seq, k := k, siteTime := k * 15625, legal := s.legal (k * 15625), frozen := frozen, bundleSeq := s.bill.bundle.elim 0 fun b => b.seq,
    fields := s.objs.filter fun e => ckObj (keyObj e.1), quants := s.met.quants, subs := s.bill.subs, subStart := s.bill.subStart,
    sessions := s.bill.sessions }

/-- The number of the next checkpoint. -/
def State.nextCkSeq (s : State) : Nat := (newest s.dur.a s.dur.b).elim 1 fun c => c.seq + 1

/-- A checkpoint committed into the copy that does not hold the newest one (spec/15 R406). -/
def State.commitCopy (s : State) (c : Checkpoint) : State :=
  let n := newest s.dur.a s.dur.b
  if n.isSome ∧ n = s.dur.a then { s with dur := { s.dur with b := some c } } else { s with dur := { s.dur with a := some c } }

/-- The last index at or before a whole second of site time has been formed (spec/15 R406): the state there waits to be committed, unless a
freeze is in force. -/
def State.readyCheckpoint (s : State) : State :=
  if (s.met.next - 1) % 64000 = 0 ∧ s.met.frozen.isNone then { s with dur := { s.dur with ready := some (s.takeCheckpoint 0 false) } } else s

end Sys2Proof.Machine
end

