-- ==== Sys2Proof/Machine/Pulse.lean ====
section
/-! DEFINITION. The metrology test pulse counted per index (spec/17 R461). -/

namespace Sys2Proof.Machine

/-- The register meter.pulse selects, as it stands: e_deliv or e_ret, in net mode e_net. -/
def State.pulseReg (s : State) : Int :=
  let q := s.get meterPulseQuantity 0
  let r := regFields q
  if s.netMode q then s.geti r.1.net r.2
  else if s.flag meterPulseDir 0 then (s.get r.1.ret r.2 : Int) else (s.get r.1.deliv r.2 : Int)

/-- What the register moved in the selected direction since it was last seen, µWh. -/
def State.pulseStep (s : State) : Nat :=
  let d := s.pulseReg - s.pins.pulseLast
  if s.netMode (s.get meterPulseQuantity 0) && s.flag meterPulseDir 0 then (-d).toNat else d.toNat

/-- The pulse counter begins from the register's value. -/
def State.startPulses (s : State) : State := { s with pins := { s.pins with pulseLast := s.pulseReg, pulseSum := 0 } }

/-- An index counted: one pulse for each multiple of the constant passed; beyond a backlog of 65,535 they are lost. -/
def State.countPulses (s : State) : State :=
  if s.flag meterPulseEnable 0 = false then s
  else
    let c := max 1 (s.get meterPulseConstant 0)
    let sum := s.pins.pulseSum + s.pulseStep
    let n := sum / c
    let b := s.get meterPulseBacklog 0 + n
    let s := { s with pins := { s.pins with pulseLast := s.pulseReg, pulseSum := sum % c } }
    (s.put meterPulseBacklog 0 (min b 65535)).inc meterPulseLost 0 (b - 65535)

end Sys2Proof.Machine
end

