-- ==== Sys2Proof/Machine/Bill.lean ====
section
/-! DEFINITION. Billing: intervals and demand, boundaries, sessions and receipts (spec/08 R218–R231). -/

namespace Sys2Proof.Machine

/-! ### Intervals and demand (spec/08 R224–R227) -/

/-- Demand of a quantity over a window (spec/08 R225): W, from energy in µWh and the divisor in ns, rounded half up. -/
def demandOf (e : Nat) (divNs : Nat) : Nat := (roundHalf ((e : Int) * 3600000) (max 1 divNs)).toNat

/-- T in ns. -/
def State.demandNs (s : State) : Nat := s.get billConfigLength 0 * 60000000000

/-- The window's demand of a quantity compared with d_max of the rate in force (spec/08 R226). -/
def State.compareDemand (s : State) (w : List SubInt) (endUtc q : Nat) : State :=
  let e := w.foldl (fun n x => n + x.e.getD q 0) 0
  let fl := w.foldl (fun n x => n ||| x.flags.getD q 0) 0
  let span := (w.head?.elim 0 fun x => x.stop) - (w.getLast?.elim 0 fun x => x.start)
  let d := demandOf e (if w.all (fun x => x.whole) then max s.demandNs span else s.demandNs)
  let r := s.get billStateRate 0 % 16
  let s := if s.get (billDemandDMax r) q < d then
      ((s.put (billDemandDMax r) q d).put (billDemandFlags r) q fl).put (billDemandEndUtc r) q endUtc
    else s
  if s.get billSummaryDMax q < d then s.put billSummaryDMax q d else s

/-- The interval in progress closes at an index's instant: it joins the window, and demand is computed (spec/08 R225). `tell` is the flag
bit it is closed with, if any. -/
def State.closeInterval (s : State) (tell : Option Nat) (endUtc atNs : Nat) : State :=
  let s := tell.elim s fun n => s.intervalFlag n true
  let cur : SubInt := { e := (List.range 16).map (s.get billNowEInt), flags := (List.range 16).map (s.get billNowFlags),
                        start := s.bill.subStart, stop := atNs, whole := s.bill.subWhole }
  let w := (cur :: s.bill.subs).take (max 1 (s.get billConfigSubint 0))
  let s := (List.range 16).foldl (fun s q => s.compareDemand w endUtc q) s
  { s with bill := { s.bill with subs := w } }

/-- A new interval opens; after an opening event the window starts anew (spec/08 R225, R227). -/
def State.openInterval (s : State) (tell : Option Nat) (event : Bool) (startUtc atNs : Nat) : State :=
  let s := (List.range 16).foldl (fun s q => (s.put billNowEInt q 0).put billNowFlags q 0) s
  let s := tell.elim s fun n => s.intervalFlag n true
  let s := { s with bill := { s.bill with subStart := atNs, subWhole := true, subs := if event then [] else s.bill.subs } }
  s.put billStateIntervalStart 0 startUtc

/-- next_boundary and flag [2] of bill.state, flag [0] (spec/08 R215, R219). -/
def State.showBoundary (s : State) (t : Nat) : State :=
  let b := s.get billStateBLast 0
  let s := s.put billStateNextBoundary 0 (s.nextBoundary b)
  let s := s.putBit billStateFlags 0 0 (!s.legalValid)
  s.putBit billStateFlags 0 2 (s.legalValid && decide (s.legal t < b))

/-! ### Boundaries (spec/08 R218, R220, R222, R228) -/

/-- The fields of the bill objects that a bundle holds: bill.state, bill.now, bill.demand, bill.summary and the active calendar. -/
def bundleField (k : Nat) : Bool :=
  let o := k / 2 ^ 34
  o == 0x0C10 || o == 0x0C20 || o == 0x0C30 || o == 0x0C60 || (decide (0x0C01 ≤ o) && decide (o ≤ 0x0C04))

/-- The bundle committed (spec/08 R228, spec/15 R407): the newest one, its LEGAL record, source 0x40. -/
def State.commitBundle (s : State) (n t : Nat) : State :=
  let seq := s.bill.bundle.elim 1 fun b => b.seq + 1
  let fields := s.objs.filter fun e => bundleField e.1
  let b : Bundle := { seq := seq, k := n, fields := fields, subs := s.bill.subs, subStart := s.bill.subStart }
  let s := { s with bill := { s.bill with bundle := some b, bundleOld := s.bill.bundle } }
  (s.legalRecord recBundle 16 (s.get billStateBLast 0 + b.seq * 2 ^ 64) t).raise 0x40 t

/-- The passive calendar becomes active in one step (spec/08 R222): event type 18. -/
def State.activateCalendar (s : State) (t : Nat) : State :=
  let s := (List.range 16).foldl (fun s i => s.putAll (i + 16) (calSeasonDef.fields.map fun f => (f, s.get f i))) s
  let s := (List.range 8).foldl (fun s i => s.putAll (i + 8) (calWeekDef.fields.map fun f => (f, s.get f i))) s
  let s := (List.range 32).foldl (fun s i => s.putAll (i + 32) (calDayDef.fields.map fun f => (f, s.get f i))) s
  let s := (List.range 64).foldl (fun s i => s.putAll (i + 64) (calSpecialDef.fields.map fun f => (f, s.get f i))) s
  let s := (s.put billStateCalActiveVer 0 (s.get billStateCalPassiveVer 0)).putBit billStateFlags 0 1 false
  let v := s.get billStateCalActiveVer 0
  ((s.put billStateActivationUtc 0 0).tamper 18 v t).legalRecord recActivation 4 v t

/-- The rate in force at a UTC second from the active calendar; unchanged where it does not say (notes/assumptions/19.md). -/
def State.takeRate (s : State) (u : Nat) : State :=
  match s.rateAt true (s.localReached u) with
  | none => s
  | some (se, w, dp, r) => (((s.put billStateSeason 0 se).put billStateWeek 0 w).put billStateDay 0 dp).put billStateRate 0 r

/-- Boundaries due at an index with legal time `l` crossed together as one bundle (spec/08 R218, R228). A boundary off the demand grid closes
and opens short intervals; only such a one starts the window anew (R225, R227). -/
def State.crossBoundaries (s : State) (l n t : Nat) : State :=
  let b := s.get billStateBLast 0
  let first := s.nextBoundary b
  let last := s.lastBoundary b l
  let offFirst := !s.onGrid first
  let offLast := !s.onGrid last
  let s := s.closeInterval (if offFirst then some 0 else none) first (n * 15625)
  let act := (s.activationAfter b).any fun a => decide (a ≤ l)
  let s := if act then s.activateCalendar t else s
  let s := s.takeRate l
  let s := s.openInterval (if offLast then some 0 else none) (offFirst || offLast) last (n * 15625)
  let s := (s.put billStateBLast 0 last).showBoundary t
  s.commitBundle n t

/-- The first index with valid legal time after a loss of the field side (spec/08 R229): every boundary that became due during the outage is
crossed in one bundle; no interval of the outage is recorded, and the one in progress, opened at restart, goes on unless the rate in force
changes, which closes it (R226). -/
def State.crossAfterCut (s : State) (l n t : Nat) : State :=
  let b := s.get billStateBLast 0
  let s := { s with bill := { s.bill with cut := false } }
  let s := s.put billStateIntervalStart 0 l
  if l < s.nextBoundary b then s
  else
    let last := s.lastBoundary b l
    let act := (s.activationAfter b).any fun a => decide (a ≤ l)
    let u := (if act then s.activateCalendar t else s).takeRate l
    let s := if u.get billStateRate 0 = s.get billStateRate 0 then u
      else
        let v := s.closeInterval (some 3) l (n * 15625)
        ((if act then v.activateCalendar t else v).takeRate l).openInterval (some 3) true l (n * 15625)
    ((s.put billStateBLast 0 last).showBoundary t).commitBundle n t

/-- What a clock step does to the interval at the first index at or after its mark (spec/08 R216, R219, R227): beyond adjust_lim it is split; an
interval that goes on behind b_last is extended. -/
def State.takeStep (s : State) (n : Nat) : State :=
  match s.bill.stepped with
  | none => s
  | some c =>
    if n * 15625 < c.at_ then s
    else
      let s := { s with bill := { s.bill with stepped := none } }
      let s := if c.large then (s.closeInterval (some 2) c.old (n * 15625)).openInterval (some 2) true c.new (n * 15625) else s
      if c.new < s.get billStateBLast 0 then s.intervalFlag 5 true else s

/-- The boundary check at an index (spec/08 R215, R218, R219), after a clock step that takes effect at it. -/
def State.boundaryIndex (s : State) (n t : Nat) : State :=
  let l := s.legal (n * 15625)
  let s := if s.counts n then s.takeStep n else s
  let s := if s.legalValid ∧ s.counts n ∧ s.bill.cut then s.crossAfterCut l n t
    else if s.legalValid = false ∨ s.counts n = false ∨ l < s.nextBoundary (s.get billStateBLast 0) then s
    else s.crossBoundaries l n t
  s.putBit billStateFlags 0 2 (s.legalValid && decide (l < s.get billStateBLast 0))

/-! ### Sessions and receipts (spec/08 R230, R231) -/

/-- The signed or delivered register of an outlet: e_deliv, or e_net in net mode. -/
def State.mainReg (s : State) (o : Nat) : Int := if s.netMode o then s.geti meterOutletENet o else s.num meterOutletEDeliv o

/-- A session opens at index `n` (spec/08 R230). -/
def State.openSession (s : State) (o n : Nat) : State :=
  let u := s.legal (n * 15625)
  let b : BillSess :=
    { startK := n, startUtc := u, regStart := s.mainReg o, retStart := if s.netMode o then 0 else s.get meterOutletERet o,
      substStart := s.get meterOutletESubst o, gapStart := s.get meterOutletGapNs o, deliv := [], ret := [], pMax := 0, flags := 0,
      offset := s.offsetAt u }
  { s with bill := { s.bill with sessions := Tab.set s.bill.sessions o b, enterAt := Tab.del s.bill.enterAt o } }

/-- Bytes placed at an offset of an image. -/
def place (off v n : Nat) : Nat := v % 2 ^ (8 * n) * 2 ^ (8 * off)

/-- The bytes of an object's indices one after the other: `size` bytes each, as READ returns them. -/
def State.imageOf (s : State) (d : ObjDef) (i : Nat) : Nat := d.fields.foldl (fun v f => v + s.get f i * 2 ^ f.pos) 0

/-- tamper_digest: the first 8 bytes of SHA-512 over bill.tamper[0–23] (spec/08 Table 8-9). -/
def State.tamperDigest (s : State) : Nat :=
  let img := (List.range 24).foldl (fun v i => v + s.imageOf billTamperDef i * 2 ^ (8 * 24 * i)) 0
  Config.sha512 (24 * 24) img % 2 ^ 64

/-- The receipt body of Table 8-9, bytes 0x000–0x1FF. -/
def State.receiptBody (s : State) (o no stopK : Nat) (b : BillSess) (flags : Nat) : Nat :=
  let stop := s.mainReg o
  let ret := if s.netMode o then 0 else s.get meterOutletERet o
  let eD := (List.range 16).foldl (fun n r => n + Tab.get b.deliv r 0) 0
  let eR := (List.range 16).foldl (fun n r => n + Tab.get b.ret r 0) 0
  place 0 0x31504352 4 + place 4 1 2 + place 6 o 1
    + place 7 ((if s.netMode o then 1 else 0) + (if s.flag meterOutletCfgBasis o then 2 else 0)) 1
    + place 8 no 8 + place 0x10 (s.get devIdentSerial 0) 8 + place 0x18 (s.get vlSessionSessionId o) 8
    + place 0x20 b.startUtc 8 + place 0x28 (s.legal (stopK * 15625)) 8 + place 0x30 b.startK 8 + place 0x38 stopK 8
    + place 0x40 (ofSigned 64 b.regStart) 8 + place 0x48 (ofSigned 64 stop) 8 + place 0x50 b.retStart 8 + place 0x58 ret 8
    + place 0x60 eD 8 + place 0x68 eR 8 + place 0x70 (s.get meterOutletESubst o - b.substStart) 8
    + place 0x78 (s.get meterOutletGapNs o - b.gapStart) 8
    + (List.range 16).foldl (fun v r => v + place (0x80 + 8 * r) (Tab.get b.deliv r 0) 8 + place (0x100 + 8 * r) (Tab.get b.ret r 0) 8) 0
    + place 0x180 (s.get vlSessionEvccid o) 6 + place 0x188 (s.get vlSessionContractId o) 24 + place 0x1A0 b.pMax.toNat 4
    + place 0x1A4 flags 4 + place 0x1A8 (s.get billStateCalActiveVer 0) 4 + place 0x1AC (ofSigned 32 b.offset) 4
    + place 0x1B0 s.tamperDigest 8 + place 0x1B8 (s.get crqStateEpoch 0) 4

/-- A receipt complete with its signature (spec/08 R231, R232): readable, journaled, source 0x41. -/
def State.storeReceipt (s : State) (no body sig t : Nat) : State :=
  let img := body + sig % 2 ^ 4096 * 2 ^ 4096
  let s := (List.range 4).foldl (fun s p => s.put billReceiptPart (4 * (no % 16384) + p) (img / 2 ^ (2048 * p))) s
  (s.legalRecord recReceipt 1024 img t).raise 0x41 t

/-- Whether the legal signing key exists: in SEALED only (spec/14 Table 14-9). -/
def State.hasLegalKey (s : State) : Bool := s.get lcStateState 0 == 2

/-- A session's receipt (spec/08 R231): its number taken, sent to HK for its signature, or completed unsigned with flag [3] where no legal
signing key exists. -/
def State.receipt (s : State) (o stopK : Nat) (b : BillSess) (extra t : Nat) : State :=
  let no := s.bill.nextReceipt
  let s := { s with bill := { s.bill with nextReceipt := no + 1, sessions := Tab.del s.bill.sessions o, leaveAt := Tab.del s.bill.leaveAt o } }
  if s.hasLegalKey then
    { s with bill := { s.bill with unsigned := s.bill.unsigned ++ [(no, s.receiptBody o no stopK b (b.flags ||| extra))] } }
  else s.storeReceipt no (s.receiptBody o no stopK b (b.flags ||| extra ||| 8)) 0 t

/-- Sessions that open or close at index `n` (spec/08 R230), and what it marks on those open: flags and the 1 ms power. -/
def State.sessionIndex (s : State) (n t o : Nat) : State :=
  let s := match Tab.find s.bill.sessions o with
    | none => s
    | some b =>
      let f := s.get meterOutletFlags o
      let add := (if f.testBit 6 then 1 else 0) ||| (if f.testBit 3 then 2 else 0) ||| (if s.legalValid then 0 else 16)
        ||| (if f.testBit 2 then 64 else 0)
      let p := toSigned 32 (Memory.read s.mem (0x60000000 + 0x1000 * o + 0x1C) 4)
      let b := { b with flags := b.flags ||| add, pMax := if n % 64 = 63 ∧ b.startK + 64 ≤ n then max b.pMax p else b.pMax }
      { s with bill := { s.bill with sessions := Tab.set s.bill.sessions o b } }
  let s := match Tab.find s.bill.enterAt o with
    | some e => if e ≤ n * 15625 ∧ (Tab.find s.bill.sessions o).isNone then s.openSession o n else s
    | none => s
  match Tab.find s.bill.leaveAt o, Tab.find s.bill.sessions o with
  | some e, some b => if e ≤ n * 15625 then s.receipt o n b 0 t else s
  | some e, none => if e ≤ n * 15625 ∧ (Tab.find s.bill.enterAt o).isNone then { s with bill := { s.bill with leaveAt := Tab.del s.bill.leaveAt o } } else s
  | none, _ => s

end Sys2Proof.Machine
end

