-- ==== Sys2Proof/Machine/MetRows.lean ====
section
/-! DEFINITION. Meanings of the metrology engine's events (spec/07). What an index brought about waits in `Met.due` for its row; the next index takes
whatever still waits first. -/

namespace Sys2Proof.Machine

/-- A bit of meter.status.events written. -/
def State.setMetEvent (s : State) (n : Nat) (b : Bool) : State := s.putBit meterStatusEvents 0 n b

/-- The avenue whose head measures a quantity: an outlet's outlet head, or the incomer head. -/
def State.avenueOfQuant (s : State) (q : Nat) : Option Nat :=
  (if q < 12 then s.outletHead q else (List.range 48).find? fun h => s.get headRecordType h == 3).map (· / 8)

/-- A metrology event of Table 7-3 or of R188, which an injection on the avenue may have provoked (spec/18 R478). -/
def State.metTamper (s : State) (q typ detail t : Nat) : State :=
  let slot := (s.avenueOfQuant q).elim none fun a => s.provokedAvenue a t
  (if slot.isSome then s.inc injStatsMetrology 0 1 else s).tamperOf slot typ detail t

/-! ### GAP (spec/07 R188) -/

/-- A quantity enters GAP at the instant of its 65th absent sample. -/
def State.enterGap (s : State) (q t : Nat) : State :=
  match Tab.find s.met.due (gapKey q) with
  | none => s
  | some a =>
    let s := s.dropDue (gapKey q)
    let s := s.setQuant q { s.quant q with gap := true, gapFrom := a / 15625 }
    let s := (s.setMeterFlag q 2 true).putBit meterStatusGap 0 q true
    (s.raise 0x36 a).metTamper q 16 q t

/-- A quantity leaves GAP after its 64th whole index. -/
def State.leaveGap (s : State) (q : Nat) : State :=
  match Tab.find s.met.due (gapEndKey q) with
  | none => s
  | some a =>
    let s := s.dropDue (gapEndKey q)
    let s := s.setQuant q { s.quant q with gap := false }
    ((s.setMeterFlag q 2 false).putBit meterStatusGap 0 q false).raise 0x36 a

/-- GAP_BEGIN: the 65th consecutive absent sample on a channel of the quantity. -/
def execGapBegin (t : Nat) (q : Fin 16) (s : State) : Res := .next ((s.at t).enterGap q t)

/-- GAP_END: 64 consecutive indices with every channel present. -/
def execGapEnd (t : Nat) (q : Fin 16) (s : State) : Res := .next ((s.at t).leaveGap q)

/-- SHUNT_TEMP_STALE (spec/07 R188): 1 s without a valid shunt temperature sets flag [7]. -/
def execShuntTempStale (t : Nat) (o : Fin 12) (s : State) : Res :=
  let s := s.at t
  let last := (Tab.get s.met.shunt o (0, 0)).2
  if t < last + 1000000000 then .next s else .next (s.setMeterFlag o 7 true)

/-! ### Cycles, ticks, latches (spec/07 R193, R195, R198) -/

/-- One quantity's latch (spec/07 R198, spec/08 R237): wh modulo 2^32, wraps modulo 256, the boundary's index, the AMN-4 block. -/
def State.latch (s : State) (q k : Nat) : State :=
  let f := (regFields q).1
  let i := (regFields q).2
  let net := s.netMode q
  let d := if net then 0 else s.get f.deliv i / 1000000
  let r := if net then 0 else s.get f.ret i / 1000000
  let s := ((s.put f.cD i d).put f.cR i r).put f.wD i (d / 2 ^ 32)
  let s := (s.put f.wR i (r / 2 ^ 32)).put f.ck i k
  let s := ((s.put amnLatchCDeliv q d).put amnLatchCRet q r).put amnLatchWDeliv q (d / 2 ^ 32)
  (s.put amnLatchWRet q (r / 2 ^ 32)).incWrap amnLatchLatchNo q 1

/-- The latch that is due of the incomer quantities, or of the outlets, if one is. -/
def State.takeLatch (s : State) (incomer : Bool) : State :=
  match (if incomer then s.met.latchIn else s.met.latchOut) with
  | none => s
  | some k =>
    let s := (if incomer then [12, 13, 14, 15] else outlets).foldl (fun s q => s.latch q k) s
    let s := { s with met := if incomer then { s.met with latchIn := none } else { s.met with latchOut := none } }
    s.raise 0x37 (k * 15625)

/-- COMPAT_LATCH (spec/07 R198): at every N-th cycle or tick boundary. -/
def execCompatLatch (t : Nat) (incomer : Bool) (s : State) : Res := .next ((s.at t).takeLatch incomer)

/-- The oldest cycle that has ended is taken; a latch that an earlier one left due comes first. -/
def State.takeCycle (s : State) : State :=
  match s.met.ended with
  | [] => s
  | e :: rest => ({ s.takeLatch true with met := { (s.takeLatch true).met with ended := rest } }).endCycle e

/-- LINE_CYCLE_END: the oldest cycle that has ended is taken. -/
def execLineCycleEnd (t : Nat) (s : State) : Res := .next (s.at t).takeCycle

/-- SYNTHETIC_BOUNDARY (spec/07 R193): no crossing for 2 ÷ f_nom; boundaries at the multiples of 10^9 ÷ f_nom ns. -/
def execSyntheticBoundary (t : Nat) (s : State) : Res := .next (s.at t).synthStep

/-- The tick period whose last index has been formed ends (spec/07 R193, R198): at every N-th the outlets' latch is due, not after a freeze
(R206). -/
def State.tickStep (s : State) : State :=
  let m := s.met.tick + 1
  if s.met.next < m * 1280 then s
  else
    let s := s.takeLatch false
    let due := m % max 1 (s.get meterSiteCompatN 0) == 0 && s.counts (m * 1280)
    { s with met := { s.met with tick := m, latchOut := if due then some (m * 1280) else none } }

/-- OUTLET_TICK (spec/07 R193): the synthetic 50 Hz tick at multiples of 20 ms. -/
def execOutletTick (t : Nat) (s : State) : Res := .next (s.at t).tickStep

/-! ### Events (spec/07 Table 7-3, R200–R202) -/

/-- Reverse power of an outlet begins: the Kerb retracts the outlet (spec/04 R119), the converter stops with cause 0x0E (spec/05 R163). -/
def State.beginReverse (s : State) (o t : Nat) : State :=
  match Tab.find s.met.due (revKey o) with
  | none => s
  | some a =>
    let s := (((s.dropDue (revKey o)).putBit meterStatusRevOut 0 o true).raise 0x30 a).metTamper o 10 o t
    (s.zeroCaps [o] t).immediateStop o 0x0E 0 t

/-- Reverse power of an outlet ends. -/
def State.endReverse (s : State) (o : Nat) : State :=
  match Tab.find s.met.due (revEndKey o) with
  | none => s
  | some a => ((s.dropDue (revEndKey o)).putBit meterStatusRevOut 0 o false).raise 0x30 a

/-- REVERSE_POWER_OUTLET. -/
def execReversePowerOutlet (t : Nat) (o : Fin 12) (s : State) : Res := .next ((s.at t).beginReverse o t)

/-- Source, event type and detail of an event of meter.status.events. -/
def State.metEvent (s : State) (bit : Nat) : Nat × Nat × Nat := (0x31 + bit, 11 + bit, if bit = 3 then s.met.lossCh else 0)

/-- An event of meter.status.events that is due begins (spec/07 R202): bit, source, record. -/
def State.beginMet (s : State) (bit t : Nat) : State :=
  match Tab.find s.met.due (beginKey bit) with
  | none => s
  | some a =>
    let e := s.metEvent bit
    (((s.dropDue (beginKey bit)).setMetEvent bit true).raise e.1 a).metTamper 12 e.2.1 e.2.2 t

/-- An event of meter.status.events that is due to end ends: its source again. -/
def State.endMet (s : State) (bit : Nat) : State :=
  match Tab.find s.met.due (endKey bit) with
  | none => s
  | some a => ((s.dropDue (endKey bit)).setMetEvent bit false).raise (0x31 + bit) a

/-- REVERSE_POWER_INCOMER: below −rev_in_w in every cycle for rev_in_s. -/
def execReversePowerIncomer (t : Nat) (s : State) : Res := .next ((s.at t).beginMet 0 t)

/-- WRONG_PHASE_SEQUENCE: 10 consecutive cycles in the order L1, L3, L2. -/
def execWrongPhaseSequence (t : Nat) (s : State) : Res := .next ((s.at t).beginMet 1 t)

/-- MISSING_NEUTRAL, four-wire only: 64,000 consecutive indices. -/
def execMissingNeutral (t : Nat) (s : State) : Res := .next ((s.at t).beginMet 2 t)

/-- PHASE_LOSS: 3 consecutive cycles. -/
def execPhaseLoss (t : Nat) (s : State) : Res := .next ((s.at t).beginMet 3 t)

/-- A feeder trip that is due (spec/07 R201): feeder_tripped, trigger T2 with the stamp of the 16th index, bus-support. -/
def State.beginTrip (s : State) (t : Nat) : State :=
  match Tab.find s.met.due (beginKey 4) with
  | none => s
  | some a => (((s.beginMet 4 t).put allocSiteFeederTripped 0 1).enterBusSupport).fastTrip a

/-- A feeder trip that is due to end. -/
def State.endTrip (s : State) (t : Nat) : State :=
  match Tab.find s.met.due (endKey 4) with
  | none => s
  | some _ => ((s.endMet 4).put allocSiteFeederTripped 0 0).showLimits t

/-- FEEDER_TRIP (spec/07 R201). -/
def execFeederTrip (t : Nat) (s : State) : Res := .next ((s.at t).beginTrip t)

/-- FEEDER_TRIP_CLEAR (spec/07 R201): every voltage's cycle RMS at or above 85 % for 64,000 indices. -/
def execFeederTripClear (t : Nat) (s : State) : Res := .next ((s.at t).endTrip t)

/-- METROLOGY_EVENT_END (spec/07 Table 7-3): an event in progress ends and raises its source again. -/
def execMetrologyEventEnd (t : Nat) (ev : MetEvent) (s : State) : Res :=
  let s := s.at t
  match ev with
  | .reverseOutlet o => .next (s.endReverse o)
  | .reverseIncomer => .next (s.endMet 0)
  | .phaseSequence => .next (s.endMet 1)
  | .missingNeutral => .next (s.endMet 2)
  | .phaseLoss => .next (s.endMet 3)

/-! ### Head substitution and calibration (spec/07 R203, R209, R210) -/

/-- The head that carries a channel: an outlet's outlet head, or the incomer head. -/
def State.headOfChan (s : State) (c : Nat) : Option Nat :=
  if c < 36 then s.outletHead (c / 3)
  else (List.range 48).find? fun h => s.get headRecordType h == 3

/-- The identity a channel's head has reported; 0 where none has. -/
def State.headIdOf (s : State) (c : Nat) : Nat := (s.headOfChan c).elim 0 fun h => s.get headRecordHeadId h

/-- A metrology head's reported identity compared with head_id of each of its channels (spec/07 R203). -/
def State.judgeHead (s : State) (h t : Nat) : State :=
  let mine := (List.range 43).filter fun c => s.headOfChan c == some h
  let bad := mine.filter fun c => s.get meterCalHeadId c != s.get headRecordHeadId h
  let fresh := bad.any fun c => !(Tab.get s.met.swapped c false)
  let s := { s with met := { s.met with swapped := mine.foldl (fun (m : Tab Bool) c => Tab.set m c (bad.contains c)) s.met.swapped } }
  let s := (List.range 16).foldl (fun s q => s.setMeterFlag q 6 (s.uncalibrated q)) s
  if fresh then (s.raise 0x3A t).tamper 2 h t else s

/-- A written calibration takes effect once every index before its own has been formed (spec/07 R210): the channel's head is the one it names;
where that ends a substitution of the head, source 0x3A again (R202, Table 7-3). -/
def State.applyCal (s : State) (c : Nat) : State :=
  match Tab.find s.met.applyCal c with
  | none => s
  | some k =>
    if s.met.next < k then s
    else
      let mine := (List.range 43).filter fun d => s.headOfChan d == s.headOfChan c
      let was := mine.any fun d => Tab.get s.met.swapped d false
      let s := s.setChan43 c { s.chan43 c with cal := none }
      let s := { s with met := { s.met with applyCal := Tab.del s.met.applyCal c,
                                            swapped := Tab.set s.met.swapped c (s.get meterCalHeadId c != s.headIdOf c) } }
      let s := (List.range 16).foldl (fun s q => s.setMeterFlag q 6 (s.uncalibrated q)) s
      if was && !(mine.any fun d => Tab.get s.met.swapped d false) then s.raise 0x3A (k * 15625) else s

/-- CALIBRATION_APPLY (spec/07 R210): an accepted write takes effect at its index, a multiple of 64. -/
def execCalibrationApply (t : Nat) (ch : Fin 43) (s : State) : Res := .next ((s.at t).applyCal ch)

/-! ### The seal (spec/07 R209) -/

/-- The seal closes: source 0x39. -/
def State.closeSeal (s : State) (t : Nat) : State :=
  if s.flag meterStatusSealOpen 0 then ((s.put meterStatusSealOpen 0 0).put meterStatusSealUntil 0 0).raise 0x39 t else s

/-- SEAL_TIMEOUT: 3,600 s after it opened. -/
def execSealTimeout (t : Nat) (s : State) : Res :=
  let s := s.at t
  if s.flag meterStatusSealOpen 0 = false ∨ t < s.get meterStatusSealUntil 0 then .next s else .next (s.closeSeal t)

/-- Whether calibration objects may be written now (spec/07 R209): PROVISIONED, or SEALED with the seal open. -/
def State.mayCalibrate (s : State) : Bool :=
  s.get lcStateState 0 == 1 || (s.get lcStateState 0 == 2 && s.flag meterStatusSealOpen 0)

/-! ### Freeze and resumption (spec/07 R206, R207) -/

/-- meter.holdup written (spec/07 R207, Table 7-12). -/
def State.writeHoldup (s : State) (st : Nat) : State :=
  match s.met.frozen with
  | none => s
  | some tf =>
    let s := (s.put meterHoldupFreezeK 0 (tf / 15625)).put meterHoldupFreezeUtc 0 (s.legal tf)
    let s := (List.range 16).foldl (fun s q => s.puti (meterHoldupResidual q) 0 (s.quant q).residual) s
    { s.put meterHoldupState 0 st with met := { s.met with residualDone := true } }

/-- The number of the next gap record. -/
def State.nextGap (s : State) : Nat := (List.range 16).foldl (fun n j => max n (s.get meterGapSeq j + 1)) 1

/-- The most a quantity can have lost in 1.002 s (spec/07 R208), µWh. -/
def State.gapBound (s : State) (q : Nat) : Nat :=
  let p := if q < 12 then
      (if s.get meterOutletCfgPBound q = 0 then s.get allocOutletPRated q else s.get meterOutletCfgPBound q)
    else if s.get meterSitePBound 0 = 0 then 48000000 else s.get meterSitePBound 0
  (p * 2505 + 8) / 9

/-- A gap record (spec/07 R208, Table 7-12): kind 1 with its bounds, kind 2 without. -/
def State.gapRecord (s : State) (kind checkUtc restartUtc t : Nat) : State :=
  let n := s.nextGap
  let j := n % 16
  let s := ((s.put meterGapKind j kind).put meterGapSeq j n).put meterGapCheckUtc j checkUtc
  let s := s.put meterGapRestartUtc j restartUtc
  let s := (List.range 16).foldl (fun s q => s.put (meterGapBound q) j (if kind = 1 then s.gapBound q else 0)) s
  s.legalRecord recGap 152 (meterGapDef.fields.foldl (fun v f => v + s.get f j * 2 ^ f.pos) 0) t

/-- Accumulation resumes once every index up to the rising edge has been formed (spec/07 R207): the record is written or rewritten with
state 2, the hold-up gap event counted, flag [5] cleared; cycles, runs and detectors begin anew. -/
def State.finishResume (s : State) (t : Nat) : State :=
  match s.met.thaw with
  | none => s
  | some tr =>
    let s := s.writeHoldup 2
    let s := { s with met := { s.met with frozen := none, thaw := none, runs := [], zeros := [], order := [], cycle := CycleAcc.zero,
                                          cycleFrom := s.met.next, since := none, low := 0 } }
    let s := (List.range 16).foldl (fun s q => s.setMeterFlag q 5 false) s
    ((s.gapRecord 2 (s.get meterHoldupFreezeUtc 0) (s.legal tr) t).raise 0x38 tr).tamper 9 2 t

/-- The warning ends with a rising edge at `tr` (spec/07 R207): accumulation resumes with the first index after it, once the indices up to it
have been formed. -/
def State.resume (s : State) (tr t : Nat) : State :=
  if s.met.frozen.isNone ∨ s.met.thaw.isSome then s
  else
    let s := { s with met := { s.met with thaw := some tr } }
    if tr < s.met.next * 15625 then s.finishResume t else s

/-- The registers freeze at `tf`: flag [5] (spec/07 R206). An earlier warning whose last indices are still to be formed is over. -/
def State.freeze (s : State) (tf t : Nat) : State :=
  let s := s.finishResume t
  if s.met.frozen.isSome then s
  else
    let s := { s with met := { s.met with frozen := some tf, residualDone := false,
                                          quants := s.met.quants.map fun (e : Nat × Quantity) => (e.1, { e.2 with residual := 0, rhoX := 0 }) } }
    let s := (List.range 16).foldl (fun s q => s.setMeterFlag q 5 true) s
    { s with dur := { s.dur with frozenDone := false } }

/-- RESIDUAL_RECORD (spec/07 R207): at t_f + 2.5 ms. -/
def execResidualRecord (t : Nat) (s : State) : Res :=
  let s := s.at t
  match s.met.frozen with
  | none => .next s
  | some tf => if t < tf + 2500000 ∨ s.met.residualDone then .next s else .next (s.writeHoldup 1)

/-! ### An index -/

/-- The commit of R414 once every index up to t_f has been processed: what waits is taken, the cut cycle counted, the registers are final
(source 0x38), and a frozen checkpoint with the freeze record is written. -/
def State.freezeCommit (s : State) : State :=
  match s.met.frozen with
  | none => s
  | some tf =>
    if s.dur.frozenDone ∨ s.met.next * 15625 ≤ tf then s
    else
      let s := (s.met.ended.foldl (fun (s : State) _ => s.takeCycle) s).cutCycle
      let s := (s.put meterHoldupFreezeK 0 (tf / 15625)).put meterHoldupFreezeUtc 0 (s.legal tf)
      let s := s.commitCopy (s.takeCheckpoint s.nextCkSeq true)
      ({ s with dur := { s.dur with frozenDone := true } } : State).raise 0x38 tf

/-- What the indices before the next one brought about and no row has taken yet. -/
def State.takeWaiting (s : State) (t : Nat) : State :=
  let s := (List.range 16).foldl (fun (s : State) q => (s.enterGap q t).leaveGap q) s
  let s := s.synthStep
  let s := (s.met.ended.foldl (fun (s : State) _ => s.takeCycle) s).takeLatch true
  let s := s.tickStep.takeLatch false
  let s := s.met.applyCal.foldl (fun (s : State) (e : Nat × Nat) => s.applyCal e.1) s
  let s := [0, 1, 2, 3].foldl (fun (s : State) b => (s.beginMet b t).endMet b) s
  let s := (s.beginTrip t).endTrip t
  let s := outlets.foldl (fun (s : State) o => (s.beginReverse o t).endReverse o) s
  if s.met.thaw.any fun tr => decide (tr < s.met.next * 15625) then s.finishResume t else s

/-- Whether the register steps of up to 1 s of indices are held: the legal partition's core does not run (spec/15 R421, spec/16 R433 for the
time from the end of step 2 on; notes/assumptions/46.md). -/
def State.stepsHeld (s : State) (t : Nat) : Bool := !s.coreRuns 4 && decide (t < s.met.next * 15625 + 1000000000)

/-- SAMPLE_INDEX (spec/07 R187–R196, R212, spec/08 R218, R223, R230): what waits from the indices before is taken; the next index, once due, is
corrected, priced and added up. While the legal partition has no core that runs the indices wait (R421, R433). -/
def execSampleIndex (t : Nat) (s : State) : Res :=
  let s := s.at t
  if s.indexDue t = false ∨ s.stepsHeld t then .next s
  else
    let n := s.met.next
    let s := ((s.takeWaiting t).boundaryIndex n t).formIndex
    .next ((if s.counts n then (outlets.foldl (fun s o => s.sessionIndex n t o) s).countPulses else s).freezeCommit).readyCheckpoint

end Sys2Proof.Machine
end

