-- ==== Sys2Proof/Machine/Lanes.lean ====
section
/-! DEFINITION. Lanes: bring-up, generations, loss of lock (spec/12 R313–R319). Lane indices are those of lane.state. -/

namespace Sys2Proof.Machine

/-- The avenue of a field lane. -/
def laneAvenue (l : Nat) : Nat := (l - 4) / 2

/-- The band of an island (spec/06 Table 6-9). -/
def State.band (s : State) (island : Nat) : Nat := s.get thermStateBands 0 / 2 ^ (4 * island) % 16

/-- The equaliser preset a training starts from: that of the band of HL or FL (spec/12 R315, spec/06 Table 6-3). -/
def State.presetOf (s : State) (l : Nat) : Nat := s.band (if l < 4 then 1 else 8) + 1

/-- An ordered set sent on a lane (spec/12 Table 12-3): type, data bytes 0–3 little-endian. -/
def State.sendSet (s : State) (l typ arg : Nat) : State := s.emit (.orderedSet l typ arg)

/-- A lane enters a state at a stamp. -/
def State.laneTo (s : State) (l st t : Nat) : State :=
  (s.put laneStateState l st).setLane l { s.lane l with since := t }

/-- A lane begins training at a generation, from TRAIN (1) or RETRAIN (5): it sends TA. -/
def State.beginTraining (s : State) (l st gen t : Nat) : State :=
  let s := s.laneTo l st t
  let s := s.setLane l { s.lane l with locked := false, sent := 0, got := 0 }
  let p := s.presetOf l
  ((s.put laneStateGen l gen).put laneStatePreset l p).sendSet l 1 (gen + p * 256)

/-- A failed bring-up: after 3 in a row a wait of 100 ms before DETECT is left (spec/12 Table 12-4). -/
def State.laneFailed (s : State) (l t : Nat) : State :=
  let k := s.lane l
  let n := k.fails + 1
  s.setLane l (if 3 ≤ n then { k with fails := 0, waitUntil := t + 100000000 } else { k with fails := n })

/-- Back to DETECT at G1 (spec/12 R317, R318). -/
def State.toDetect (s : State) (l t : Nat) : State :=
  let s := (s.laneTo l 0 t).put laneStateGen l 1
  let s := s.setLane l { s.lane l with genAt := none, hop := none }
  if l < 4 then s.put portStateLink l 0 else s

/-- ECHO requests for every head on both lanes of an avenue (spec/12 R322 step 2). -/
def State.requestEchoes (s : State) (a : Nat) : State :=
  (List.range (s.get avenueStateN a)).foldl (fun s p =>
    [0, 1].foldl (fun s w => s.sendSet (4 + 2 * a + w) 4 (p + w * 2 ^ 16)) s) s

/-- A lane becomes ACTIVE: the failures are forgotten; an avenue both of whose lanes have changed generation ranges again (spec/12 R322
step 5). -/
def State.laneActive (s : State) (l t : Nat) : State :=
  let s := s.laneTo l 4 t
  let s := s.setLane l { s.lane l with fails := 0, genAt := none }
  if l < 4 then s.put portStateLink l 1
  else
    let a := laneAvenue l
    if (s.avn a).forming = 4 ∧ s.get laneStateState (4 + 2 * a) = 4 ∧ s.get laneStateState (5 + 2 * a) = 4 then
      (s.setAvn a { s.avn a with forming := 5, offsets := [] }).requestEchoes a
    else s

/-- GENCHG at either end: the lane retrains through TRAIN and LOCK at the new generation (spec/12 R318). -/
def State.changeGen (s : State) (l gen t : Nat) : State :=
  let s := s.beginTraining l 1 gen t
  s.setLane l { s.lane l with genAt := some t }

/-- The device's end sends GENCHG. -/
def State.sendGenchg (s : State) (l gen t : Nat) : State := (s.sendSet l 7 gen).changeGen l gen t

/-- Whether a host lane runs the bring-up of R317: Juhetra mode (spec/12 R344). -/
def State.laneRuns (s : State) (l : Nat) : Bool := decide (4 ≤ l) || s.get laneHostMode l == 1

/-- TERMINATION_DETECTED: DETECT to TRAIN. -/
def execTerminationDetected (t : Nat) (l : Fin 16) (s : State) : Res :=
  let s := s.at t
  if s.get laneStateState l ≠ 0 ∨ t < (s.lane l).waitUntil ∨ s.laneRuns l = false then .next s
  else .next (s.beginTraining l 1 1 t)

/-- An ordered set of training arrives: the receiver has locked, the device sends TB; 16 sent and 16 received lead to LOCK. -/
def State.trainingSet (s : State) (l : Nat) (tb : Bool) (t : Nat) : State :=
  let st := s.get laneStateState l
  if st ≠ 1 ∧ st ≠ 5 then s
  else
    let k := s.lane l
    let k := { k with locked := true, sent := k.sent + 1, got := k.got + (if tb then 1 else 0) }
    let s := (s.setLane l k).sendSet l 2 (s.get laneStateGen l + s.get laneStatePreset l * 256)
    if st = 1 ∧ 16 ≤ k.sent ∧ 16 ≤ k.got then s.laneTo l 2 t else s

/-- TA received. -/
def execTa (t : Nat) (l : Fin 16) (gen _preset : Nat) (s : State) : Res :=
  let s := s.at t
  .next (if gen = s.get laneStateGen l then s.trainingSet l false t else s)

/-- TB received. -/
def execTb (t : Nat) (l : Fin 16) (gen _preset : Nat) (s : State) : Res :=
  let s := s.at t
  .next (if gen = s.get laneStateGen l then s.trainingSet l true t else s)

/-- TRAIN_TIMEOUT: 2 ms, then DETECT. -/
def execTrainTimeout (t : Nat) (l : Fin 16) (s : State) : Res :=
  let s := s.at t
  if s.get laneStateState l ≠ 1 ∨ t < (s.lane l).since + 2000000 then .next s
  else .next ((s.laneFailed l t).toDetect l t)

/-- LOCK_ACHIEVED: 4 commas at one alignment; after a GENCHG straight back to ACTIVE (spec/12 R318), else PARLEY. -/
def execLockAchieved (t : Nat) (l : Fin 16) (complemented : Bool) (s : State) : Res :=
  let s := s.at t
  if s.get laneStateState l ≠ 2 then .next s
  else
    let s := if complemented then s.putFlag laneStateInverted l (!(s.flag laneStateInverted l)) else s
    if (s.lane l).genAt.isSome then .next (s.laneActive l t) else .next (s.laneTo l 3 t)

/-- LOCK_TIMEOUT: 100 µs, then TRAIN. -/
def execLockTimeout (t : Nat) (l : Fin 16) (s : State) : Res :=
  let s := s.at t
  if s.get laneStateState l ≠ 2 ∨ t < (s.lane l).since + 100000 then .next s
  else .next (s.beginTraining l 1 (s.get laneStateGen l) t)

/-- PARLEY_TIMEOUT: 1 ms, then TRAIN, counting toward the 3 failures. -/
def execParleyTimeout (t : Nat) (l : Fin 16) (s : State) : Res :=
  let s := s.at t
  if s.get laneStateState l ≠ 3 ∨ t < (s.lane l).since + 1000000 then .next s
  else .next ((s.laneFailed l t).beginTraining l 1 1 t)

/-- The slot whose injection covers a lane (spec/18 Table 18-5). -/
def State.laneSlot (s : State) (l t : Nat) : Option Nat :=
  if l < 4 then s.provoked 2 l t else s.provoked 1 l t

/-- The identity a hop record reports for a metrology head (spec/07 R203). -/
def State.hopIdentity (s : State) (l : Nat) (rec : HopRec) (t : Nat) : State :=
  let p := rec.position.toNat
  if l < 4 ∨ 8 ≤ p ∨ (rec.typ ≠ 2 ∧ rec.typ ≠ 3) then s
  else
    let h := 8 * laneAvenue l + p
    (s.put headRecordHeadId h rec.id.toNat).judgeHead h t

/-- HOP_RECORD (spec/12 R317, R318, R321): PARLEY leads to ACTIVE, a host lane settling its generation and a hop of a formed avenue being raised
to the avenue's; RETRAIN, its training done, ends with an unchanged record. A head below a formed avenue's generation stays out of ACTIVE. -/
def execHopRecord (t : Nat) (l : Fin 16) (rec : HopRec) (s : State) : Res :=
  let s := s.at t
  let k := s.lane l
  let a := laneAvenue l
  match s.get laneStateState l with
  | 3 =>
    let s := (s.setLane l { k with hop := some rec }).hopIdentity l rec t
    if l.val < 4 then
      let gen := max 1 (min rec.genMax.toNat (s.get laneHostGenMax l))
      let s := s.laneActive l t
      .next (if 1 < gen then s.sendGenchg l gen t else s)
    else
      let formed := s.get avenueStateMode a ≠ 15
      let gen := s.get avenueStateGen a
      if formed ∧ rec.genMax.toNat < gen then .next (s.eventOn (s.provokedAvenue a t) 0x07 a (s.get avenueStateMode a) 0 t)
      else
        let s := s.laneActive l t
        .next (if formed ∧ 1 < gen ∧ l.val % 2 = 0 then s.sendGenchg l gen t else s)
  | 5 =>
    if k.locked = false ∨ k.sent < 16 ∨ k.got < 16 then .next s
    else
      let s := s.hopIdentity l rec t
      if k.hop = some rec then .next ((s.laneActive l t).eventOn (s.laneSlot l t) 0x06 l 4 0 t)
      else .next (((s.laneFailed l t).toDetect l t).eventOn (s.laneSlot l t) 0x06 l 0 0 t)
  | _ => .next s

/-- A lane in ACTIVE starts RETRAIN. -/
def State.beginRetrain (s : State) (l t : Nat) : State :=
  let s := (s.beginTraining l 5 (s.get laneStateGen l) t).inc laneStateRetrains l 1
  let s := if l < 4 then s.put portStateLink l 0 else s
  s.eventOn (s.laneSlot l t) 0x06 l 5 0 t

/-- LOSS_OF_LOCK (spec/12 R314, R319): code errors are counted; RETRAIN starts. -/
def execLossOfLock (t : Nat) (l : Fin 16) (codeErrors : Nat) (s : State) : Res :=
  let s := (s.at t).inc laneStateCodeErrors l codeErrors
  if s.get laneStateState l ≠ 4 then .next s else .next (s.beginRetrain l t)

/-- RETRAIN_TIMEOUT: 2 ms, then DETECT. -/
def execRetrainTimeout (t : Nat) (l : Fin 16) (s : State) : Res :=
  let s := s.at t
  if s.get laneStateState l ≠ 5 ∨ t < (s.lane l).since + 2000000 then .next s
  else .next (((s.laneFailed l t).toDetect l t).eventOn (s.laneSlot l t) 0x06 l 0 0 t)

/-- GENCHG received on an ACTIVE lane. -/
def execGenchg (t : Nat) (l : Fin 16) (gen : Nat) (s : State) : Res :=
  let s := s.at t
  if s.get laneStateState l ≠ 4 ∨ gen = 0 ∨ 3 < gen then .next s else .next (s.changeGen l gen t)

/-- GENCHG_TIMEOUT: not ACTIVE within 2.1 ms; DETECT at G1. -/
def execGenchgTimeout (t : Nat) (l : Fin 16) (s : State) : Res :=
  let s := s.at t
  match (s.lane l).genAt with
  | none => .next s
  | some t0 => if t < t0 + 2100000 ∨ s.get laneStateState l = 4 then .next s else .next ((s.laneFailed l t).toDetect l t)

end Sys2Proof.Machine
end

