-- ==== Sys2Proof/Machine/Avenues.lean ====
section
/-! DEFINITION. Avenues: formation, frames, breaks, mailboxes (spec/12 R320–R343). -/

namespace Sys2Proof.Machine

/-! ### Formation (spec/12 R322) -/

/-- Both lanes of an avenue are ACTIVE. -/
def State.lanesActive (s : State) (a : Nat) : Bool := s.get laneStateState (4 + 2 * a) == 4 && s.get laneStateState (5 + 2 * a) == 4

/-- AVENUE_FORMATION: DISCOVER with count 0 on FL2a; frames will run with mode 0xF. -/
def execAvenueFormation (t : Nat) (a : Fin 6) (s : State) : Res :=
  let s := s.at t
  if s.lanesActive a = false ∨ s.get avenueStateMode a ≠ 15 ∨ (s.avn a).forming ≠ 0 then .next s
  else
    let s := s.setAvn a { Avn.reset with forming := 1, svc := (s.avn a).svc }
    .next (s.sendSet (4 + 2 * a.val) 3 (a.val * 256))

/-- What an avenue carries on lane `w` in a mode: command slots of stage and outlet heads that take commands there, sample slots of heads that
send upstream there (spec/12 R323, R326). -/
def State.slotsUsed (s : State) (a mode w : Nat) (heads : List Nat) : Nat :=
  heads.foldl (fun n p =>
    let h := 8 * a + p
    let cw := onFirst (s.get avenueStateN a) mode p
    let typ := s.get headRecordType h
    let cmd := if typ = 1 ∨ typ = 2 then 1 else 0
    if (w = 0) = cw then n + cmd else n + max 1 (s.get headRecordUpBlocks h)) 0

/-- Heads that can be placed in the schedules of RING and of every split mode: 12 slots per lane, at least 3 of them for service; heads are
taken by rising position (notes/assumptions/23.md). -/
def State.placeHeads (s : State) (a : Nat) : List Nat :=
  let n := s.get avenueStateN a
  (List.range n).foldl (fun (l : List Nat) p =>
    let l' := l ++ [p]
    if (List.range (n + 2)).all fun m => decide (s.slotsUsed a m 0 l' ≤ 9) && decide (s.slotsUsed a m 1 l' ≤ 9) then l' else l) []

/-- The fields of a SCHED block (spec/12 Table 12-7): head, version, mode, lanes, symbols of the command slot and of the sample slots, frame
from which the version applies. The places are the framer's. -/
def State.schedOf (s : State) (a p m : Nat) : List Int :=
  let h := 8 * a + p
  let v := s.get avenueStateSchedVer a
  let cmd := if onFirst (s.get avenueStateN a) m p then 0 else 1
  let typ := s.get headRecordType h
  let place (on : Bool) (q : Nat) : Int := if on then ((21 + Config.slotPlace h v m q % 408 : Nat) : Int) else 0xFFFF
  [(p : Int), (v : Int), (m : Int), ((cmd + 2 * (1 - cmd) : Nat) : Int), place (typ == 1 || typ == 2) 0, place true 1,
    place (s.get headRecordUpBlocks h == 2) 2, if m = 0 then ((s.lane (4 + 2 * a)).frame : Int) else 0]

/-- SCHED blocks for the ring and for every split mode (spec/12 R322 step 4, R326). -/
def State.sendScheds (s : State) (a : Nat) : State :=
  let n := s.get avenueStateN a
  let placed := s.placeHeads a
  let s := s.setAvn a { s.avn a with placed := mapOf placed }
  let s := s.put avenueStateUnscheduled a (mapOf ((List.range n).filter fun p => !placed.contains p))
  let s := s.incWrap avenueStateSchedVer a 1
  placed.foldl (fun s p => (List.range (n + 2)).foldl (fun s (m : Nat) =>
    s.queueSvc a (s.cmdLane a p)
      { prec := 2, left := 1, head := 48, item := .block (8 * a + p) 3 (s.schedOf a p m) }) s) s

/-- The avenue runs in RING (spec/12 R322 step 6); what follows from its generation is shown anew (spec/05 R479). -/
def State.ringUp (s : State) (a : Nat) : State :=
  let s := s.setAvn a { s.avn a with forming := 0, broken := [], splitSlot := none }
  let s := ((s.put avenueStateMode a 0).put avenueStateGen a (s.get laneStateGen (4 + 2 * a))).put avenueStateSplitSince a 0
  (s.put avenueStateDegraded a 0).refreshEngine

/-- DISCOVER returns with the count of heads; ranging follows. -/
def execDiscover (t : Nat) (a : Fin 6) (count : Nat) (s : State) : Res :=
  let s := s.at t
  if (s.avn a).forming ≠ 1 ∨ 8 < count then .next s
  else
    let s := s.put avenueStateN a count
    if count = 0 then .next (s.ringUp a)
    else .next ((s.setAvn a { s.avn a with forming := 2, offsets := [] }).requestEchoes a)

/-- Symbol time of a generation, ns (spec/12 Table 12-1). -/
def symbolNs (gen : Nat) : Nat := if gen = 1 then 8 else if gen = 2 then 4 else 2

/-- A head's assignment target: its outlet or converter, 0xFF none (spec/12 Table 12-9). -/
def State.headTarget (s : State) (h : Nat) : Nat :=
  match s.outletOf h ++ (s.stageOf h).map (·.1) with
  | [] => 0xFF
  | o :: _ => o

/-- The assignment record sent to a head. -/
def State.sendAssign (s : State) (a p : Nat) : State :=
  let h := 8 * a + p
  let k := s.avn a
  let body := 1 + p * 2 ^ 16 + a * 2 ^ 24 + s.get laneStateGen (4 + 2 * a) * 2 ^ 32 + s.headTarget h * 2 ^ 40
    + Tab.get k.offsets (2 * p) 0 % 2 ^ 32 * 2 ^ 64 + Tab.get k.offsets (2 * p + 1) 0 % 2 ^ 32 * 2 ^ 96
    + s.get devIdentSerial 0 * 2 ^ 128
  s.sendMail h 7 32 body

/-- ECHO returns: half the round trip less the turnaround of 64 symbols is the head's offset for the lane. Once all are known, frames start
(first ranging), or the schedules are sent and RING runs (ranging at the avenue's generation). -/
def execEcho (t : Nat) (a : Fin 6) (pos : Fin 8) (ccw : Bool) (roundTripNs : Nat) (s : State) : Res :=
  let s := s.at t
  let k := s.avn a
  let n := s.get avenueStateN a
  if (k.forming ≠ 2 ∧ k.forming ≠ 5) ∨ n ≤ pos.val then .next s
  else
    let turn := 64 * symbolNs (s.get laneStateGen (4 + 2 * a.val))
    let k := { k with offsets := Tab.set k.offsets (2 * pos.val + (if ccw then 1 else 0)) ((roundTripNs - turn) / 2) }
    let s := s.setAvn a k
    if k.offsets.length < 2 * n then .next s
    else if k.forming = 2 then .next (s.setAvn a { k with forming := 3, records := 0 })
    else .next (((List.range n).foldl (fun s p => s.sendAssign a p) (s.sendScheds a)).ringUp a)

/-- A head record written and judged (spec/12 R322 step 3, spec/07 R203, spec/13 R350, R351); injections that the head's type rules out end
(spec/18 R476). -/
def State.takeRecord (s : State) (h : Nat) (r : HeadRec) (t : Nat) : State :=
  let s := (((s.put headRecordRecVer h r.recVer.toNat).put headRecordType h r.typ.toNat).put headRecordGenMax h r.genMax.toNat)
  let s := ((s.put headRecordHeadId h r.headId.toNat).put headRecordFwVer h r.fwVer.toNat).put headRecordTSamp h r.tSamp.toNat
  let s := ((s.put headRecordTPwm h r.tPwm.toNat).put headRecordUpBlocks h r.upBlocks.toNat).put headRecordPhases h r.phases.toNat
  let s := (s.put headRecordMode h r.mode.toNat).put headRecordDigest h r.digest
  let s := if r.typ = 2 ∨ r.typ = 3 then (s.judgeHead h t).endUnfit t else s
  match s.headNode h with
  | none => s
  | some n =>
    let s := s.put nodeEntryReported n r.digest
    let st := s.get nodeEntryState n
    let s := if st = 0 ∨ st = 4 then s.moveNode n 1 0 t else s
    if s.get nodeEntryState n = 1 ∧ s.admits n = some false then s.moveNode n 3 3 t else s

/-- The generation of an avenue: the lowest of its gen_max and its heads' (spec/12 R321). -/
def State.targetGen (s : State) (a : Nat) : Nat :=
  max 1 ((List.range (s.get avenueStateN a)).foldl (fun g p => min g (s.get headRecordGenMax (8 * a + p))) (s.get avenueConfigGenMax a))

/-- HEAD_RECORD: during formation, the device answers with the assignment record; once every record has come, the schedules are sent, then the
generation is changed or RING runs. -/
def execHeadRecord (t : Nat) (a : Fin 6) (pos : Fin 8) (rec : HeadRec) (s : State) : Res :=
  let s := s.at t
  let n := s.get avenueStateN a
  if n ≤ pos.val then .next s
  else
    let s := s.takeRecord (8 * a.val + pos.val) rec t
    let k := s.avn a
    if k.forming ≠ 3 then .next s
    else
      let k := { k with records := k.records ||| 2 ^ pos.val }
      let s := (s.setAvn a k).sendAssign a pos
      if k.records ≠ 2 ^ n - 1 then .next s
      else
        let s := s.sendScheds a
        let gen := s.targetGen a
        if gen = 1 then .next (s.ringUp a)
        else
          let s := s.setAvn a { s.avn a with forming := 4 }
          .next ((s.sendGenchg (4 + 2 * a.val) gen t).sendGenchg (5 + 2 * a.val) gen t)

/-! ### Frames (spec/12 R324–R329) -/

/-- What the next service slot takes from a queue, and the queue after it: the first content of the highest precedence; four safety items share
a slot (spec/12 R327, R330). -/
def takeSvc (q : List Svc) : List Out × List Svc :=
  match (List.range 5).find? fun p => q.any fun x => x.prec == p with
  | none => ([], q)
  | some 1 =>
    let four := (q.filter fun x => x.prec == 1).take 4
    (four.map (·.item), four.foldl (fun r x => r.erase x) q)
  | some p =>
    match q.find? fun x => x.prec == p with
    | none => ([], q)
    | some x =>
      if x.left ≤ 1 then ([x.item], q.erase x)
      else ([], q.map fun y => if y = x then { y with left := y.left - 1 } else y)

/-- What `n` service slots take. -/
def takeSvcs (q : List Svc) : Nat → List Out × List Svc
  | 0 => ([], q)
  | n + 1 =>
    let r := takeSvc q
    let r2 := takeSvcs r.2 n
    (r.1 ++ r2.1, r2.2)

/-- The head granted in frame number `f` of an avenue: every head in turn in even frames, those with service content in turn in odd ones; 0xFF
none (spec/12 R328, notes/assumptions/23.md). -/
def State.grantOf (s : State) (a f : Nat) : Nat :=
  let k := s.avn a
  let all := (List.range 8).filter k.placed.testBit
  let some_ := all.filter k.pend.testBit
  let l := if f % 2 = 1 ∧ some_ ≠ [] then some_ else all
  if l.isEmpty then 0xFF else l.getD (f / 2 % l.length) 0xFF

/-- The command blocks the framer repeats in a frame of lane `w` of avenue `a`: of every placed head whose commands the lane carries and whose
block has not left since the lane's last frame (spec/05 R138, spec/12 R326). -/
def State.repeats (s : State) (a w : Nat) : List Out :=
  let k := s.avn a
  let due := (List.range 8).filter fun p => k.placed.testBit p && s.cmdLane a p == w && !k.told.testBit p
  due.flatMap fun p =>
    let h := 8 * a + p
    ((s.stageOf h).map fun q => s.stageCmd q.1 h q.2) ++ (s.outletOf h).map fun o => s.outletCmd o h

/-- The mark of the command blocks that left since the last frame, cleared for the heads of a lane. -/
def State.clearTold (s : State) (a w : Nat) : State :=
  let k := s.avn a
  s.setAvn a { k with told := (List.range 8).foldl (fun m p => if s.cmdLane a p = w then withBit m p false else m) k.told }

/-- FRAME: a frame leaves on an ACTIVE lane: the command blocks that no update sent anew, its service slots filled by precedence.
Of one that an injection loses as it is sent nothing is seen outside (spec/18 R473). -/
def execFrame (t : Nat) (l : Fin 12) (s : State) : Res :=
  let s := s.at t
  let i := 4 + l.val
  let a := l.val / 2
  let w := l.val % 2
  if s.get laneStateState i ≠ 4 then .next s
  else
    let k := s.lane i
    let m := s.get avenueStateMode a
    let u := s.frameUnit 1 i 1 (19 + l.val) k.frame t
    let s := u.2
    let before := s.out
    let s := s.setLane i { k with frame := (k.frame + 1) % 2 ^ 32 }
    let s := s.emit (.frame i k.frame m (s.grantOf a k.frame))
    let s := ((s.repeats a w).foldl State.emit s).clearTold a w
    let placed := (List.range 8).filter (s.avn a).placed.testBit
    let slots := max 3 (12 - s.slotsUsed a (if m = 15 then 0 else m) w placed)
    let r := takeSvcs (Tab.get (s.avn a).svc w []) slots
    let s := s.setAvn a { s.avn a with svc := Tab.set (s.avn a).svc w r.2 }
    let s := r.1.foldl (fun s o => s.emit o) s
    .next (if u.1 then { s with out := before } else s)

/-- What a head has counted, changed. -/
def State.countHead (s : State) (h : Nat) (f : HeadCount → HeadCount) : State :=
  { s with lanes := { s.lanes with heads := Tab.upd s.lanes.heads h HeadCount.reset f } }

/-- FRAME_RETURN (spec/12 R329): a frame without K29.7 or with a lost header is counted and nothing of it is used; blocks of a whole frame
found uncorrectable count for their heads (each in its code region with its SAMPLE_BLOCK), late reports for the avenue and the head; the
injections on the lane act on it first (spec/18 R473). -/
def execFrameReturn (t : Nat) (l : Fin 12) (f : FrameBack) (s : State) : Res :=
  let s := s.at t
  let i := 4 + l.val
  let a := l.val / 2
  let loc := f.number.toNat
  let s := s.setLane i { s.lane i with back := loc }
  let s := s.countBlock (19 + l.val) f.header loc t
  let r := s.frameUnit 1 i 0 (19 + l.val) loc t
  let gone := r.1 || f.lost || BlockResult.lost f.header
  let s := r.2
  if gone then .next (s.inc laneStateFramesLost i 1)
  else
    let s := f.badBlocks.foldl (fun s p => s.countHead (8 * a + p.val) fun c => { c with bad := c.bad + 1 }) s
    let n := f.lateCount.toNat
    let s := s.inc avenueStateLate a n
    .next (s.countHead (8 * a + f.late.val) fun c => { c with late := c.late + n })

/-! ### Breaks (spec/12 R338–R340) -/

/-- Positions that no chain of an avenue with some broken hops reaches. -/
def cutOff (broken : List Nat) : List Nat :=
  let lo := broken.foldl min 9
  let hi := broken.foldl max 0
  (List.range 8).filter fun p => decide (lo ≤ p) && decide (p < hi)

/-- Bits of durable.spares that follow from the avenues (spec/15 R422, Table 15-7): an unreachable head, a ring spare in use. -/
def State.reportAvenues (s : State) (t : Nat) : State :=
  let cut := [0, 1, 2, 3, 4, 5].any fun a => (cutOff (s.avn a).broken).any fun p => decide (p < s.get avenueStateN a)
  s.setSpares (withBit (s.get sparesExhausted 0) 5 (s.get sparesAvenuesSplit 0 != 0)) (withBit (s.get sparesLost 0) 3 cut) t

/-- Hop `h` of avenue `a` is broken: the device uses the lowest broken hop; a new split on a metrology avenue is a ring break (spec/07 R188). -/
def State.splitAt (s : State) (a h t : Nat) : State :=
  let k := s.avn a
  let old := s.get avenueStateMode a
  if s.get avenueStateN a < h then s
  else if old = 15 then s.setAvn a { k with forming := 0 }
  else if k.broken.contains h then s
  else
    let slot := s.provokedAvenue a t
    let inj := slot.filter fun j => s.get injectState j == 1
    let k := { k with broken := h :: k.broken, splitSlot := if old = 0 then inj else k.splitSlot }
    let s := s.setAvn a k
    let m := 1 + k.broken.foldl min 9
    let s := (s.put avenueStateMode a m).eventOn slot 0x07 a m 0 t
    let s := if old = 0 then
        let s := s.put avenueStateSplitSince a t
        if s.metrologyAvenue a then (if slot.isSome then s.inc injStatsMetrology 0 1 else s).tamperOf slot 3 a t else s
      else s
    let s := (cutOff k.broken).foldl (fun s p =>
      (s.headNode (8 * a + p)).elim s fun n =>
        if s.get nodeEntryState n = 1 ∨ s.get nodeEntryState n = 2 then s.moveNode n 4 6 t else s) s
    s.reportAvenues t

/-- HOP_BROKEN: SPLIT is sent on both lanes, and the device splits. -/
def execHopBroken (t : Nat) (a : Fin 6) (hop : Fin 9) (s : State) : Res :=
  let s := s.at t
  let arg := hop.val + a.val * 256
  .next (((s.sendSet (4 + 2 * a.val) 5 arg).sendSet (5 + 2 * a.val) 5 arg).splitAt a hop t)

/-- SPLIT reaches the device. -/
def execSplit (t : Nat) (a : Fin 6) (hop : Fin 9) (s : State) : Res :=
  let s := s.at t
  .next (s.splitAt a hop t)

/-- HEAL reaches the device: RING again once no hop is broken. -/
def execHeal (t : Nat) (a : Fin 6) (hop : Fin 9) (s : State) : Res :=
  let s := s.at t
  let k := s.avn a
  if k.broken.contains hop.val = false then .next s
  else
    let left := k.broken.filter fun h => h != hop.val
    let s := s.setAvn a { k with broken := left, splitSlot := if left.isEmpty then none else k.splitSlot }
    let m := if left.isEmpty then 0 else 1 + left.foldl min 9
    let s := (s.put avenueStateMode a m).eventOn (s.provokedAvenue a t) 0x07 a m 0 t
    let s := if left.isEmpty then
        ((s.put avenueStateSplitSince a 0).put avenueStateDegraded a 0).putBit sparesAvenuesSplit 0 a false
      else s
    .next (s.reportAvenues t)

/-- AVENUE_DEGRADED: split for 10 s; the ring spare counts as used, but after a split that began during an injection only 10 s after its end
(spec/18 R477). -/
def execAvenueDegraded (t : Nat) (a : Fin 6) (s : State) : Res :=
  let s := s.at t
  let m := s.get avenueStateMode a
  if m = 0 ∨ m = 15 ∨ t < s.get avenueStateSplitSince a + 10000000000 then .next s
  else
    let s := s.put avenueStateDegraded a 1
    let spare := (s.avn a).splitSlot.all fun j => s.get injectState j != 1 && decide (s.get injectEnd j + 10000000000 ≤ t)
    .next (if spare then (s.putBit sparesAvenuesSplit 0 a true).reportAvenues t else s)

/-- An avenue forms anew (spec/12 R321, Table 12-12): its heads leave every schedule. -/
def State.reform (s : State) (a t : Nat) : State :=
  let s := s.setAvn a { Avn.reset with svc := (s.avn a).svc }
  let s := ((s.put avenueStateMode a 15).put avenueStateSplitSince a 0).put avenueStateDegraded a 0
  (s.putBit sparesAvenuesSplit 0 a false).reportAvenues t

/-! ### Mailboxes (spec/12 R342, R343, spec/13 R354) -/

/-- The mailbox of head `h`. -/
def mailbox (h : Nat) : Nat := 0x50000000 + 0x10000 * h

/-- A saturating counter word of a mailbox raised. -/
def State.mailCount (s : State) (h off : Nat) : State :=
  (s.poke (mailbox h + off) 8 (min (Memory.read s.mem (mailbox h + off) 8 + 1) (2 ^ 32 - 1))).countHead h fun c => { c with dropped := c.dropped + 1 }

/-- Whether a message type may pass to or from a head that is not ACTIVE. -/
def State.mailAllowed (s : State) (h typ : Nat) : Bool := typ != 1 || s.headActive h

/-- MAILBOX_MESSAGE: written into receive slot n mod 16; one not whole is dropped and counted. -/
def execMailboxMessage (t : Nat) (head : Fin 48) (typ : BitVec 8) (body : Payload) (whole : Bool) (s : State) : Res :=
  let s := s.at t
  let h := head.val
  if whole = false ∨ 2040 < body.len ∨ s.mailAllowed h typ.toNat = false then .next (s.mailCount h 0x10)
  else
    let n := (Memory.read s.mem (mailbox h) 4 + 1) % 2 ^ 32
    let a := mailbox h + 0x8000 + 0x800 * (n % 16)
    let s := (s.poke a 8 (n * 2 ^ 32 + typ.toNat * 2 ^ 16 + body.len)).poke (a + 8) 2040 (body.data % 2 ^ (8 * body.len))
    .next ((s.poke (mailbox h) 8 n).raise (0x50 + h) t)

/-- A doorbell word stored: the named transmit slot is copied and sent, or dropped and counted. -/
def State.mailDoor (s : State) (h w : Nat) : State :=
  let typ := w / 2 ^ 8 % 256
  let len := w / 2 ^ 16 % 2 ^ 16
  if 8 ≤ s.unsent h ∨ len = 0 ∨ 2040 < len ∨ s.mailAllowed h typ = false then s.mailCount h 0x18
  else s.sendMail h typ len (Memory.read s.mem (mailbox h + 0x1000 + 0x800 * (w % 8)) len)

/-- The state word of a mailbox (spec/12 Table 12-11): 0 absent, 1 forming, 2 active, 3 lost. -/
def State.mailState (s : State) (h : Nat) : Nat :=
  if s.get avenueStateN (h / 8) ≤ h % 8 then 0
  else match (s.headNode h).map fun n => s.get nodeEntryState n with
    | some 2 => 2
    | some 4 => 3
    | _ => 1

end Sys2Proof.Machine
end

