-- ==== Sys2Proof/Machine/Batt.lean ====
section
/-! DEFINITION. The battery estimator (spec/11). -/

namespace Sys2Proof.Machine

/-- String `i`. -/
def State.str (s : State) (i : Nat) : Str := Tab.get s.batt.strs i Str.reset
/-- String `i` replaced. -/
def State.setStr (s : State) (i : Nat) (k : Str) : State := { s with batt := { s.batt with strs := Tab.set s.batt.strs i k } }
/-- The strings that are provisioned (spec/11 Table 11-5: n_mod not 0). -/
def State.strings (s : State) : List Nat :=
  (List.range (min 8 (s.get battConfigNStr 0))).filter fun i => s.get battStringNMod i != 0
/-- Flags of batt.state: 0 out, 1 open, 2 unrestored, 3 unreferenced, 4 count gap, 5 drift, 6 idle, 7 at rest point. -/
def State.strFlag (s : State) (i n : Nat) : Bool := s.bit battStateFlags i n
/-- A flag of batt.state written. -/
def State.setStrFlag (s : State) (i n : Nat) (b : Bool) : State := s.putBit battStateFlags i n b
/-- Full charge in 2^-32. -/
def fullCharge : Nat := 2 ^ 32
/-- The estimator's settle time (spec/11 R295). -/
def settleBatt : Nat := 2000000

/-! ### The open-circuit table (spec/11 R296) -/

/-- Whether batt.ocv holds an accepted table. -/
def State.hasOcv (s : State) : Bool := s.get (battOcvSp 15) 0 != 0
/-- tp[j] in 0.1 °C. -/
def State.ocvTemp (s : State) (j : Nat) : Int := s.geti (battOcvTp j) 0
/-- The row at point `k` for a temperature in 0.1 °C, nV. -/
def State.ocvAt (s : State) (temp : Int) (k : Nat) : Int :=
  let o (j : Nat) : Int := s.num (battOcvOcv (16 * j + k)) 0 * 1000000
  if temp ≤ s.ocvTemp 0 then o 0
  else if s.ocvTemp 3 ≤ temp then o 3
  else
    let j := if temp < s.ocvTemp 1 then 0 else if temp < s.ocvTemp 2 then 1 else 2
    o j + (o (j + 1) - o j) * (temp - s.ocvTemp j) / max 1 (s.ocvTemp (j + 1) - s.ocvTemp j)
/-- sp[k], 0.01 %. -/
def State.ocvSoc (s : State) (k : Nat) : Int := s.num (battOcvSp k) 0
/-- Open-circuit voltage of a module at a state of charge (2^-32) and temperature, nV. -/
def State.ocvOf (s : State) (soc : Nat) (temp : Int) : Int :=
  let x : Int := (soc : Int) * 10000
  let k := ((List.range 15).reverse.find? fun k => decide (s.ocvSoc k * 2 ^ 32 ≤ x)).getD 0
  let a := s.ocvAt temp k
  let b := s.ocvAt temp (k + 1)
  a + (b - a) * (x - s.ocvSoc k * 2 ^ 32) / max 1 ((s.ocvSoc (k + 1) - s.ocvSoc k) * 2 ^ 32)
/-- The inverse: state of charge in 0.01 % for an open-circuit voltage, clamped to 0–10,000. -/
def State.ocvInverse (s : State) (v temp : Int) : Int :=
  if v ≤ s.ocvAt temp 0 then 0
  else if s.ocvAt temp 15 ≤ v then 10000
  else
    let k := ((List.range 15).reverse.find? fun k => decide (s.ocvAt temp k ≤ v)).getD 0
    let a := s.ocvAt temp k
    let b := s.ocvAt temp (k + 1)
    s.ocvSoc k + (s.ocvSoc (k + 1) - s.ocvSoc k) * (v - a) / max 1 (b - a)
/-- A temperature byte in 0.1 °C (spec/11 Table 11-1). -/
def modTemp (b : Nat) : Int := 5 * (b : Int) - 400

/-! ### Values in use (spec/11 R304) -/

/-- String `i`'s modules, as a number. -/
def State.nMod (s : State) (i : Nat) : Int := max 1 (s.num battStringNMod i)
/-- soc_c in 0.01 %. -/
def Str.soc (k : Str) : Nat := k.socC * 10000 / fullCharge
/-- Mean temperature of the modules present, 0.1 °C. -/
def Str.meanTemp (k : Str) : Int :=
  let l := k.mods.filter fun m => m.2.present
  if l.isEmpty then 250 else l.foldl (fun (a : Int) m => a + modTemp m.2.temp) 0 / (l.length : Int)

/-- The read side of batt.est_state follows the values in use (spec/11 R308), the digest over its first 208 bytes. -/
def State.refreshEst (s : State) : State :=
  let n := min 8 (s.get battConfigNStr 0)
  let s := ((s.put battEstVersion 0 1).put battEstCount 0 n).put battEstSeq 0 (s.get battSummaryEstSeq 0)
  let s := (List.range 8).foldl (fun s i =>
    let on := decide (i < n)
    let v (x : Nat) : Nat := if on then x else 0
    let s := ((s.put (battEstSerial i) 0 (v ((s.str i).serial.getD 0))).put (battEstQ i) 0 (v (s.get battStateQ i))).put (battEstR0 i) 0 (v (s.get battStateR0 i))
    ((s.put (battEstR1 i) 0 (v (s.get battStateR1 i))).put (battEstTau i) 0 (v (s.get battStateTau i))).put (battEstNLearn i) 0 (v (s.str i).nLearn)) s
  let body := battEstDef.fields.foldl (fun (b : Nat) f => if f.pos < 0xD0 * 8 then b + s.get f 0 * 2 ^ f.pos else b) 0
  (s.put battEstDigest 0 (Config.sha512 0xD0 body)).touch 0x1230 0

/-- The values in use of string `i` replaced. -/
def State.setUse (s : State) (i q r0 r1 tau : Nat) : State :=
  (((s.put battStateQ i q).put battStateR0 i r0).put battStateR1 i r1).put battStateTau i tau

/-- String `i` returned to the unrestored defaults (spec/11 R304, R311). -/
def State.unrestore (s : State) (i : Nat) : State :=
  let s := (s.setStr i { s.str i with waiting := none }).setStrFlag i 2 true
  let s := s.putBit battSummaryRestored 0 i false
  s.setUse i (s.get battConfigQDef 0 * s.get battStringQNom i / 100) (3 * s.get battStringR0Nom i / 2) (s.get battStringR1Nom i)
    (s.get battStringTauNom i)

/-- The estimator's start with the field side (spec/11 R301, R304): nothing learned, every string unrestored and unreferenced. -/
def State.startBatt (s : State) : State :=
  let s := { s with batt := Batt.reset }
  ((List.range 8).foldl (fun s i => (s.unrestore i).setStrFlag i 3 true) s).refreshEst

/-! ### Disqualifiers (spec/11 Table 11-2) -/

/-- A disqualifier of the cycle in progress; the first stands. -/
def State.disqualify (s : State) (i code : Nat) : State :=
  let k := s.str i
  match k.cycle with
  | none => s
  | some c => if c.dq ≠ 0 then s else s.setStr i { k with cycle := some { c with dq := code } }

/-! ### Sets (spec/11 R292, R294, R297) -/

/-- Frames a set must hold. -/
def State.setWhole (s : State) (i : Nat) (x : SetIn) : Bool :=
  let n := s.get battStringNMod i
  (List.range ((n + 3) / 4)).all (fun g => (Tab.find x.mv g).isSome) && (List.range ((n + 7) / 8)).all fun g => (Tab.find x.mt g).isSome

/-- A module's voltage and temperature in a set; none where missing or invalid. -/
def SetIn.mod (x : SetIn) (m : Nat) : Option (Nat × Nat) :=
  match (Tab.get x.mv (m / 4) [])[m % 4]?, (Tab.get x.mt (m / 8) [])[m % 8]? with
  | some v, some b => if v = 0xFFFF ∨ b = 0xFF then none else some (v, b)
  | _, _ => none

/-- The latest value at or before a stamp of a list of stamped values, newest first. -/
def valueAt (l : List (Nat × Int)) (t : Nat) : Int := ((l.find? fun p => decide (p.1 ≤ t)).map (·.2)).getD 0
/-- The current in force at a stamp, from the recent means. -/
def Str.meanAt (k : Str) (t : Nat) : Int := valueAt k.means t
/-- The polarisation at a stamp. -/
def Str.v1At (k : Str) (t : Nat) : Int := valueAt k.v1s t

/-- One module of a set taken: v_ocv as R297 has it, the history of its voltage pruned to 5 min. -/
def takeModule (r : Module) (vb : Option (Nat × Nat)) (drop : Int) (t : Nat) : Module :=
  match vb with
  | none => { r with present := false, absent := r.absent + 1 }
  | some (v, b) =>
    let moved := match r.hist with | [] => true | h :: _ => decide (h.2 ≠ v)
    let hist := if moved then (t, v) :: r.hist else r.hist
    let recent := hist.filter fun h => decide (t < h.1 + 300000000000)
    let old := (hist.filter fun h => !decide (t < h.1 + 300000000000)).take 1
    { v := v, temp := b, ocv := (v : Int) * 1000000 - drop, present := true, absent := 0, hist := recent ++ old }

/-- A set ended, whole or not (spec/11 R294, R297): modules present or absent, with the current and the polarisation of its instant; soc_v over
the modules present; of a whole set the disqualifier of temperature, and at the first one soc_c. -/
def State.closeSet (s : State) (i : Nat) (x : SetIn) (whole : Bool) (t : Nat) : State :=
  let k := s.str i
  let n := s.get battStringNMod i
  let drop := x.iSet * s.num battStateR0 i / s.nMod i + x.v1
  let mods := (List.range n).foldl (fun (m : Tab Module) j =>
    Tab.set m j (takeModule (Tab.get m j Module.reset) (x.mod j) drop t)) (k.mods.filter fun m => decide (m.1 < n))
  let gone := mods.any fun m => decide (10 ≤ m.2.absent)
  let k := { k with mods := mods, set := some { x with done := true }, setOk := if whole then some t else k.setOk,
                    setOut := if gone then true else if whole then false else k.setOut }
  let s := s.setStr i k
  let here := mods.filter fun m => m.2.present
  let vs := here.map fun m => m.2.v
  let s := if here.isEmpty then s else (s.put battStateVLo i (vs.foldl min 65535)).put battStateVHi i (vs.foldl max 0)
  let hot := here.any fun m => decide (modTemp m.2.temp < 100) || decide (400 < modTemp m.2.temp)
  let s := if whole && hot then s.disqualify i 1 else s
  if here.isEmpty ∨ s.hasOcv = false then s
  else
    let sum := here.foldl (fun (a : Int) m => a + s.ocvInverse m.2.ocv (modTemp m.2.temp)) 0
    let soc := (sum / (here.length : Int)).toNat
    let s := s.put battStateSocV i soc
    let k := s.str i
    if k.first || !whole then s else s.setStr i { k with first := true, socC := soc * fullCharge / 10000 }

/-- A BMS frame of string `q` through the injections on its channel (spec/18 R473): whether it is lost. -/
def State.bmsUnit (s : State) (q t : Nat) : Bool × State := if s.strings.contains q then s.canUnit (s.get battStringCanCh q) t else (false, s)

/-- ST (spec/11 R292): the set before it ends; a new one begins at the stamp less bms_lag. -/
def execSt (t : Nat) (q : Fin 8) (_counter : BitVec 8) (closed fault : Bool) (chgA disA : BitVec 16) (s : State) : Res :=
  let a := (s.at t).bmsUnit q t
  let s := a.2
  if a.1 || !(s.strings.contains q.val) then .next s
  else
    let s := match (s.str q).set with
      | some x => if x.done then s else s.closeSet q x false t
      | none => s
    let k := s.str q
    let inst := t - s.get battConfigBmsLag 0 * 1000000
    let x : SetIn := { instant := inst, iSet := k.meanAt inst, v1 := k.v1At inst, mv := [], mt := [], done := false }
    let s := s.setStr q { k with set := some x, closed := closed, fault := fault, chgA := chgA.toNat, disA := disA.toNat }
    .next (s.setStrFlag q 1 (!closed))

/-- A frame put into the set in progress; a set that is whole ends. -/
def State.setFrame (s : State) (i : Nat) (f : SetIn → SetIn) (t : Nat) : State :=
  match (s.str i).set with
  | none => s
  | some x =>
    if x.done then s
    else
      let x := f x
      if s.setWhole i x then s.closeSet i x true t else s.setStr i { s.str i with set := some x }

/-- MV (spec/11 Table 11-1): voltages of four modules. -/
def execMv (t : Nat) (q : Fin 8) (g : Fin 8) (v : List (BitVec 16)) (s : State) : Res :=
  let a := (s.at t).bmsUnit q t
  let s := a.2
  if a.1 = false ∧ s.strings.contains q.val then .next (s.setFrame q (fun x => { x with mv := Tab.set x.mv g (v.map BitVec.toNat) }) t) else .next s

/-- MT (spec/11 Table 11-1): temperatures of eight modules. -/
def execMt (t : Nat) (q : Fin 8) (g : Fin 4) (temps : List (BitVec 8)) (s : State) : Res :=
  let a := (s.at t).bmsUnit q t
  let s := a.2
  if a.1 = false ∧ s.strings.contains q.val then .next (s.setFrame q (fun x => { x with mt := Tab.set x.mt g (temps.map BitVec.toNat) }) t) else .next s

/-! ### Restoring (spec/11 R307, R309) -/

/-- A learned value notified again: pending (spec/11 R307). -/
def State.notifyLearn (s : State) (i : Nat) : State := s.put battLearnState i 1

/-- An entry of an applied write compared with its string's serial. -/
def State.applyEntry (s : State) (i : Nat) (e : EstEntry) : State :=
  let k := s.str i
  if s.get battLearnSeq i ≠ 0 then s.notifyLearn i
  else match k.serial with
  | none => s.setStr i { k with waiting := some e }
  | some n =>
    if n ≠ e.serial then (s.unrestore i).refreshEst
    else
      let s := (s.setStr i { k with waiting := none, nLearn := e.nLearn }).setUse i e.q e.r0 e.r1 e.tau
      ((s.setStrFlag i 2 false).putBit battSummaryRestored 0 i true).refreshEst

/-- SN (spec/11 R309): the string's serial; an entry that waited for it is compared. -/
def execSn (t : Nat) (q : Fin 8) (serial : BitVec 64) (s : State) : Res :=
  let a := (s.at t).bmsUnit q t
  let s := a.2
  if a.1 || !(s.strings.contains q.val) then .next s
  else
    let k := s.str q
    let s := s.setStr q { k with serial := some serial.toNat, waiting := none }
    .next (k.waiting.elim (if k.serial = some serial.toNat then s else s.refreshEst) fun e => s.applyEntry q e)

/-! ### Current samples (spec/11 R293) -/

/-- The second block of battery stage head `h` taken: samples of the strings it carries and of v_b. -/
def State.battBlock (s : State) (h : Nat) (b : BattBlk) : State :=
  let s := s.strings.foldl (fun s i =>
    let ch := s.get battStringChan i
    if s.get battStringHead i = h ∧ ch < 4 ∧ b.invalid.getLsbD ch = false then
      let k := s.str i
      s.setStr i { k with iSum := k.iSum + ((b.iStr[ch]?).elim 0 BitVec.toInt), iN := k.iN + 1 }
    else s) s
  if b.vbInvalid then s
  else
    let s := { s with batt := { s.batt with vSum := s.batt.vSum + b.vB.toNat, vN := s.batt.vN + 1 } }
    s.setConv 12 { s.conv 12 with vB := b.vB.toNat }

/-! ### The 1 ms step (spec/11 R297, R299–R303) -/

/-- Whether a string is out (spec/11 R294, R296): sets, node, BMS fault, current, no table. -/
def State.isOut (s : State) (i : Nat) : Bool :=
  let k := s.str i
  let live := (s.nodeAt 6 6 (s.get battStringCanCh i) i).any fun n => s.get nodeEntryState n == 2
  k.setOut || k.fault || k.curOut || !live || !s.hasOcv

/-- Idle or not (spec/11 R298, Table 11-2 code 5): an idle period over 10 min that ends without a rest point disqualifies. -/
def State.judgeIdle (s : State) (i : Nat) (mean : Int) (t : Nat) : State :=
  let k := s.str i
  let idle := decide (mag mean * 50 ≤ s.num battStateQ i)
  let s := s.setStrFlag i 6 idle
  if idle then s.setStr i { k with idle := some (k.idle.getD t) }
  else match k.idle with
    | none => s
    | some a =>
      let s := if a + 600000000000 < t ∧ s.strFlag i 7 = false then s.disqualify i 5 else s
      let k := s.str i
      let c := k.cycle.map fun c => { c with active := some (c.active.getD t) }
      (s.setStr i { k with idle := none, cycle := c }).setStrFlag i 7 false

/-- soc_c held to 2^-32 and clamped; drift where it reaches an end that soc_v denies (spec/11 R301, R302). -/
def State.count (s : State) (i : Nat) (mean : Int) : State :=
  let k := s.str i
  if s.strFlag i 4 ∨ k.first = false then s
  else
    let q := max 1 (s.num battStateQ i)
    let c := limitTo 0 (2 ^ 32) ((k.socC : Int) + mean * 2 ^ 32 / (q * 3600000))
    let s := s.setStr i { k with socC := c.toNat }
    let drift := (decide (c = 0) && decide (1000 < s.get battStateSocV i)) || (decide (c = 2 ^ 32) && decide (s.get battStateSocV i < 9000))
    if drift && !(s.strFlag i 5) then (s.setStrFlag i 5 true).disqualify i 6 else s

/-- A load step seen between two means, or the one followed cancelled (spec/11 R299, R300). -/
def State.loadStep (s : State) (i : Nat) (prev mean : Int) (t : Nat) : State :=
  let k := s.str i
  let q := s.num battStateQ i
  let dI := mean - prev
  if q ≤ mag dI * 5 ∧ dI ≠ 0 then
    let r := (s.batt.vMean - s.batt.vPrev) * 1000000 / dI
    let r0 := s.num battStateR0 i
    let s := s.setStr i { k with step := some { at_ := t, iPost := mean, dI := dI, vBefore := s.batt.vPrev, r0New := r, charge := 0,
                                                socAt := k.socC, g10 := none } }
    if r0 ≤ 2 * r ∧ r ≤ 3 * r0 then (s.put battStateR0 i (r0 + (r - r0) / 8).toNat).refreshEst else s
  else match k.step with
    | none => s
    | some p =>
      if mag p.iPost < 50 * mag (mean - p.iPost) then s.setStr i { k with step := none }
      else s.setStr i { k with step := some { p with charge := p.charge + mean } }

/-- g(t) of R300 for the load step followed, in µΩ. -/
def State.gOf (s : State) (i : Nat) (p : LoadStep) : Int :=
  let k := s.str i
  let q := max 1 (s.num battStateQ i)
  let soc := limitTo 0 (2 ^ 32) ((p.socAt : Int) + p.charge * 2 ^ 32 / (q * 3600000))
  let dOcv := s.nMod i * (s.ocvOf soc.toNat k.meanTemp - s.ocvOf p.socAt k.meanTemp)
  ((s.batt.vMean - p.vBefore) * 1000000 - dOcv) / (if p.dI = 0 then 1 else p.dI) - p.r0New

/-- g at 10 s kept. -/
def State.keepG (s : State) (i : Nat) (t : Nat) : State :=
  let k := s.str i
  match k.step with
  | none => s
  | some p => if p.g10.isNone ∧ p.at_ + 10000000000 ≤ t then s.setStr i { k with step := some { p with g10 := some (s.gOf i p) } } else s

/-- The learning cycle's sums and its disqualifiers of rate and data (spec/11 Table 11-2). -/
def State.cycleStep (s : State) (i : Nat) (mean : Int) (t : Nat) : State :=
  let k := s.str i
  let c := k.cycle.map fun c => { c with charge := c.charge + mean, absSum := c.absSum + (mag mean).toNat }
  let s := s.setStr i { k with cycle := c }
  let s := if s.num battStateQ i < mag mean then s.disqualify i 3 else s
  let late (x : Option Nat) : Bool := x.all fun a => decide (a + 10000000000 < t)
  if late k.setOk || late k.iAt then s.disqualify i 4 else s

/-- Current limits of a string (spec/11 R303), mA. -/
def State.strLimits (s : State) (i : Nat) : Int × Int :=
  let k := s.str i
  let q := s.num battStateQ i
  let r0 := max 1 (s.num battStateR0 i)
  let v1m := k.v1 / s.nMod i
  let here := (k.mods.filter fun m => m.2.present).map (·.2)
  let chgV (m : Module) : Int := (s.num battStringVModMax i * 1000000 - m.ocv - v1m) * s.nMod i / r0
  let disV (m : Module) : Int := (m.ocv + v1m - s.num battStringVModMin i * 1000000) * s.nMod i / r0
  let chg := here.foldl (fun (a : Int) m => min a (max 0 (chgV m))) (min (s.num battStringCChg i * q / 10) (1000 * k.chgA))
  let dis := here.foldl (fun (a : Int) m => min a (max 0 (disV m))) (min (s.num battStringCDis i * q / 10) (1000 * k.disA))
  let temps := here.map fun m => modTemp m.temp
  let cold := temps.any fun x => decide (x < 10 * s.geti battStringTMin i) || decide (10 * s.geti battStringTMax i < x)
  let cool := temps.any fun x => decide (x < 10 * s.geti battStringTChgMin i)
  if s.isOut i || !k.closed || cold then (0, 0) else (if cool then 0 else chg, dis)

/-- A string's reported state of charge and what batt.state shows. -/
def State.showStr (s : State) (i : Nat) : State :=
  let k := s.str i
  let byV := s.strFlag i 4 || s.strFlag i 5
  let l := s.strLimits i
  let s := ((s.put battStateSocC i k.soc).putFlag battStateBasis i byV).put battStateSoc i (if byV then s.get battStateSocV i else k.soc)
  ((s.setStrFlag i 0 (s.isOut i)).put battStateIChg i l.1.toNat).put battStateIDis i l.2.toNat

/-- The battery limits at the bus (spec/11 R303, R304), W. -/
def State.busLimits (s : State) : Nat × Nat :=
  let all := s.strings.filter fun i => (s.str i).closed
  if all.isEmpty ∨ all.any s.isOut then (0, 0)
  else
    let sum := all.foldl (fun (a : Int) i => a + Tab.get s.batt.secMean i 0) 0
    let q := all.foldl (fun (a : Int) i => a + s.num battStateQ i) 0
    let byI := decide (q ≤ 20 * mag sum) && all.all fun i => decide (0 < Tab.get s.batt.secMean i 0 * sum)
    let g (i : Nat) : Int := if byI then mag (Tab.get s.batt.secMean i 0) else 2 ^ 60 / max 1 (s.num battStateR0 i)
    let total := all.foldl (fun (a : Int) i => a + g i) 0
    let share (f : Fld) : Int := (all.map fun i => s.num f i * total / max 1 (g i)).foldl min (2 ^ 40)
    let eta := s.num battConfigConvEff 0
    let frac : Int := if s.strings.any fun i => s.strFlag i 2 then s.num battConfigUnresFrac 0 else 100
    let chg := min (s.num battConfigPConv 0) (s.batt.vMean * share battStateIChg * 10000 / (max 1 eta * 1000000))
    let dis := min (s.num battConfigPConv 0) (s.batt.vMean * share battStateIDis * eta / (10000 * 1000000))
    ((max 0 chg * frac / 100).toNat, (max 0 dis * frac / 100).toNat)

/-- A string's current absent for more than 10 ms (spec/11 R293, R294): out, and in count gap until its next rest point. -/
def State.loseCurrent (s : State) (i : Nat) : State :=
  let k := s.str i
  ((s.setStr i { k with curOut := true }).setStrFlag i 4 true).disqualify i 7

/-- One string's step: without a valid sample the last mean serves for 10 ms. -/
def State.strStep (s : State) (t i : Nat) : State :=
  let k := s.str i
  let prev := k.meanAt t
  let valid := decide (0 < k.iN)
  let was := k.iAt.isSome
  let mean := if valid then k.iSum / (k.iN : Int) else prev
  let k := { k with iSum := 0, iN := 0, iAt := if valid then some t else k.iAt, means := ((t, mean) :: k.means).take 64,
                    curOut := if valid then false else k.curOut }
  let tau := max 1 (s.get battStateTau i)
  let x := Config.realFn 0 tau
  let v1 := (x * k.v1 + (2 ^ 32 - x) * mean * s.num battStateR1 i / s.nMod i) / 2 ^ 32
  let s := (s.setStr i { k with v1 := v1, v1s := ((t, v1) :: k.v1s).take 64 }).puti battStateI i mean
  let s := if k.iAt.any fun a => decide (a + 10000000 < t) then s.loseCurrent i else s
  let s := ((s.judgeIdle i mean t).count i mean).cycleStep i mean t
  let s := if valid && was then s.loadStep i prev mean t else s
  (s.keepG i t).showStr i

/-- ESTIMATOR_STEP (spec/11 R297, R299–R303): one millisecond. -/
def execEstimatorStep (t : Nat) (s : State) : Res :=
  let s := s.at t
  let b := s.batt
  let mean := if b.vN = 0 then b.vMean else b.vSum / (b.vN : Int)
  let s := { s with batt := { b with vSum := 0, vN := 0, vMean := mean, vPrev := b.vMean, steps := b.steps + 1 } }
  let s : State := s.strings.foldl (fun (s : State) (i : Nat) => s.strStep t i) s
  let sums : Tab Int := s.strings.foldl (fun (a : Tab Int) (i : Nat) => Tab.set a i (Tab.get a i 0 + s.geti battStateI i)) s.batt.secSum
  let s :=
    if s.batt.secN + 1 = 1000 then
      { s with batt := { s.batt with secMean := sums.map fun (p : Nat × Int) => (p.1, p.2 / 1000), secSum := [], secN := 0 } }
    else { s with batt := { s.batt with secSum := sums, secN := s.batt.secN + 1 } }
  let l := s.busLimits
  .next { s with batt := { s.batt with chg := l.1, dis := l.2 } }

/-- CURRENT_GAP (spec/11 R293, R294): a string's current absent for more than 10 ms, judged the settle time later. -/
def execCurrentGap (t : Nat) (q : Fin 8) (s : State) : Res :=
  let s := s.at t
  let k := s.str q
  if !(s.strings.contains q.val) ∨ (k.iAt.any fun a => decide (t ≤ a + 10000000 + settleBatt)) ∨ (k.curOut && s.strFlag q 4) then .next s
  else .next ((s.loseCurrent q).showStr q)

/-- STRING_OUT (spec/11 R294): no complete set for 1 s, judged the settle time later, or a module absent in 10 sets in a row. -/
def execStringOut (t : Nat) (q : Fin 8) (s : State) : Res :=
  let s := s.at t
  let k := s.str q
  let stale := k.setOk.all fun a => decide (a + 1000000000 + settleBatt ≤ t)
  let gone := k.mods.any fun m => decide (10 ≤ m.2.absent)
  if !(s.strings.contains q.val) ∨ (!stale && !gone) then .next s
  else .next ((s.setStr q { k with setOut := true }).showStr q)

/-! ### Rest points and learning (spec/11 R298, R306) -/

/-- Whether no module's voltage has moved by more than 1 mV in the last 5 min. -/
def Str.steady (k : Str) (t : Nat) : Bool :=
  k.mods.all fun m =>
    let inForce := m.2.hist.takeWhile fun h => decide (t < h.1 + 300000000000)
    let before := (m.2.hist.drop inForce.length).take 1
    let vs : List Nat := (inForce ++ before).map (·.2)
    decide (vs.foldl max 0 ≤ vs.foldl min 65535 + 1)

/-- The cycle that ends at a rest point reached with `socB` (spec/11 R306). -/
def State.endCycle11 (s : State) (i socB t : Nat) : State :=
  let k := s.str i
  match k.cycle with
  | none => s
  | some c =>
    let span := if c.socA ≤ socB then socB - c.socA else c.socA - socB
    let activeMs := match c.active, k.idle with | some a, some b => (b - a) / 1000000 | _, _ => 0
    let q := s.get battStateQ i
    let qNom := s.get battStringQNom i
    let learn := (mag c.charge).toNat * 10000 / (3600000 * max 1 span)
    let dq := if c.dq ≠ 0 then c.dq else if q * activeMs < 2 * c.absSum then 2 else if span < 6000 then 8
      else if 100 * learn < 50 * qNom ∨ 120 * qNom < 100 * learn then 9 else 0
    let s := s.put battLearnLastDq i dq
    if dq ≠ 0 then s
    else
      let s := ((s.put battLearnSeq i (s.get battLearnSeq i + 1)).put battLearnQLearn i learn).put battLearnQPrev i q
      let s := ((s.put battLearnAh i ((mag c.charge).toNat / 3600000)).put battLearnDsoc i span).put battLearnStamp i t
      ((s.put battStateQ i learn).notifyLearn i).refreshEst

/-- REST_POINT (spec/11 R298): soc_c re-referenced, the cycle ended and the next begun. -/
def execRestPoint (t : Nat) (q : Fin 8) (s : State) : Res :=
  let s := s.at t
  let k := s.str q
  match k.idle with
  | none => .next s
  | some a =>
    if t < a + s.get battConfigTRest 0 * 60000000000 ∨ s.strFlag q 7 ∨ k.steady t = false ∨ k.first = false then .next s
    else
      let soc := s.get battStateSocV q
      let s := s.endCycle11 q soc t
      let k := s.str q
      let s := s.setStr q { k with v1 := 0, v1s := [(t, 0)], socC := soc * fullCharge / 10000,
                                   cycle := some { socA := soc, charge := 0, absSum := 0, active := none, dq := 0 } }
      let s := ((s.setStrFlag q 3 false).setStrFlag q 4 false).setStrFlag q 5 false
      .next ((s.setStrFlag q 7 true).showStr q)

/-- POLARISATION_FIT (spec/11 R300): 30 s after a load step. -/
def execPolarisationFit (t : Nat) (q : Fin 8) (s : State) : Res :=
  let s := s.at t
  let k := s.str q
  match k.step with
  | none => .next s
  | some p =>
    match p.g10 with
    | none => .next s
    | some g10 =>
      if t < p.at_ + 30000000000 then .next s
      else
        let s := s.setStr q { k with step := none }
        let g30 := s.gOf q p
        if g10 < g30 ∧ g30 < 3 * g10 then
          let u := (isqrt ((4 * g30 - 3 * g10) * 2 ^ 64 / g10) : Int)
          let x := (u - 2 ^ 32) / 2
          let tau := 100 * 2 ^ 32 / max 1 (Config.realFn 1 x)
          let r1 := g10 * 2 ^ 32 / max 1 (2 ^ 32 - x)
          let keep (old new : Int) : Int := if old ≤ 2 * new ∧ new ≤ 3 * old then old + (new - old) / 8 else old
          let s := s.put battStateTau q (keep (s.num battStateTau q) tau).toNat
          .next (s.put battStateR1 q (keep (s.num battStateR1 q) r1).toNat).refreshEst
        else .next s

/-- IDLE_CHECK (spec/11 R302): at the 2 min mark of an idle period. -/
def execIdleCheck (t : Nat) (q : Fin 8) (s : State) : Res :=
  let s := s.at t
  let k := s.str q
  match k.idle with
  | none => .next s
  | some a =>
    let c := k.soc
    let v := s.get battStateSocV q
    let gap := if c ≤ v then v - c else c - v
    if t < a + 120000000000 ∨ gap ≤ 500 ∨ s.strFlag q 5 ∨ s.strFlag q 4 then .next s
    else .next ((s.setStrFlag q 5 true).disqualify q 6 |>.showStr q)

/-! ### Publication (spec/11 R305, R312) -/

/-- The battery window rewritten. -/
def State.battWindow (s : State) (t : Nat) : State :=
  let w := 0x6000D000
  let s := (s.bumpSeq w).poke (w + 8) 8 t
  let chg := s.get battSummaryChgLim 0
  let dis := s.get battSummaryDisLim 0
  let every := s.strings.all fun i => !(s.strFlag i 2)
  let s := (s.poke (w + 0x10) 4 chg).poke (w + 0x14) 4 dis
  let s := s.poke (w + 0x18) 4 ((if every then 1 else 0) + (if chg = 0 ∧ dis = 0 then 2 else 0))
  (List.range 8).foldl (fun s i =>
    let a := w + 0x20 + 0x10 * i
    let s := s.poke a 4 (s.get battStateFlags i * 256 + s.get battStateSoc i * 65536)
    ((s.poke (a + 4) 4 (s.get battStateI i)).poke (a + 8) 4 (s.get battStateIChg i)).poke (a + 12) 4 (s.get battStateIDis i)) s

/-- LIMIT_PUBLISH (spec/11 R305): at each 10 ms, or at once for a fall of more than 5 % of p_conv; a rise only past 2 %. -/
def execLimitPublish (t : Nat) (s : State) : Res :=
  let s := s.at t
  let p := s.get battConfigPConv 0
  let old (f : Fld) : Nat := s.get f 0
  let fall := decide (p < 20 * (old battSummaryChgLim - s.batt.chg)) || decide (p < 20 * (old battSummaryDisLim - s.batt.dis))
  if s.batt.published / 10000000 = t / 10000000 ∧ fall = false ∧ s.batt.published ≠ 0 then .next s
  else
    let pick (new cur : Nat) : Nat := if new < cur ∨ 2 * p < 100 * (new - cur) then new else cur
    let s := (s.put battSummaryChgLim 0 (pick s.batt.chg (old battSummaryChgLim))).put battSummaryDisLim 0 (pick s.batt.dis (old battSummaryDisLim))
    .next ({ s with batt := { s.batt with published := t } }.battWindow t)

end Sys2Proof.Machine
end

