-- ==== Sys2Proof/Machine/Modes.lean ====
section
/-! DEFINITION. Operating modes: readiness, transitions with what they bring about, attention outputs (spec/16 R425–R431, R443). -/

namespace Sys2Proof.Machine

/-! ### Readiness (spec/16 R428) -/

/-- mode.state.blockers (spec/16 Table 16-9). -/
def State.blockers (s : State) : Nat :=
  let bit (b : Bool) (n : Nat) : Nat := if b then 2 ^ n else 0
  let lc := s.get lcStateState 0
  let forming := (List.range 6).any fun a => decide (0 < s.get avenueConfigNExp a) && s.get avenueStateMode a == 15
  bit (!((List.range 5).all s.coreRuns) || !s.sup.hostServing) 0 + bit (!(s.flag safetyStateCommitted 0)) 1
    + bit (lc != 1 && lc != 2) 2 + bit forming 3 + bit (s.get thermStateThermal 0 != 0) 4
    + bit (s.sup.pfailf.isSome || s.met.frozen.isSome) 5
    + bit (s.get modeStateMode 0 == 1 && !(s.flag modeConfigAutoService 0)) 6 + bit s.sup.wdLoop 7

/-- The device is ready: none of the conditions of R428 fails. -/
def State.ready (s : State) : Bool := s.blockers % 64 == 0

/-- ready and blockers shown anew (notes/assumptions/24.md). -/
def State.refreshReady (s : State) : State := (s.put modeStateBlockers 0 s.blockers).putFlag modeStateReady 0 s.ready

/-! ### Outputs (spec/16 R443, Table 16-7) -/

/-- The attention conditions that hold at `t`. -/
def State.attention (s : State) (t : Nat) : Nat :=
  let bit (b : Bool) (n : Nat) : Nat := if b then 2 ^ n else 0
  let m := s.get modeStateMode 0
  let late := s.hosts.ports.any fun p => p.2.awaits.any fun a => decide (a.first + 30000000000 ≤ t)
  bit (m == 0) 0 + bit (m == 1) 1 + bit (m == 3) 2 + bit (m == 4) 3 + bit (m == 5) 4 + bit s.cway.fieldAbsent 5
    + bit (s.sup.fieldWarn || s.sup.hostWarn || s.sup.vbatLow) 6 + bit (s.sup.warn.isSome || s.sup.pfailhLow) 7
    + bit (s.get sparesWarn 0 != 0) 8 + bit late 9

/-- A land driven to a level (spec/17): sent where the level changes. -/
def State.drive (s : State) (land : Nat) (high : Bool) : State :=
  if Tab.get s.sup.lands land false = high then s
  else ({ s with sup := { s.sup with lands := Tab.set s.sup.lands land high } }).emit (.pin land high)

/-- WDO_N (land 0), HATN0_N (1) and HATN1_N (2) as R443 has them. -/
def State.refreshLands (s : State) (t : Nat) : State :=
  let m := s.get modeStateMode 0
  let healthy := m != 0 && m != 4 && s.sup.hostUp && !s.cway.fieldAbsent && decide (s.sup.wdoUntil ≤ t)
  let att := s.attention t
  ((s.drive 0 healthy).drive 1 (att &&& s.get modeConfigAttn0Mask 0 == 0)).drive 2 (att &&& s.get modeConfigAttn1Mask 0 == 0)

/-! ### Transitions (spec/16 R427, R429) -/

/-- Sessions and converters on leaving SERVICE or DEGRADED (spec/16 R429). -/
def State.leaveEnergising (s : State) (m t : Nat) : State :=
  if m = 4 then
    outlets.foldl (fun s o => s.stopSess o 8 0 t) s
  else
    let s := s.retractAll t
    let s := outlets.foldl (fun s o => s.controlledStop o t) s
    outlets.foldl (fun s o => s.stopSess o 7 0xFE t) s

/-- Milliseconds since power good. -/
def State.sinceGood (s : State) (t : Nat) : Nat := (t - s.sup.goodAt) / 1000000

/-- A transition of Table 16-2: injections whose conditions it breaks end first; then what leaving and entering bring (R429, R426, R209). -/
def State.moveMode (s : State) (m row port role t : Nat) : State :=
  let old := s.get modeStateMode 0
  let s := s.endBroken m s.convIdle t
  let s := if old = 5 then s.closeSeal t else s
  let s := s.setMode m row port role t
  let s := if (old = 2 ∨ old = 3) ∧ m ≠ 2 ∧ m ≠ 3 then s.leaveEnergising m t else s
  let s := if m = 2 ∨ m = 3 then outlets.foldl (fun s o => s.decideAuth o t) s else s
  let s := if m = 1 ∧ s.get modeBootTStandby 0 = 0xFFFFFFFF then s.put modeBootTStandby 0 (s.sinceGood t) else s
  let s := if (m = 2 ∨ m = 3) ∧ s.get modeBootTService 0 = 0xFFFFFFFF then s.put modeBootTService 0 (s.sinceGood t) else s
  s.refreshReady.refreshLands t

/-- STANDBY to SERVICE or DEGRADED (spec/16 R427), by whom. -/
def State.toService (s : State) (port role t : Nat) : State :=
  if s.reduced then s.moveMode 3 6 port role t else s.moveMode 2 5 port role t

end Sys2Proof.Machine
end

