-- ==== Sys2Proof/Machine/CwRows.lean ====
section
/-! DEFINITION. The Causeway: delivery, acknowledgement, retransmission, switchover, absence (spec/01 R11–R18). LACK, LNAK and MARK take no
lseq (notes/assumptions/28.md); a message leaves by class, and an instant on the wire is computed for it (notes/assumptions/41.md). -/

namespace Sys2Proof.Machine

/-! ### Link layer (spec/01 R14–R17) -/

/-- A direction by its sending side. -/
def State.dir (s : State) (src : Side) : CwDir := match src with | .host => s.cway.toField | .field => s.cway.toHost

/-- A direction replaced. -/
def State.setDir (s : State) (src : Side) (d : CwDir) : State :=
  match src with
  | .host => { s with cway := { s.cway with toField := d } }
  | .field => { s with cway := { s.cway with toHost := d } }

/-- The other side. -/
def otherSide : Side → Side | .host => .field | .field => .host

/-- A counter of diag.causeway raised for the link in service: 0 sent, 1 resent, 2 LNAKs, 3 lock losses. -/
def State.countCw (s : State) (link kind n : Nat) : State :=
  { s with cway := { s.cway with counts := Tab.upd s.cway.counts (4 * link + kind) 0 fun c => min (c + n) (2 ^ 32 - 1) } }

/-- Whether messages can leave: the link in service is up. -/
def State.cwOpen (s : State) : Bool := !s.cway.down

/-! ### The wire (spec/01 R15, Table 1-3) -/

/-- Nanoseconds of a message on the wire at 400 Mbit/s: start pattern, header and payload in blocks of the code. -/
def wireNs (m : CwMsg) : Nat :=
  let n := 16 + m.plen.toNat
  20 * (2 + 36 * (n / 32) + (if n % 32 = 0 then 0 else n % 32 + 4))

/-- Nanoseconds of one block on the wire (spec/01 R19). -/
def blockNs : Nat := 720

/-- The first block boundary at or after `t` of a message on the wire. -/
def Kept.boundary (k : Kept) (t : Nat) : Nat := min k.lastAt (k.startAt + 40 + (t - (k.startAt + 40) + (blockNs - 1)) / blockNs * blockNs)

/-- When a message of a class can enter the link at `t`: behind the messages of its class or above, at the next block boundary of one of a
lower class (spec/01 R15). -/
def CwDir.entry (d : CwDir) (cls t : Nat) : Nat :=
  let wire := d.kept.filter fun k => k.sent && decide (t < k.lastAt)
  let t1 := (wire.filter fun k => decide (k.msg.cls.val ≤ cls)).foldl (fun a k => max a k.lastAt) t
  (wire.filter fun k => decide (cls < k.msg.cls.val) && decide (k.startAt < t1) && decide (t1 < k.lastAt)).foldl (fun a k => max a (k.boundary t1)) t1

/-- What of a lower class is not off the wire at `at_` leaves `w` ns later. -/
def Kept.delay (k : Kept) (cls at_ w : Nat) : Kept :=
  if k.sent && decide (cls < k.msg.cls.val) && decide (at_ < k.lastAt) then
    { k with startAt := if at_ ≤ k.startAt then k.startAt + w else k.startAt, lastAt := k.lastAt + w }
  else k

/-- A message of no lseq on the link in service: LACK, LNAK, MARK. -/
def State.cwPlain (s : State) (src : Side) (ctype desc : Nat) : State :=
  if s.cwOpen then (s.countCw s.cway.link 0 1).emit (.causeway src s.cway.link ctype 0 false desc) else s

/-- Kept message `i` put on the link: the first time under the next number, later with the retransmission flag (spec/01 R16). -/
def State.cwPut (s : State) (src : Side) (i t : Nat) : State :=
  let d := s.dir src
  match d.kept[i]? with
  | none => s
  | some k =>
    let m := if k.sent then k.msg else { k.msg with lseq := BitVec.ofNat 8 d.nextSeq }
    let w := wireNs m
    let at_ := d.entry m.cls.val t
    let kept := (d.kept.map fun q => q.delay m.cls.val at_ w).set i
      { k with msg := m, sends := k.sends + 1, sent := true, startAt := at_, lastAt := at_ + w }
    let s := s.setDir src { d with kept := kept, nextSeq := if k.sent then d.nextSeq else (d.nextSeq + 1) % 256 }
    (s.countCw s.cway.link (if k.sent then 1 else 0) 1).emit (.causeway src s.cway.link m.ctype.toNat m.lseq.toNat k.sent m.desc.toNat)

/-- The kept messages put on the link: of the first 16, from the first that `first` picks (spec/01 R16). -/
def State.cwFlush (s : State) (src : Side) (first : Kept → Bool) (t : Nat) : State :=
  if s.cwOpen = false then s
  else
    let window := (s.dir src).kept.take 16
    let n := (window.dropWhile fun k => !(first k)).length
    (List.range n).foldl (fun s j => s.cwPut src (window.length - n + j) t) s

/-- A message without its number, which it takes when it enters the link. -/
def CwMsg.body (m : CwMsg) : CwMsg := { m with lseq := 0#8 }

/-- A message queued behind the waiting ones of its class and above (spec/01 R15). -/
def CwDir.queue (d : CwDir) (k : Kept) : CwDir :=
  let ahead := d.kept.takeWhile fun q => q.sent || decide (q.msg.cls.val ≤ k.msg.cls.val)
  { d with kept := ahead ++ k :: d.kept.drop ahead.length }

/-- A message as it is queued: the half numbers it when it enters the link. -/
def cwMessage (ctype cls desc : Nat) (payload : Payload) : CwMsg :=
  { ctype := BitVec.ofNat 8 ctype, lseq := 0#8, retrans := false, cls := ⟨cls % 3, Nat.mod_lt _ (by decide)⟩,
    plen := BitVec.ofNat 9 payload.len, desc := BitVec.ofNat 96 desc, payload := payload }

/-- A message queued and, with fewer than 16 unacknowledged, sent (spec/01 R15, R16). -/
def State.cwSend (s : State) (src : Side) (ctype cls : Nat) (desc : Nat) (payload : Payload) (t : Nat) : State :=
  let k : Kept := { msg := cwMessage ctype cls desc payload, sends := 0, sent := false, startAt := t, lastAt := t }
  (s.setDir src ((s.dir src).queue k)).cwFlush src (fun k => !k.sent) t

/-- The requested RESET whose message is acknowledged is answered (spec/16 R436): it leaves the keep list. -/
def Kept.isReset (k : Kept) : Bool := k.msg.ctype == 0x06#8

/-- LACK: every message up to the one it names is released; those that waited are sent. The invoker of a reset hears once its RESET is
acknowledged (spec/16 R436). -/
def State.lackUpto (s : State) (src : Side) (upto t : Nat) : State × Bool :=
  let d := s.dir src
  match d.kept.findIdx? fun k => k.msg.lseq.toNat == upto && k.sent with
  | none => (s, false)
  | some i =>
    let gone := d.kept.take (i + 1)
    let s := s.setDir src { d with kept := d.kept.drop (i + 1) }
    (s.cwFlush src (fun k => !k.sent) t, gone.any Kept.isReset)

/-- The types of Table 1-2. -/
def knownType (c : Nat) : Bool := decide (1 ≤ c) && decide (c ≤ 0x0C)

/-- A lost block of a link counted towards R17 where that link is in service, over the last second (spec/01 R17). -/
def State.noteUncorr (s : State) (link : Fin 2) (b : BlockResult) (t : Nat) : State :=
  match b with
  | .uncorrectable =>
    if link = s.cway.link then { s with cway := { s.cway with uncorr := t :: (s.cway.uncorr.filter fun u => decide (t < u + 1000000000)) } } else s
  | _ => s

/-- What the decoder reports of a link's block counted in its region and towards R17; its place is the message's lseq (spec/01 Table 1-7). -/
def State.countLink (s : State) (link : Fin 2) (b : BlockResult) (lseq t : Nat) : State := (s.countBlock (17 + link.val) b lseq t).noteUncorr link b t

/-- CAUSEWAY_MESSAGE_RECEIVED at the half of `side`: discarded and counted where its type or length is unknown (an uncorrectable block of the
link whatever the decoder corrected, R14) or a block is lost, delivered once in lseq order else; answered by LACK or LNAK. What a delivered
message does is its own row's. The injections on the link act on it first: one dropped is not seen at all, a block altered is never counted
towards R17 (spec/18 R473, R477). -/
def execCausewayMessageReceived (t : Nat) (side : Side) (link : Fin 2) (msg : CwMsg) (block : BlockResult) (s : State) : Res :=
  let s := s.at t
  let src := otherSide side
  let d := s.dir src
  let n := msg.lseq.toNat
  let bad := !(knownType msg.ctype.toNat) || decide (256 < msg.plen.toNat)
  let a := s.linkUnit side link n t
  let dropped := a.1.any fun j => a.2.get injectAction j == 1
  let c := a.1.elim (false, a.2) fun j =>
    if dropped then (false, a.2) else a.2.corruptBy j (a.2.get injectBytes j) (17 + link.val) n t
  let lost := c.1 || BlockResult.lost block
  let s := if dropped then c.2 else c.2.countLink link block n t
  let s := if bad && !lost && !dropped then s.countLink link .uncorrectable n t else s
  if dropped ∨ msg.ctype = 0x0C#8 ∨ msg.ctype = 0x0A#8 ∨ msg.ctype = 0x0B#8 then .next s
  else if bad || lost || decide (n ≠ d.expected) then
    let old := decide ((d.expected + 256 - n) % 256 ≤ 128) && !bad && !lost
    if old then .next (s.cwPlain side 0x0A ((d.expected + 255) % 256)) else .next (s.cwPlain side 0x0B d.expected)
  else
    let s := s.setDir src { d with expected := (d.expected + 1) % 256, delivered := d.delivered + 1 }
    .next (s.cwPlain side 0x0A n)

/-- LNAK at `side`: what it sent is sent again from the message named (spec/01 R16). -/
def execLnak (t : Nat) (side : Side) (named : BitVec 8) (s : State) : Res :=
  let s := (s.at t).countCw s.cway.link 2 1
  .next (s.cwFlush side (fun k => k.sent && k.msg.lseq == named) t)

/-- LACK_TIMEOUT at `side`: the oldest message unacknowledged 20 µs after its last byte (spec/01 R16). -/
def execLackTimeout (t : Nat) (side : Side) (s : State) : Res :=
  let s := s.at t
  if (s.dir side).kept.head?.any fun k => k.sent && decide (k.lastAt + 20000 ≤ t) then .next (s.cwFlush side (fun _ => true) t)
  else .next s

/-! ### Switchover and loss (spec/01 R17, R18) -/

/-- Whether a message has been sent three times without acknowledgement (1), or more than 16 blocks were lost within 1 s (2). -/
def State.cwTrigger (s : State) (t : Nat) : Option Nat :=
  if ((s.dir .host).kept ++ (s.dir .field).kept).any fun k => decide (3 ≤ k.sends) then some 1
  else if 16 < (s.cway.uncorr.filter fun u => decide (t < u + 1000000000)).length then some 2
  else none

/-- A direction whose link changes or retrains: nothing is on the wire and no message has been sent on the link yet; what was sent before is
resent with the retransmission flag (spec/01 R17, R18). -/
def CwDir.fresh (d : CwDir) (t : Nat) : CwDir :=
  { d with kept := d.kept.map fun k => { k with sends := 0, startAt := min k.startAt t, lastAt := min k.lastAt t } }

/-- Link A leaves service and B takes over: every kept message is sent again (spec/01 R17). -/
def State.switchover (s : State) (trigger t : Nat) : State :=
  let s := { s with cway := { s.cway with link := 1, uncorr := [], retiredAt := t, toField := s.cway.toField.fresh t, toHost := s.cway.toHost.fresh t } }
  let s := (s.eventOn (s.provoked 3 0 t) 0x08 0 trigger 0 t).setExhausted 2 true t
  (s.cwFlush .host (fun _ => true) t).cwFlush .field (fun _ => true) t

/-- Link B is lost: each side treats the other as absent and B retrains within 100 µs (spec/01 R18). -/
def State.linkBLost (s : State) (trigger t : Nat) : State :=
  let s := { s with cway := { s.cway with down := true, retrainAt := t + 100000, hostAbsent := true, fieldAbsent := true,
                                          hostAbsentSince := if s.cway.hostAbsent then s.cway.hostAbsentSince else t, uncorr := [],
                                          toField := s.cway.toField.fresh t, toHost := s.cway.toHost.fresh t } }
  ((s.eventOn (s.provoked 3 1 t) 0x08 1 trigger 0 t).countCw 1 3 1).refreshLands t

/-- LINK_SWITCHOVER (spec/01 R17). -/
def execLinkSwitchover (t : Nat) (s : State) : Res :=
  let s := s.at t
  match s.cwTrigger t with
  | some tr => .next (if s.cway.link = 0 then s.switchover tr t else s)
  | none => .next s

/-- BIT_LOCK_LOSS: a link without bit lock for more than 10 µs (spec/01 R17, R18). -/
def execBitLockLoss (t : Nat) (link : Fin 2) (s : State) : Res :=
  let s := s.at t
  if link = 0 then .next (if s.cway.link = 0 then (s.countCw 0 3 1).switchover 3 t else s)
  else .next (if s.cway.link = 1 ∧ s.cway.down = false then s.linkBLost 3 t else s)

/-- LINK_B_DOWN: a condition of R17 on link B in service (spec/01 R18). -/
def execLinkBDown (t : Nat) (s : State) : Res :=
  let s := s.at t
  match s.cwTrigger t with
  | some tr => .next (if s.cway.link = 1 ∧ s.cway.down = false then s.linkBLost tr t else s)
  | none => .next s

/-- LINK_B_RETRAIN (spec/01 R18): with bit lock the link carries messages again; without, the next try is 10 ms later. -/
def execLinkBRetrain (t : Nat) (locked : Bool) (s : State) : Res :=
  let s := s.at t
  if s.cway.down = false ∨ t < s.cway.retrainAt then .next s
  else if locked then .next { s with cway := { s.cway with down := false } }
  else .next { s with cway := { s.cway with retrainAt := t + 10000000 } }

/-! ### STATUS and absence (spec/01 R13) -/

/-- diag.causeway refreshed (spec/18 R472). -/
def State.refreshCw (s : State) : State :=
  [0, 1].foldl (fun s (l : Nat) =>
    let c (k : Nat) : Nat := Tab.get s.cway.counts (4 * l + k) 0
    let st := if l = 0 then (if s.cway.link = 0 then 1 else 2) else if s.cway.link = 1 then 1 else 0
    let s := ((s.put diagCwState l st).put diagCwSent l (c 0)).put diagCwResent l (c 1)
    let s := (s.put diagCwLnak l (c 2)).put diagCwLockLosses l (c 3)
    s.put diagCwRetiredStamp l (if l = 0 then s.cway.retiredAt else 0)) s

/-- The other side of `side` is absent from a stamp. -/
def State.setAbsent (s : State) (side : Side) (t : Nat) : State :=
  match side with
  | .field => if s.cway.hostAbsent then s else { s with cway := { s.cway with hostAbsent := true, hostAbsentSince := t } }
  | .host => { s with cway := { s.cway with fieldAbsent := true } }

/-- STATUS_SEND by `side` (spec/01 R13): mode, health bits and spare counts; class 1. -/
def execStatusSend (t : Nat) (side : Side) (s : State) : Res :=
  let s := s.at t
  let desc := s.get modeStateMode 0 + 2 ^ 8 * s.get sparesExhausted 0 + 2 ^ 16 * s.get sparesLost 0 + 2 ^ 24 * s.get sparesWarn 0
  let up := match side with | .host => s.sup.hostUp && !s.sup.pfailhLow | .field => s.sup.fieldUp
  .next (if up then s.cwSend side 0x07 1 desc ⟨0, 0⟩ t else s)

/-- HOST_ABSENT (spec/01 R13): no STATUS for 10 ms. -/
def execHostAbsent (t : Nat) (s : State) : Res :=
  let s := s.at t
  .next (if s.cway.hostHeard + 10000000 ≤ t then (s.setAbsent .field t).refreshLands t else s)

/-- FIELD_SIDE_ABSENT (spec/01 R13): the same on the host side; requests for the field side get NAK 0x000A. -/
def execFieldSideAbsent (t : Nat) (s : State) : Res :=
  let s := s.at t
  .next (if s.cway.fieldHeard + 10000000 ≤ t then (s.setAbsent .host t).refreshLands t else s)

/-- PFAIL at `side`: the other side is absent at once (spec/16 R441). -/
def execPfail (t : Nat) (side : Side) (s : State) : Res := .next (((s.at t).setAbsent side t).refreshLands t)

/-- BULK at `side` (spec/16 R433): chunks of a transfer in order, one byte string. -/
def execBulk (t : Nat) (side : Side) (transfer chunk : Nat) (last : Bool) (data : Payload) (s : State) : Res :=
  let s := s.at t
  let key := 2 * transfer + (match side with | .host => 0 | .field => 1)
  let b := Tab.get s.cway.bulk key (0, 0, ⟨0, 0⟩)
  let b := if chunk = 0 then (0, 0, (⟨0, 0⟩ : Payload)) else b
  if chunk ≠ b.1 ∨ b.2.1 = 1 ∨ 256 < data.len then .next s
  else
    let all : Payload := ⟨b.2.2.len + data.len, b.2.2.data + data.data % 2 ^ (8 * data.len) * 2 ^ (8 * b.2.2.len)⟩
    .next { s with cway := { s.cway with bulk := Tab.set s.cway.bulk key (chunk + 1, (if last then 1 else 0), all) } }

end Sys2Proof.Machine
end

