-- ==== Sys2Proof/Machine/ClockRows.lean ====
section
/-! DEFINITION. Site time and its marks, legal time from the RTC, the field clock fallback (spec/01 R28–R31, spec/08 R213–R217). -/

namespace Sys2Proof.Machine

/-- Site time's discipline replaced. -/
def State.setClk (s : State) (k : Clock) : State := { s with clk := k }

/-- The code of a time base (spec/07 Table 7-14). -/
def baseCode : TimeBase → Nat | .locked => 0 | .free => 1 | .holdover => 2 | .degraded => 3

/-- A new state of site time, shown in meter.status. -/
def State.setBase (s : State) (b : TimeBase) : State := (s.setClk { s.clk with base := b }).put meterStatusTimeBase 0 (baseCode b)

/-- The mean error of the intervals is below 0.1 ppm (spec/01 R30). -/
def Clock.close (k : Clock) : Bool :=
  let n : Int := k.intervals.length
  !k.intervals.isEmpty && decide (mag (k.intervals.foldl (fun (a : Int) (i : Nat) => a + ((i : Int) - 1000000000)) 0) < 100 * n)

/-- Site time's state after an accepted mark (spec/01 R30). With fewer than 16 marks since reset, and where HOLDOVER ends by a mark while the
mean error is not yet below 0.1 ppm, R30 names no state: FREE (DESIGN CHOICE, notes/assumptions/29.md). -/
def Clock.afterMark (k : Clock) : TimeBase :=
  if k.fallback then .degraded
  else if k.accepted < 16 then .free
  else if k.close then .locked
  else if k.base == .locked then .locked else .free

/-- The increment after a mark (spec/01 R30): towards a mean of 10^9, by at most 0.1 ppm for the time since the last change, which however long
allows no more than one second's 0.1 ppm at once, and within 20 ppm of the calibrated nominal; how far is not stated, a free value
(notes/assumptions/29.md). -/
def State.trim (s : State) (m : Nat) : State :=
  let k := s.clk
  let n := k.intervals.length
  let sum := k.intervals.foldl (· + ·) 0
  let room := k.inc * min (m - k.trimAt) 1000000000 / 10000000000000000
  let lo := max (k.inc - room) (k.nominal - k.nominal / 50000)
  let hi := min (k.inc + room) (k.nominal + k.nominal / 50000)
  if n = 0 ∨ sum = n * 1000000000 then s
  else
    let f := s.fresh
    let inc := if n * 1000000000 < sum then (if lo ≤ k.inc then k.inc - f.1 % (k.inc - lo + 1) else k.inc)
      else (if k.inc ≤ hi then k.inc + f.1 % (hi - k.inc + 1) else k.inc)
    f.2.setClk { k with inc := inc, trimAt := m }

/-- flag [5] of every open session: a clock step lies within it (spec/08 Table 8-9). -/
def State.markSessions (s : State) : State :=
  { s with bill := { s.bill with sessions := s.bill.sessions.map fun (p : Nat × BillSess) => (p.1, { p.2 with flags := p.2.flags ||| 32 }) } }

/-- The UTC second the RTC gives an instant (spec/08 R213, R216): counted on from the last it showed, trimmed cycles of 32.768 kHz included. -/
def State.rtcSecond (s : State) (m : Nat) : Nat :=
  let r := s.clk.rtc
  (((r.second : Int) * 1000000000 + ((m : Int) - r.at_) + r.cycles * 1000000000 / 32768 + 500000000) / 1000000000).toNat

/-- The RTC shows a second at an edge. -/
def Rtc.shows (r : Rtc) (utc m : Nat) : Rtc := { r with second := utc, at_ := m, cycles := 0 }

/-- A pending time.set takes effect at a mark (spec/08 R215, R216): legal time is valid; a step that is not zero with its time.log entry, beyond
adjust_lim with event type 4; what it does to the demand interval waits for the first index at or after the mark; source 0x42. -/
def State.applyStep (s : State) (m t : Nat) : State :=
  match s.bill.step with
  | none => s
  | some (utc, port, role) =>
    let old := s.rtcSecond m
    let was := s.legalValid
    let d : Int := (utc : Int) - (old : Int)
    let s := { s with bill := { s.bill with step := none } }
    let s := s.setClk { s.clk with pair := some (m, utc), legalInvalid := false, rtc := s.clk.rtc.shows utc m }
    let s := if was then s else s.raise 0x44 t
    if d = 0 then s.showBoundary t
    else
      let large := decide (s.num timeConfigAdjustLim 0 < mag d)
      let s := s.timeLog (if large then 2 else 1) port role old utc m t
      let s := if large then s.tamper 4 (ofSigned 32 d) t else s
      let s := { s with bill := { s.bill with stepped := some { at_ := m, old := old, new := utc, large := large } } }
      ((s.markSessions).raise 0x42 t).showBoundary t

/-- A mark accepted at site time `m` (spec/01 R29, R30). Until the TIME that labels it arrives, the pair shows it with the UTC second counted on
from the last labelled mark (DESIGN CHOICE: R28 states none, notes/assumptions/29.md). -/
def State.acceptMark (s : State) (src : MarkSource) (m : Nat) (fresh : Bool) (t : Nat) : State :=
  let k := s.clk
  let prev := match src with | .hsync => k.lastHsync | .rtc => k.lastRtc
  let iv := if fresh then [] else ((m - prev.getD m) :: k.intervals).take 16
  let k := { k with mark := some m, series := some src, intervals := iv, accepted := k.accepted + 1,
                    before := k.pair, pair := k.pair.map fun (p : Nat × Nat) => (m, (p.2 * 1000000000 + (m - p.1) + 500000000) / 1000000000) }
  let k := match src with | .hsync => { k with lastHsync := some m } | .rtc => { k with lastRtc := some m }
  let s := (s.setClk k).trim m
  let s := s.setBase s.clk.afterMark
  s.applyStep m t

/-- MARK (spec/01 R29): the arrival less the counted delay (2.5 ns cycles) and the fixed crossing delay, judged against the last accepted
mark of its source. -/
def execMark (t : Nat) (source : MarkSource) (delayCycles : Nat) (s : State) : Res :=
  let s := s.at t
  let m := t - (delayCycles * 5 / 2 + Config.crossingDelay)
  let prev := match source with | .hsync => s.clk.lastHsync | .rtc => s.clk.lastRtc
  let fresh := s.clk.series != some source || prev.all fun p => decide (p + 2000000000 < m)
  let good := prev.any fun p => decide (p + 999950000 ≤ m) && decide (m ≤ p + 1000050000)
  if fresh ∨ good then .next (s.acceptMark source m fresh t)
  else .next (s.setClk { s.clk with rejected := s.clk.rejected + 1 })

/-- HSYNC_EDGE (spec/01 R29): captured in HP and forwarded as a MARK in class 0. -/
def execHsyncEdge (t : Nat) (waitCycles : Nat) (s : State) : Res :=
  let s := s.at t
  .next (if s.sup.hostUp && !s.sup.pfailhLow then s.cwPlain .host 0x0C (waitCycles * 2 ^ 8) else s)

/-- RTC_SECOND_MARK (spec/08 R214): the RTC's second while no HSYNC edge has been accepted for 2 s. -/
def execRtcSecondMark (t : Nat) (waitCycles : Nat) (s : State) : Res :=
  let s := s.at t
  let quiet := s.clk.lastHsync.all fun m => decide (m + 2000000000 ≤ t)
  .next (if s.sup.hostUp && !s.sup.pfailhLow && quiet then s.cwPlain .host 0x0C (1 + waitCycles * 2 ^ 8) else s)

/-- Legal time becomes invalid (spec/08 R215): event type 20, source 0x44. -/
def State.loseLegal (s : State) (t : Nat) : State :=
  if s.clk.legalInvalid then s
  else (((s.setClk { s.clk with legalInvalid := true }).tamper 20 0 t).raise 0x44 t).showBoundary t

/-- TIME (spec/01 R28, spec/08 R214, R215): the UTC second of the last accepted mark, and the RTC's status. -/
def execTime (t : Nat) (utc : Nat) (rtcLost rtcMark vbatLow : Bool) (s : State) : Res :=
  let s := s.at t
  let was := s.legalValid
  let s := { s with sup := { s.sup with vbatLow := vbatLow } }
  let s := s.setClk { s.clk with rtcMark := rtcMark, pair := match s.clk.mark with | some m => some (m, utc) | none => s.clk.pair,
                                 rtc := s.clk.rtc.shows utc (s.clk.mark.getD t) }
  let s := if rtcLost then s.loseLegal t else s
  let s := if !was && s.legalValid then s.raise 0x44 t else s
  .next (s.showBoundary t)

/-- SITE_TIME_HOLDOVER (spec/01 R30): no mark accepted for 2 s. -/
def execSiteTimeHoldover (t : Nat) (s : State) : Res :=
  let s := s.at t
  let last := max (s.clk.lastHsync.getD 0) (s.clk.lastRtc.getD 0)
  if s.clk.fallback ∨ s.clk.accepted < 16 ∨ t < last + 2000000000 then .next s else .next (s.setBase .holdover)

/-- FIELD_CLOCK_FALLBACK (spec/01 R31): the field islands run from the link's clock until the next cold reset; event type 17, field clock
exhausted. -/
def execFieldClockFallback (t : Nat) (s : State) : Res :=
  let s := s.at t
  if s.clk.fallback then .next s
  else
    let s := (s.setClk { s.clk with fallback := true, fallbackAt := t }).setBase .degraded
    .next ((s.tamper 17 0 t).setExhausted 7 true t)

/-- RTC_TRIM (spec/08 R213): every 32 s the RTC adds or skips oscillator cycles by rtc_trim, 0.01 ppm of 32 s at 32,768 Hz a step; what is less
than a cycle is kept for the next. -/
def execRtcTrim (t : Nat) (s : State) : Res :=
  let s := s.at t
  if t < s.clk.trimmedAt + 32000000000 then .next s
  else
    let r := s.clk.rtc
    let x := r.frac + s.geti timeConfigRtcTrim 0 * (32 * 32768)
    .next (s.setClk { s.clk with trimmedAt := t, rtc := { r with cycles := r.cycles + x / 100000000, frac := x % 100000000 } })

end Sys2Proof.Machine
end

