-- ==== Sys2Proof/Machine/HostBase.lean ====
section
/-! DEFINITION. Host ports: who is heard, what a port is sent, injections on host messages, responses and NOTIFYs (spec/14 R374–R388,
spec/18 R473). -/

namespace Sys2Proof.Machine

/-! ### Ports and roles (spec/14 R374–R378) -/

/-- A port's state. -/
def State.port (s : State) (p : Nat) : Port := Tab.get s.hosts.ports p Port.reset
/-- A port's state replaced. -/
def State.setPort (s : State) (p : Nat) (k : Port) : State := { s with hosts := { s.hosts with ports := Tab.set s.hosts.ports p k } }

/-- The role a port is bound to; the console's is SERVICE (spec/14 Table 14-1). -/
def State.portRole (s : State) (p : Nat) : Nat := if p = 5 then 5 else s.get portBindRole p

/-- Whether a set of roles holds a role; role 0 holds no right (spec/14 R376). -/
def hasRole (set role : Nat) : Bool := role != 0 && set.testBit role

/-- lc.state.state (spec/14 R393). -/
def State.lifecycle (s : State) : Nat := s.get lcStateState 0

/-- Whether the console is enabled (spec/14 R378). -/
def State.consoleOn (s : State) (t : Nat) : Bool :=
  let l := s.lifecycle
  l == 0 || l == 1 || l == 3 || (l == 2 && s.hosts.consoleUntil.any fun u => decide (t < u))

/-- Whether the host side takes a message of a port: it serves (in host recovery HP4 and the console only, spec/16 R432), the console is
enabled, a host lane is not off (spec/12 R344). -/
def State.hears (s : State) (p t : Nat) : Bool :=
  s.sup.hostUp && s.sup.hostServing && (!s.sup.recovery || decide (4 ≤ p)) && (p != 5 || s.consoleOn t)
    && (decide (4 ≤ p) || s.get laneHostMode p != 0)

/-! ### Messages (spec/14 Table 14-2) -/

/-- The bytes of a message. -/
def messageBytes (typ flags port role seq obj idx status : Nat) (p : Payload) : Payload :=
  ⟨16 + p.len, typ % 256 + flags % 256 * 2 ^ 8 + port * 2 ^ 16 + role * 2 ^ 24 + seq % 65536 * 2 ^ 32 + obj % 65536 * 2 ^ 48
    + idx % 65536 * 2 ^ 64 + p.len % 65536 * 2 ^ 80 + status % 65536 * 2 ^ 96 + p.data % 2 ^ (8 * p.len) * 2 ^ 128⟩

/-! ### Injections on host messages (spec/18 R473) -/

/-- The code region of a port's messages: its host lane; for the SPI port and the console, which have no region in spec/01 Table 1-6, the
host side's memory their bytes are taken into (DESIGN CHOICE, notes/assumptions/41.md). -/
def portRegion (p : Nat) : Nat := if p < 4 then 31 + p else 13

/-- Corruption of a host message by slot `j`. -/
def State.corruptUnit (s : State) (j p t : Nat) : Bool × State := s.corruptBy j (s.get injectBytes j) (portRegion p) (s.lane p).frame t

/-- A frame of host lane `p` (0 received, 1 sent) through the injections on it. -/
def State.laneUnit (s : State) (p dir t : Nat) : Bool × State := s.frameUnit 2 p dir (31 + p) (s.lane p).frame t

/-- The address a message of a 1000BASE-X lane goes to (spec/12 R345): a reply to the source of the request, a NOTIFY to that of the SUBSCRIBE
that caused it. -/
def State.addressed (s : State) (p : Nat) (o : Out) : State :=
  if s.get laneHostMode p ≠ 2 then s
  else
    let k := s.port p
    let dst := match o with
      | .notify _ _ obj idx _ _ => ((k.subs.find? fun b => b.obj == obj && decide (b.first ≤ idx) && decide (idx ≤ b.last)).map Sub.peer).getD k.peer
      | _ => k.peer
    s.setPort p { k with dest := dst }

/-- A message leaves on a port: HP4 keeps it to be read and pulls HSPI_IRQ_N low (spec/14 R377). -/
def State.putOut (s : State) (p : Nat) (o : Out) (bytes : Payload) : State :=
  if p = 4 then ((s.emit o).setPort 4 { (s.emit o).port 4 with toRead := ((s.emit o).port 4).toRead ++ [bytes] }).drive 7 false
  else if p < 4 then
    let a := s.laneUnit p 1 s.now
    if a.1 then a.2 else (a.2.addressed p o).emit o
  else s.emit o

/-- Units sent by a port that reorder injections hold leave after the one just sent. -/
def State.releaseSent (s : State) (p : Nat) : State :=
  (List.range 8).foldl (fun s j =>
    match Tab.find s.diag.held j with
    | some ⟨.sent q o bytes, _⟩ =>
      if q = p then { s with diag := { s.diag with held := Tab.del s.diag.held j } }.putOut p o bytes else s
    | _ => s) s

/-- A response or NOTIFY goes out on a port, through the injections on it (spec/18 Table 18-5). -/
def State.sendUnit (s : State) (p : Nat) (o : Out) (bytes : Payload) (t : Nat) : State :=
  let a := s.unitSeen 4 p 1 t
  let s := a.2
  a.1.elim ((s.putOut p o bytes).releaseSent p) fun j =>
    if s.get injectAction j = 1 then s.releaseSent p
    else if s.get injectAction j = 2 then
      let c := s.corruptUnit j p t
      (if c.1 then c.2 else c.2.putOut p o bytes).releaseSent p
    else (s.releaseSent p).holdUnit j t (.sent p o bytes)

/-! ### Across the Causeway (spec/01 R11, Table 1-2; notes/assumptions/41.md) -/

/-- Objects the host side serves without the field side: identity, ports, keys, lifecycle, staging (notes/assumptions/27.md). -/
def hostSideObj (id : Nat) : Bool := id == 0 || (decide (0x0100 ≤ id) && decide (id < 0x0200)) || id == 0x1A50

/-- The descriptor of HOST_REQ and HOST_RSP: the host message's header without its length and reserved fields. -/
def hostDesc (typ flags port role seq obj idx status : Nat) : Nat :=
  typ % 256 + flags % 256 * 2 ^ 8 + port % 256 * 2 ^ 16 + role % 256 * 2 ^ 24 + seq % 65536 * 2 ^ 32 + obj % 65536 * 2 ^ 48
    + idx % 65536 * 2 ^ 64 + status % 65536 * 2 ^ 80

/-- A host message of an object of the field side crosses: HOST_REQ towards it, HOST_RSP (ACK, NAK, NOTIFY) from it, in class 1. -/
def State.cross (s : State) (src : Side) (obj desc : Nat) (payload : Payload) (t : Nat) : State :=
  if hostSideObj obj then s else s.cwSend src (match src with | .host => 0x01 | .field => 0x02) 1 desc payload t

/-! ### Responses (spec/14 R380, R381) -/

/-- No payload. -/
def noPayload : Payload := ⟨0, 0⟩

/-- The answer to a request: that of a request performed on the field side crosses as HOST_RSP; recorded among the last 16 of its port, a NAK
counted, and sent. -/
def State.reply (s : State) (m : HostMsg) (status : Nat) (payload : Payload) (t : Nat) : State :=
  let p := m.req.port.val
  let seq := m.req.seq.toNat
  let k := s.port p
  let typ := if status = 0 then 7 else 8
  let s := if k.running.contains seq then
      s.cross .field m.obj (hostDesc typ 0 p (s.portRole p) seq m.obj m.req.index.toNat status) payload t
    else s
  let s := s.setPort p { k with answered := ((seq, status, payload) :: k.answered).take 16, running := k.running.erase seq }
  let s := if status = 0 then s else s.inc portStateNaks p 1
  s.sendUnit p (.response p seq status payload)
    (messageBytes typ 0 p (s.portRole p) seq m.obj m.req.index.toNat status payload) t

/-- A payload of `n` bytes. -/
def payloadOf (n v : Nat) : Payload := ⟨n, v % 2 ^ (8 * n)⟩

/-- `n` bytes of a payload from offset `off`. -/
def argAt (p : Payload) (off n : Nat) : Nat := p.data / 2 ^ (8 * off) % 2 ^ (8 * n)

/-! ### NOTIFY (spec/14 R385–R387) -/

/-- A NOTIFY queued on a port: up to 256; beyond, the oldest without flags [0] is dropped and counted (spec/14 R386). -/
def State.holdNtf (s : State) (p : Nat) (n : Ntf) : State :=
  let k := s.port p
  let q := k.queue ++ [n]
  if q.length ≤ 256 then s.setPort p { k with queue := q }
  else
    match q.findIdx? fun x => !x.ack with
    | none => s.setPort p { k with queue := q }
    | some i => (s.setPort p { k with queue := q.eraseIdx i }).inc portStateNotifyDrops p 1

/-- What the field side has for the host side kept in the journal, in one order (spec/01 R13). -/
def State.keepQueued (s : State) (q : Queued) : State := { s with cway := { s.cway with queued := s.cway.queued ++ [q] } }

/-- A NOTIFY for a port: one of the field side crosses as HOST_RSP, and is queued in the journal while the host side is absent (spec/01 R13). -/
def State.enqueueNtf (s : State) (p : Nat) (n : Ntf) : State :=
  if s.cway.hostAbsent && !hostSideObj n.obj then s.keepQueued (.notify p n.obj n.idx n.ack n.payload)
  else
    (s.cross .field n.obj (hostDesc 6 (if n.ack then 1 else 0) p (s.portRole p) 0 n.obj n.idx 0) n.payload s.now).holdNtf p n

/-- The first NOTIFY of a port's queue sent against a credit: with flags [0] it awaits its acknowledgement (spec/14 R386, R387). -/
def State.sendNtf (s : State) (p t : Nat) : State :=
  let k := s.port p
  match k.queue with
  | [] => s
  | n :: rest =>
    if s.get portStateNtfCredits p = 0 then s
    else
      let aw : List Await := if n.ack then [{ seq := k.nextSeq, ntf := n, sentAt := t, first := t }] else []
      let s := s.setPort p { k with queue := rest, nextSeq := (k.nextSeq + 1) % 65536, awaits := k.awaits ++ aw }
      let s := s.put portStateNtfCredits p (s.get portStateNtfCredits p - 1)
      s.sendUnit p (.notify p k.nextSeq n.obj n.idx n.ack n.payload)
        (messageBytes 6 (if n.ack then 1 else 0) p (s.portRole p) k.nextSeq n.obj n.idx 0 n.payload) t

/-! ### Rights (spec/14 R388) -/

/-- What the tables grant on an object: indices, roles that write or invoke, read, subscribe; whether it takes INVOKE alone. -/
structure Right where
  count : Nat
  writers : Nat
  readers : Nat
  subs : Nat
  cmd : Bool
  deriving DecidableEq, Repr

/-- A command object: indices and the roles that may invoke some code of it. -/
def cmdRight (count roles : Nat) : Right := { count := count, writers := roles, readers := 0, subs := 0, cmd := true }

/-- Command objects and objects whose layout the spec does not give (roles: bits 1 OPERATOR, 2 SITE, 3 METER, 4 SAFETY, 5 SERVICE). -/
def extraRights : Tab Right :=
  [(0x0020, cmdRight 1 62), (0x0118, cmdRight 1 32), (0x0120, ⟨64, 0, 36, 36, false⟩), (0x0160, cmdRight 1 32), (0x0190, cmdRight 1 40),
   (0x01E0, cmdRight 1 62), (0x0540, cmdRight 12 34), (0x06A0, cmdRight 46 32), (0x08E0, cmdRight 1 8), (0x0CA0, ⟨12, 0, 8, 8, false⟩),
   (0x0CF0, cmdRight 1 8), (0x0D01, ⟨1, 0, 10, 10, false⟩), (0x1030, cmdRight 12 38), (0x11F0, cmdRight 12 48)]
  ++ [(0x13F0, cmdRight 16 32), (0x1403, cmdRight 1024 36), (0x1450, cmdRight 4 36), (0x14F0, cmdRight 1024 32), (0x1860, cmdRight 1 44),
   (0x18F0, cmdRight 5 32), (0x19F0, cmdRight 8 32), (0x1A10, ⟨1, 0, 36, 36, false⟩), (0x1A40, ⟨16, 4, 4, 6, false⟩),
   (0x1A60, cmdRight 7 36), (0x1B02, cmdRight 1 12)]

/-- The rights to an object ID; none where no table defines it. -/
def rightOf (id : Nat) : Option Right :=
  match findObj id with
  | some d => some { count := d.count, writers := d.writers, readers := d.readers, subs := d.subscribers, cmd := false }
  | none => Tab.find extraRights id

/-- The roles a request of a type needs one of. -/
def Right.roles (r : Right) (typ : Nat) : Nat :=
  if typ = 1 then r.readers
  else if typ = 5 then r.subs
  else if typ = 4 then (if r.cmd then r.writers else 0)
  else if r.cmd then 0 else r.writers

/-- What the host side refuses before the request crosses the Causeway, in the order of notes/assumptions/27.md: host supply (R441), role,
credit, type, object and index, rights, lifecycle (R394), absent field side (R13). -/
def State.preStatus (s : State) (m : HostMsg) : Nat :=
  let p := m.req.port.val
  let role := s.portRole p
  let idx := m.req.index.toNat
  let lc := s.lifecycle
  if s.sup.pfailhLow then 7
  else if role = 0 then 3
  else if 8 ≤ (s.port p).running.length then 9
  else if m.typ = 0 ∨ 5 < m.typ then 1
  else match rightOf m.obj with
    | none => 2
    | some r =>
      if r.count ≤ idx ∧ ¬ (m.obj = 0x19F0 ∧ idx = 0xFF) then 2
      else if hasRole (r.roles m.typ) role = false then 3
      else if lc = 4 ∧ ¬ (m.typ = 1 ∧ m.obj = 0x0180) then 7
      else if lc = 3 ∧ m.typ ≠ 1 ∧ m.typ ≠ 5 ∧ m.obj ≠ 0x0190 ∧ m.obj ≠ 0x01E0 then 7
      else if (s.cway.fieldAbsent || !s.sup.fieldUp) && !hostSideObj m.obj then 0xA
      else 0

end Sys2Proof.Machine
end

