-- ==== Sys2Proof/Machine/HostRead.lean ====
section
/-! DEFINITION. What a READ returns and what subscriptions notify (spec/14 R384–R388). -/

namespace Sys2Proof.Machine

/-- The fields of an object whose values are formed when it is read, brought up to date: readiness, port counts, legal time, flags of a
summary (notes/assumptions/24.md). -/
def State.refreshObj (s : State) (obj i t : Nat) : State :=
  if obj = 0x0010 then s.refreshReady
  else if obj = 0x0201 then (s.puti allocSiteLEff 0 s.lEff).puti allocSiteBMax 0 (s.bMax ((s.epoch s.kerb.cur).getD Epoch.zero).rectLim)
  else if obj = 0x0110 then
    let k := s.port i
    ((s.putFlag portStateConsoleOn i (i == 5 && s.consoleOn t)).put portStateReqOut i k.running.length).put portStateSubs i k.subs.length
  else if obj = 0x0C10 then s.put billSummaryFlags i (s.get (regFields i).1.flags (regFields i).2 % 256)
  else if obj = 0x1B01 then
    let u := s.legal t
    let st := (if s.legalValid then 0 else 1) + (if s.clk.rtcMark then 2 else 0) + (if s.sup.vbatLow then 4 else 0)
    ((s.put timeNowUtc 0 u).puti timeNowOffset 0 (s.offsetAt u)).put timeNowStatus 0 st
  else if obj = 0x0C20 then s.putBit billStateFlags 0 2 (s.legalValid && decide (s.legal t < s.get billStateBLast 0))
  else if obj = 0x1C10 then s.put amnCyclesN 0 (s.get meterSiteCompatN 0)
  else s

/-- The bytes of key.cert (spec/14 R396): the identity certificate; the legal one while a legal signing key exists. -/
def State.certPart (s : State) (i : Nat) : Nat :=
  if i < 8 then Config.certChunk Config.deviceSerial 0 0 i % 2 ^ 2048
  else if s.keys.legal.isSome then s.get keyCertPart i else 0

/-- An index of an object as its bytes (spec/14 R384): length and value. An object whose layout the spec does not give reads as a free value
(notes/assumptions/9.md). -/
def State.render (s : State) (obj i t : Nat) : Payload :=
  match findObj obj with
  | some d =>
    if obj = 0x0170 then ⟨256, s.certPart i⟩
    else if obj = 0x0240 then
      ⟨d.size, ((Tab.find s.kerb.epochs i).filter fun r => (s.retained r.num).isSome).elim 0 fun r => r.image % 2 ^ (8 * d.size)⟩
    else if obj = 0x1C00 ∧ s.netMode i then ⟨d.size, 0⟩
    else if obj = 0x0860 then ⟨d.size, d.fields.foldl (fun v f => v + s.shownReg i f * 2 ^ f.pos) 0⟩
    else if obj = 0x0880 then ⟨d.size, d.fields.foldl (fun v f => v + s.shownReg (12 + i) f * 2 ^ f.pos) 0⟩
    else ⟨d.size, (s.refreshObj obj i t).imageOf d i⟩
  | none =>
    if obj = 0x1A40 then (Tab.get s.openChan i ⟨0, ⟨0, 0⟩⟩).payload
    else
      let n := Config.unstatedLayout obj i (2 * s.free) % 257
      ⟨n, Config.unstatedLayout obj i (2 * s.free + 1) % 2 ^ (8 * n)⟩

/-- A READ clears the RC fields of the index it returns (spec/00 R7). -/
def State.clearRc (s : State) (obj i : Nat) : State :=
  (findObj obj).elim s fun d => d.fields.foldl (fun s f => if f.acc = .rc then s.put f i 0 else s) s

/-- READ (spec/14 Table 14-3): the bytes, or with flags [1] the change counter. -/
def State.doRead (s : State) (m : HostMsg) (t : Nat) : State :=
  let i := m.req.index.toNat
  if m.flags.testBit 1 then s.reply m 0 (payloadOf 4 (s.counter m.obj i)) t
  else
    let p := s.render m.obj i t
    let s := if (findObj m.obj).isNone then { s with free := s.free + 1 } else s
    ((s.refreshObj m.obj i t).clearRc m.obj i).reply m 0 p t

/-! ### Subscriptions (spec/14 R385) -/

/-- Whether two subscriptions are of the same object and range. -/
def Sub.same (a b : Sub) : Bool := a.obj == b.obj && a.first == b.first && a.last == b.last

/-- What changes of an index of a subscription are measured against: its bytes, or for a channel of the open partition the stamp of its last
message (notes/assumptions/27.md). -/
def State.baseline (s : State) (obj i t : Nat) : Payload :=
  if obj = 0x1A40 then ⟨8, (Tab.get s.openChan i ⟨0, ⟨0, 0⟩⟩).stamp⟩ else s.render obj i t

/-- Indices of a subscription that exist. -/
def Sub.indices (b : Sub) : List Nat :=
  ((List.range (b.last + 1 - b.first)).map (b.first + ·)).filter fun i => (rightOf b.obj).any fun r => decide (i < r.count)

/-- SUBSCRIBE (spec/14 Table 14-3, R385): range, minimum interval, period; flags [2] cancels. -/
def State.doSubscribe (s : State) (m : HostMsg) (t : Nat) : State :=
  let p := m.req.port.val
  let pl := m.req.payload
  let peer := (s.port p).peer
  let b : Sub := { obj := m.obj, first := m.req.index.toNat, last := argAt pl 0 2, minMs := argAt pl 2 2, period := argAt pl 4 4, peer := peer }
  let k := s.port p
  let others := k.subs.filter fun x => !(x.same b)
  if pl.len ≠ 8 then s.reply m 4 noPayload t
  else if m.flags.testBit 2 then (s.setPort p { k with subs := others }).reply m 0 noPayload t
  else if b.last < b.first ∨ 60000 < b.minMs then s.reply m 6 noPayload t
  else if 64 ≤ others.length then s.reply m 0xD noPayload t
  else
    let s := s.setPort p { k with subs := others ++ [b] }
    let s := b.indices.foldl (fun s i =>
      let q := s.port p
      s.setPort p { q with last := Tab.set q.last (b.obj * 65536 + i) (t, s.baseline b.obj i t) }) s
    s.reply m 0 noPayload t

/-- Whether a NOTIFY of an index already waits on a port or for its acknowledgement. -/
def Port.holds (k : Port) (obj i : Nat) : Bool :=
  (k.queue.any fun n => n.obj == obj && n.idx == i) || k.awaits.any fun a => a.ntf.obj == obj && a.ntf.idx == i

/-- Whether a NOTIFY of an index for a port waits in the journal. -/
def State.holdsNotify (s : State) (p obj i : Nat) : Bool :=
  s.cway.queued.any fun q => match q with | .notify p' o' i' _ _ => p' == p && o' == obj && i' == i | _ => false

/-- An index of a subscription judged: queued once it has changed and the minimum interval has passed, or its period has (R385); a learned
capacity stays pending until acknowledged (spec/11 R307). Receipts and statements are queued by their sources. -/
def State.judgeSub (s : State) (p : Nat) (b : Sub) (t i : Nat) : State :=
  let k := s.port p
  let key := b.obj * 65536 + i
  let last := Tab.get k.last key (0, ⟨0, 0⟩)
  let now := s.baseline b.obj i t
  let put (ack : Bool) : State :=
    (s.setPort p { k with last := Tab.set k.last key (t, now) }).enqueueNtf p
      { obj := b.obj, idx := i, ack := ack, payload := s.render b.obj i t }
  let changed := now != last.2 && decide (last.1 + b.minMs * 1000000 ≤ t)
  let due := b.period != 0 && decide (last.1 + b.period * 1000000 ≤ t)
  if b.obj = 0x0D00 ∨ b.obj = 0x01E1 then s
  else if b.obj = 0x1240 then (if s.get battLearnState i = 1 ∧ k.holds b.obj i = false ∧ s.holdsNotify p b.obj i = false then put true else s)
  else if changed || due then put false
  else s

/-- A receipt to every METER port that subscribes: its four parts, in order (spec/08 R232). -/
def State.sendReceipt (s : State) (no : Nat) : State :=
  let ports := (List.range 6).filter fun p => s.portRole p == 3 && (s.port p).subs.any fun b => b.obj == 0x0D00
  ports.foldl (fun s p => (List.range 4).foldl (fun s j =>
    let i := 4 * (no % 16384) + j
    s.enqueueNtf p { obj := 0x0D00, idx := i, ack := true, payload := ⟨256, s.get billReceiptPart i⟩ }) s) s

/-- Receipts whose turn it is are sent; while the host side is absent they take their place in the journal's queue (spec/01 R13). -/
def State.flushReceipts (s : State) : State :=
  let q := s.bill.sendQ
  let s := { s with bill := { s.bill with sendQ := [] } }
  q.foldl (fun s no => if s.cway.hostAbsent then s.keepQueued (.receipt no) else s.sendReceipt no) s

/-- NOTIFY on a port: what its subscriptions have due, then one NOTIFY against a credit. What the field side has due while the host side is
absent goes to the journal (spec/01 R13). -/
def State.notifyPort (s : State) (p t : Nat) : State :=
  let s := s.flushReceipts
  let s := (s.port p).subs.foldl (fun s (b : Sub) => b.indices.foldl (fun s i => s.judgeSub p b t i) s) s
  s.sendNtf p t

/-- An acknowledgement of a NOTIFY (spec/14 R387) stamped at or before its deadline of 10 s (spec/03 R99, Table 3-6): the wait ends. A receipt of which no part waits has been delivered: source 0x41; a
learned capacity becomes acknowledged (spec/11 Table 11-6). -/
def State.ackNtf (s : State) (p seq : Nat) (obj : Option Nat) (t : Nat) : State :=
  let k := s.port p
  match k.awaits.find? fun a => a.seq == seq && obj.all (· == a.ntf.obj) && decide (t ≤ a.sentAt + 10000000000) with
  | none => s
  | some a =>
    let s := s.setPort p { k with awaits := k.awaits.filter fun x => x.seq != seq }
    if a.ntf.obj = 0x1240 then s.put battLearnState a.ntf.idx 2
    else if a.ntf.obj = 0x0D00 then
      let same := (List.range 4).map fun j => a.ntf.idx / 4 * 4 + j
      let open_ := (List.range 6).any fun q => same.any fun i => (s.port q).holds 0x0D00 i
      if open_ then s else s.raise 0x41 t
    else s

/-- Credits granted by a host: the total outstanding never exceeds 64 (spec/14 R386). -/
def State.grant (s : State) (p n : Nat) : State := s.put portStateNtfCredits p (min 64 (s.get portStateNtfCredits p + n))

end Sys2Proof.Machine
end

