-- ==== Sys2Proof/Machine/WriteRules.lean ====
section
/-! DEFINITION. What a WRITE is checked against, object by object (spec/14 R383, R388 and the register maps of every chapter;
notes/assumptions/30.md). -/

namespace Sys2Proof.Machine

/-! ### Shape (spec/00 R6, R7, spec/14 R383) -/

/-- The bits of an index that some field covers; the others are reserved. -/
def ObjDef.covered (d : ObjDef) : Nat := d.fields.foldl (fun m f => m ||| (2 ^ f.width - 1) * 2 ^ f.pos) 0

/-- Whether written bytes set a reserved bit. -/
def ObjDef.setsReserved (d : ObjDef) (data : Nat) : Bool := d.fields.foldl (fun m f => m - (m &&& (2 ^ f.width - 1) * 2 ^ f.pos)) data != 0

/-- A field's bits in written bytes. -/
def Fld.of (f : Fld) (data : Nat) : Nat := data / 2 ^ f.pos % 2 ^ f.width

/-- An index with written bytes in it: RW fields take them, W1C bits written 1 clear, RO and RC fields are ignored (R383). -/
def State.writeFields (s : State) (d : ObjDef) (i data : Nat) : State :=
  d.fields.foldl (fun s f => match f.acc with
    | .rw => s.put f i (f.of data)
    | .w1c => let v := s.get f i; s.put f i (v - (v &&& f.of data))
    | _ => s) s

/-- Whether an index's RW fields of a reset class differ between two states. -/
def rwDiffers (s s' : State) (d : ObjDef) (i : Nat) (cls : Nat → Bool) : Bool :=
  d.fields.any fun f => f.acc == .rw && cls f.cls && s.get f i != s'.get f i

/-! ### Ranges of the register maps -/

/-- A range of a field: a lower bound below zero marks a signed field. -/
structure Range where
  fld : Fld
  lo : Int
  hi : Int

/-- The ranges the register maps state, chapters 4 to 8. -/
def rangesA : List Range :=
  [⟨allocConfigEpochLenMs, 2, 50⟩, ⟨allocConfigStaleEpochs, 1, 65535⟩, ⟨allocConfigSiteRamp, 1, 48000⟩, ⟨allocConfigRectLoss, 0, 2000⟩,
   ⟨allocConfigVbusMax, 0, 1500000⟩, ⟨allocSiteImportLimit, 0, 48000000⟩, ⟨allocOutletConvLoss, 0, 2000⟩,
   ⟨ctlOutletSsRate, 1, 4294967295⟩, ⟨ctlOutletPcTimeout, 100, 10000⟩, ⟨ctlOutletNMin, 1, 24⟩, ⟨thermTsGroup, 0, 3⟩,
   ⟨thermTsAction, 0, 1⟩, ⟨thermTsKind, 0, 2⟩, ⟨meterSiteCompatN, 1, 65535⟩, ⟨meterSiteRevInS, 1, 600⟩,
   ⟨meterCalDelay, -4096, 4096⟩, ⟨meterOutletCfgRevMs, 1, 1000⟩, ⟨meterPulseWidth, 1, 100⟩, ⟨meterPulseQuantity, 0, 15⟩,
   ⟨meterPulseConstant, 1000, 4294967295⟩, ⟨timeConfigRtcTrim, -20000, 20000⟩, ⟨timeConfigAdjustLim, 1, 120⟩,
   ⟨calSeasonMonth, 0, 12⟩, ⟨calSeasonDay, 0, 31⟩, ⟨calSpecialMonth, 0, 12⟩, ⟨calSpecialDay, 0, 31⟩]

/-- The ranges the register maps and spec/09 Table 9-6 state, chapters 9 to 16. -/
def rangesB : List Range :=
  [⟨vlOutletTSlac, 20, 50⟩, ⟨vlOutletTSetup, 5, 20⟩, ⟨vlOutletTSeq, 2, 60⟩, ⟨vlOutletTAuth, 10, 600⟩, ⟨vlOutletTCc, 10, 60⟩,
   ⟨vlOutletTWeld, 500, 10000⟩, ⟨vlOutletPrefer, 0, 2⟩, ⟨vlOutletProtocols, 0, 7⟩, ⟨vlOutletKind, 0, 2⟩, ⟨vlScheduleCount, 0, 24⟩, ⟨vlTrustAlg, 0, 3⟩,
   ⟨battConfigNStr, 0, 8⟩, ⟨battConfigUnresFrac, 10, 100⟩, ⟨battConfigQDef, 50, 100⟩, ⟨battConfigTRest, 15, 120⟩,
   ⟨battConfigConvEff, 9000, 10000⟩, ⟨battConfigBmsLag, 0, 50⟩, ⟨battStringCanCh, 0, 3⟩, ⟨battStringNMod, 0, 32⟩, ⟨battStringChan, 0, 3⟩,
   ⟨avenueConfigNExp, 0, 8⟩, ⟨avenueConfigGenMax, 1, 3⟩, ⟨laneHostGenMax, 1, 3⟩, ⟨laneHostMode, 0, 2⟩, ⟨nodeSummaryReconcileS, 1, 600⟩,
   ⟨canConfigRetries, 0, 31⟩, ⟨canConfigFdMode, 0, 2⟩, ⟨canConfigNSp, 50, 90⟩, ⟨canConfigDSp, 50, 90⟩, ⟨canFilterOwner, 0, 2⟩,
   ⟨canFilterFirst, 32, 63⟩, ⟨canFilterLast, 32, 63⟩, ⟨meshConfigBand, 0, 1⟩, ⟨meshConfigCoupling, 0, 3⟩, ⟨meshConfigGmkDays, 1, 255⟩,
   ⟨meshConfigTmTtl, 10, 600⟩, ⟨meshConfigHbMesh, 10, 600⟩, ⟨modeConfigMaintS, 60, 14400⟩, ⟨portBindRole, 0, 5⟩,
   ⟨injectMedium, 1, 6⟩, ⟨injectDir, 0, 2⟩, ⟨injectBytes, 1, 4⟩, ⟨injectEveryN, 1, 65535⟩, ⟨injectDuration, 1, 600⟩]

/-- Whether an index's fields lie in the ranges stated for them. -/
def rangesOk (s : State) (obj i : Nat) : Bool :=
  (rangesA ++ rangesB).all fun r =>
    r.fld.obj != obj ||
      (let v : Int := if r.lo < 0 then s.geti r.fld i else s.num r.fld i
       decide (r.lo ≤ v) && decide (v ≤ r.hi))

/-! ### Rules object by object: 0, or the status of the NAK -/

/-- A condition that must hold, else a status. -/
def need (b : Bool) (status : Nat) : Nat := if b then 0 else status

/-- The first status of a list that is not 0. -/
def firstOf (l : List Nat) : Nat := (l.find? fun n => n != 0).getD 0

/-- The outlet a metering channel belongs to (spec/07 Table 7-1). -/
def outletOfChan (c : Nat) : Option Nat := if c < 36 then some (c / 3) else none

/-- Whether calibration of an outlet may be written: its session is Idle (spec/07 R209). -/
def State.outletIdle (s : State) (o : Nat) : Bool := (s.sess o).st == 0

/-- Whether a write of meter.cal, meter.outlet_cfg or meter.site is a calibration write (spec/07 R209). -/
def calibrates (s s' : State) (obj i : Nat) : Bool :=
  obj == 0x0810 || (obj == 0x0840 && s.get meterOutletCfgRCable i != s'.get meterOutletCfgRCable i)
    || (obj == 0x0800 && (s.get meterSiteVNom 0 != s'.get meterSiteVNom 0 || s.get meterSiteINom 0 != s'.get meterSiteINom 0
      || s.get meterSiteFNom 0 != s'.get meterSiteFNom 0))

/-- The metering objects (spec/07 R191, R209). -/
def meterRules (s s' : State) (obj i : Nat) : Nat :=
  let outlet := if obj = 0x0810 then outletOfChan i else if obj = 0x0840 then some i else none
  let kept := s.get meterOutletCfgBasis i == s'.get meterOutletCfgBasis i && s.get meterOutletCfgNet i == s'.get meterOutletCfgNet i
  firstOf
    [need (obj != 0x0840 || s'.flag meterOutletCfgBasis i || s'.get meterOutletCfgRCable i == 0) 6,
     need (obj != 0x0800 || s'.get meterSiteFNom 0 == 50 || s'.get meterSiteFNom 0 == 60) 6,
     need (!(calibrates s s' obj i) || s.mayCalibrate) 7,
     need (!(calibrates s s' obj i) || outlet.all s.outletIdle) 7,
     need (obj != 0x0840 || kept || s.lifecycle == 1) 7,
     need (obj != 0x0800 || s.get meterSiteNet 0 == s'.get meterSiteNet 0 || s.lifecycle == 1) 7]

/-- bill.config (spec/08 R224). -/
def billRules (s' : State) : Nat :=
  let len := s'.get billConfigLength 0
  let sub := s'.get billConfigSubint 0
  need ([1, 5, 10, 15, 30, 60].contains len && decide (s'.get billConfigMode 0 ≤ 1) && decide (1 ≤ sub) && decide (sub ≤ 15)
    && (s'.get billConfigMode 0 == 1 || sub == 1) && len * 60 % max 1 sub == 0
    && decide (s'.get billConfigGridShift 0 < len * 60 / max 1 sub)) 6

/-- Calendar entries: the passive copy alone, an entry in use with a day (spec/08 R222, Table 8-6). -/
def calRules (s' : State) (obj i : Nat) : Nat :=
  let half := if obj = 0x0C01 then 16 else if obj = 0x0C02 then 8 else if obj = 0x0C03 then 32 else 64
  let dayOk := (obj != 0x0C01 || s'.get calSeasonMonth i == 0 || s'.get calSeasonDay i != 0)
    && (obj != 0x0C04 || s'.get calSpecialMonth i == 0 || s'.get calSpecialDay i != 0)
  firstOf [need (decide (i < half)) 7, need dayOk 6]

/-- time.offset (spec/08 R217): entries in use strictly rising, offsets within 14 h. -/
def offsetRules (s' : State) (i : Nat) : Nat :=
  let u := s'.get timeOffsetUtcFrom i
  let o := s'.geti timeOffsetOffset i
  let below := (List.range i).all fun j => (j != 0 && s'.get timeOffsetUtcFrom j == 0) || decide (s'.get timeOffsetUtcFrom j < u)
  let above := (List.range 32).all fun j => decide (j ≤ i) || s'.get timeOffsetUtcFrom j == 0 || decide (u < s'.get timeOffsetUtcFrom j)
  need (below && above && decide (-50400 ≤ o) && decide (o ≤ 50400)) 6

/-- vlink.outlet and vlink.schedule (spec/09 Tables 9-1, 9-10). -/
def linkRules (s s' : State) (obj i : Nat) : Nat :=
  if obj = 0x1000 then
    firstOf
      [need ((s.get vlOutletKind i == s'.get vlOutletKind i && s.get vlOutletProtocols i == s'.get vlOutletProtocols i) || s.lifecycle == 1) 7,
       need (s'.get vlOutletKind i != 2 || s'.get vlOutletProtocols i % 4 == 0) 6]
  else
    let n := s'.get vlScheduleCount i
    let st (k : Nat) : Nat := s'.get (vlScheduleStart k) i
    need (n == 0 || (st 0 == 0 && (List.range (n - 1)).all fun k => decide (st k < st (k + 1)))) 6

/-- batt.ocv (spec/11 R296). -/
def ocvRules (s' : State) : Nat :=
  let sp (k : Nat) : Nat := s'.get (battOcvSp k) 0
  let tp (j : Nat) : Int := s'.geti (battOcvTp j) 0
  let ocv (j k : Nat) : Nat := s'.get (battOcvOcv (16 * j + k)) 0
  need (sp 0 == 0 && sp 15 == 10000 && ((List.range 15).all fun k => decide (sp k < sp (k + 1)))
    && ((List.range 3).all fun j => decide (tp j < tp (j + 1)))
    && (List.range 4).all fun j => (List.range 15).all fun k => decide (ocv j k < ocv j (k + 1))) 6

/-- batt.est_state (spec/11 R309): 0, or the code of the first failure. -/
def estRefusal (s : State) (pl : Payload) : Nat :=
  let seq := argAt pl 4 4
  let n := s.get battConfigNStr 0
  let b (i off w : Nat) : Nat := argAt pl (0x10 + 0x18 * i + off) w
  let near (v nom : Nat) : Bool := decide (nom ≤ 2 * v) && decide (v ≤ 3 * nom)
  let whole (i : Nat) : Bool :=
    let q := s.get battStringQNom i
    decide (50 * q ≤ 100 * b i 8 4) && decide (100 * b i 8 4 ≤ 120 * q) && near (b i 0xC 4) (s.get battStringR0Nom i)
      && near (b i 0x10 4) (s.get battStringR1Nom i) && near (b i 0x14 2) (s.get battStringTauNom i)
  if pl.len ≠ 216 ∨ argAt pl 0 2 ≠ 1 then 1
  else if argAt pl 0xD0 8 ≠ Config.sha512 0xD0 (argAt pl 0 0xD0) % 2 ^ 64 then 2
  else if s.batt.restored ∧ seq ≤ s.get battSummaryEstSeq 0 then 3
  else if argAt pl 2 1 ≠ n then 4
  else if (List.range n).all whole then 0
  else 5

/-- avenue.config (spec/05 R479): a raised gen_max that would exceed the slot load judged at it. -/
def avenueRules (s s' : State) (i : Nat) : Nat :=
  let l := (s'.put avenueStateGen i (s'.get avenueConfigGenMax i)).slotLoad
  need (!(decide (s.get avenueConfigGenMax i < s'.get avenueConfigGenMax i) && decide (2000 * l.2 < l.1))) 6

/-- Whether a kind suits a channel and address (spec/13 R348, Table 13-1). -/
def kindSuits (kind chan addr eui : Nat) : Bool :=
  if kind = 0 then true
  else if kind ≤ 4 then decide (chan < 6) && decide (addr < 8)
  else if kind ≤ 7 then decide (chan < 4) && decide (addr < 64)
  else kind == 8 && chan == 0 && eui != 0

/-- Whether two entries share a channel and address, or an EUI-64 (spec/13 R348). -/
def State.sameNode (s : State) (a b : Nat) : Bool :=
  let m := kindMedium (s.get nodeEntryKind a)
  let e := s.get nodeEntryEui64 a
  m != 0 && kindMedium (s.get nodeEntryKind b) != 0
    && ((m != 3 && m == kindMedium (s.get nodeEntryKind b) && s.get nodeEntryChan a == s.get nodeEntryChan b
        && s.get nodeEntryAddr a == s.get nodeEntryAddr b)
      || (e != 0 && e == s.get nodeEntryEui64 b))

/-- node.entry (spec/13 R348, R373). -/
def nodeRules (s s' : State) (i role : Nat) : Nat :=
  let keep (f : Fld) : Bool := s.get f i == s'.get f i
  let others := [nodeEntryKind, nodeEntryChan, nodeEntryAddr, nodeEntryAutoReconcile, nodeEntryEui64, nodeEntryPskSlot].all keep
  let ids := s.nodeIds.filter fun n => n != i
  let of (p : Nat → Bool) : Nat := (ids.filter fun n => p (s.get nodeEntryKind n)).length
  let k := s'.get nodeEntryKind i
  let room := if kindMedium k = 1 then decide (of (fun x => kindMedium x == 1) < 48)
    else if kindMedium k = 2 then
      decide ((ids.filter fun n => kindMedium (s.get nodeEntryKind n) == 2 && s.get nodeEntryChan n == s'.get nodeEntryChan i).length < 64)
    else if kindMedium k = 3 then decide (of (fun x => kindMedium x == 3) < 960)
    else true
  firstOf
    [need (role != 2 || others) 3,
     need (kindSuits k (s'.get nodeEntryChan i) (s'.get nodeEntryAddr i) (s'.get nodeEntryEui64 i)) 6,
     need room 6,
     need (ids.all fun n => !(s'.sameNode i n)) 6]

/-- node.blob (spec/13 R373): a first part with a length of at most 2,040, a later part of a blob that has it. -/
def blobRules (s : State) (i data : Nat) : Nat :=
  let n := i / 8
  let len := data % 65536
  let cur := if (s.nodeRec n).staged ≠ 0 then (s.nodeRec n).staged else s.get nodeEntryBlobLen n
  if i % 8 = 0 then need (decide (len ≤ 2040)) 6 else need (decide (256 * (i % 8) < cur)) 7

/-- can.config (spec/13 R355): the nominal rate from 10 kbit/s to 1 Mbit/s, the data rate from it to 5 Mbit/s, each a divisor of 160 MHz. -/
def canRules (s' : State) (i : Nat) : Nat :=
  let n := s'.get canConfigNRate i
  let d := s'.get canConfigDRate i
  need (inRange n 10000 1000000 && inRange d n 5000000 && 160000000 % n == 0 && 160000000 % d == 0) 6

/-- can.filter: auxiliary filters (spec/13 R358, Table 13-14). -/
def filterRules (s' : State) (i : Nat) : Nat := need (decide (s'.get canFilterFirst i ≤ s'.get canFilterLast i)) 6

/-- The actions a medium permits (spec/18 Table 18-5). -/
def actionsOf (medium : Nat) : List Nat :=
  if medium = 1 ∨ medium = 2 then [1, 2, 4] else if medium = 3 then [1, 2] else if medium = 4 then [1, 2, 3]
  else if medium = 5 then [1, 2, 5] else [1, 2, 3]

/-- The targets a medium has (spec/18 Table 18-5). -/
def targetOk (medium target : Nat) : Bool :=
  if medium = 1 then decide (4 ≤ target) && decide (target ≤ 15)
  else if medium = 2 ∨ medium = 5 then decide (target ≤ 3)
  else if medium = 3 then decide (target ≤ 1)
  else if medium = 4 then decide (target ≤ 5)
  else decide (target ≤ 0x3FF)

/-- diag.inject (spec/18 R473–R475). -/
def injectRules (s s' : State) (i : Nat) : Nat :=
  let m := s'.get injectMedium i
  firstOf
    [need ((actionsOf m).contains (s'.get injectAction i) && targetOk m (s'.get injectTarget i)) 6,
     need (s.get injectState i != 1) 7,
     need (s'.injectHolds (s.get modeStateMode 0) s.convIdle i) 7]

/-- Pralines that are pinned, other than `i` (spec/14 R391). -/
def State.pinned (s : State) (i : Nat) : Nat :=
  ((List.range 1024).filter fun n => n != i && s.get pralineMagic n != 0 && s.flag pralinePin n).length

/-- key.praline restored by a WRITE (spec/14 R390–R392). -/
def pralineRules (s' : State) (i : Nat) : Nat :=
  let empty := s'.get pralineMagic i == 0
  firstOf
    [need (empty || s'.get pralineMagic i == 0x314C5250) 6,
     need (empty || s'.get pralineFmt i == 1) 6,
     need (empty || [24, 40, 72, 80].contains (s'.get pralineWlen i)) 6,
     need (empty || pairOk (s'.get pralineAlg i) (s'.get pralineAttr i)) 0xC,
     need (empty || !(s'.flag pralinePin i) || decide (s'.pinned i < 32)) 6]

/-- partition.irq (spec/03 R89): sources of the open partition; targets among its cores P0–P2; no counting of a level source. -/
def irqRules (s' : State) (i : Nat) : Nat :=
  firstOf
    [need (s'.get irqOwner i == 0) 7,
     need (s'.get irqTargets i < 8) 6,
     need (!(s'.flag irqCountEn i) || !(s'.flag irqLevel i)) 6]

/-- Whether a write that leads from `s` to `s'` breaks a rule of its object: 0, or the NAK's status. -/
def writeRules (s s' : State) (obj i role data : Nat) : Nat :=
  let prov := need (s.lifecycle == 1) 7
  let maint := s.get modeStateMode 0 == 5
  let st : Nat := match obj with
    | 0x0100 => firstOf [prov, need ((List.range 5).any fun p => s'.get portBindRole p == 5) 6]
    | 0x0140 => pralineRules s' i
    | 0x0181 => need (s.lifecycle == 0) 7
    | 0x0200 => need (s.get allocConfigEpochLenMs 0 == s'.get allocConfigEpochLenMs 0 || s.get modeStateMode 0 == 1 || maint) 7
    | 0x0210 => prov
    | 0x0410 => slotWriteStatus s s' i
    | 0x0480 => firstOf [need (decide (s'.get ctlOutletShedLo i < s'.get ctlOutletShedHi i)) 6, need (s.convIdle i) 7]
    | 0x0490 => need (s.convIdle 12) 7
    | 0x0600 => coolWriteStatus s s' i
    | 0x0800 => meterRules s s' obj i
    | 0x0810 => meterRules s s' obj i
    | 0x0840 => meterRules s s' obj i
    | 0x0C00 => firstOf [prov, billRules s']
    | 0x0C01 => calRules s' obj i
    | 0x0C02 => calRules s' obj i
    | 0x0C03 => calRules s' obj i
    | 0x0C04 => calRules s' obj i
    | 0x1000 => linkRules s s' obj i
    | 0x1040 => linkRules s s' obj i
    | 0x1110 => need (i == 1 && maint) 7
    | 0x1120 => need (decide (12 ≤ i) && maint) 7
    | 0x1200 => need (s.convIdle 12) 7
    | 0x1201 => firstOf [ocvRules s', need (s.convIdle 12) 7]
    | 0x1210 => need (s.convIdle 12) 7
    | 0x1310 => avenueRules s s' i
    | 0x1380 => prov
    | 0x1400 => nodeRules s s' i role
    | 0x1401 => blobRules s i data
    | 0x1440 => canRules s' i
    | 0x1448 => filterRules s' i
    | 0x1480 => need ((s.get meshConfigBand 0 == s'.get meshConfigBand 0 && s.get meshConfigCoupling 0 == s'.get meshConfigCoupling 0)
        || s.lifecycle == 1 || maint) 7
    | 0x1940 => injectRules s s' i
    | 0x1A20 => irqRules s' i
    | 0x1B00 => need (s.get timeConfigRtcTrim 0 == s'.get timeConfigRtcTrim 0 || s.mayCalibrate) 7
    | 0x1B10 => offsetRules s' i
    | _ => 0
  if rangesOk s' obj i then st else 6

end Sys2Proof.Machine
end

