-- ==== Sys2Proof/Machine/WriteApply.lean ====
section
/-! DEFINITION. What an accepted WRITE does beside its fields, and the WRITE and WRITEIF themselves (spec/14 R382–R384, R399, R404). -/

namespace Sys2Proof.Machine

/-! ### Custody and groups (spec/14 Table 14-14, spec/15 R404) -/

/-- The group of the Croquembouche an object belongs to. -/
def groupOf (obj : Nat) : Option Nat :=
  if obj = 0x0011 then some 0
  else if obj = 0x0100 ∨ obj = 0x0140 then some 1
  else if [0x0200, 0x0201, 0x0210, 0x0220].contains obj then some 2
  else if [0x0410, 0x0480, 0x0490].contains obj then some 3
  else if [0x0600, 0x0680].contains obj then some 4
  else if [0x0800, 0x0810, 0x0840].contains obj then some 5
  else if [0x0C00, 0x1B00, 0x1B10].contains obj then some 6
  else if [0x1000, 0x1040, 0x1060, 0x1080].contains obj then some 7
  else if [0x1200, 0x1201, 0x1210].contains obj then some 9
  else if [0x1310, 0x1380].contains obj then some 10
  else if obj = 0x1400 ∨ obj = 0x1401 then some 11
  else if [0x1402, 0x1440, 0x1448, 0x1480].contains obj then some 12
  else if obj = 0x1A20 then some 14
  else if obj = 0x1800 then some 15
  else none

/-- The type and payload of a CONFIG record (notes/assumptions/9.md): the object ID; index, change counter, bytes. -/
def State.configRecord (s : State) (obj i : Nat) (bytes : Payload) (t : Nat) : State :=
  s.append 1 obj 0 (6 + bytes.len) (i + s.counter obj i * 2 ^ 16 + bytes.data * 2 ^ 48) t

/-- A change to a CONFIG object: counter, journal record, configuration epoch (spec/14 R382, R399, spec/15 R404). -/
def State.configChange (s : State) (obj i : Nat) (t : Nat) : State :=
  let s := s.touch obj i
  let s := (findObj obj).elim s fun d => s.configRecord obj i ⟨d.size, s.imageOf d i⟩ t
  (groupOf obj).elim s fun g => s.crqChange g t

/-! ### Effects object by object -/

/-- A node entry written (spec/13 Table 13-2, R348, R352): a change of kind, channel, address or EUI-64 starts it anew in UNKNOWN; a change
of the expected digest follows R352. -/
def State.nodeWritten (s s' : State) (i t : Nat) : State :=
  let keep (f : Fld) : Bool := s.get f i == s'.get f i
  let k := s'.get nodeEntryKind i
  let s' := s'.put nodeEntryMedium i (kindMedium k)
  if [nodeEntryKind, nodeEntryChan, nodeEntryAddr, nodeEntryEui64].all keep then
    (if keep nodeEntryExpected then s' else s'.expectedChanged i t)
  else
    let ids := [nodeEntryKind, nodeEntryChan, nodeEntryAddr, nodeEntryEui64]
    let s1 := ids.foldl (fun (a : State) f => a.put f i (s.get f i)) s'
    let s1 := if s.get nodeEntryState i = 2 then s1.loseNode i t else s1
    let s2 := ids.foldl (fun (a : State) f => a.put f i (s'.get f i)) s1
    let s2 := s2.setNodeRec i { NodeRec.reset with staged := (s.nodeRec i).staged, parts := (s.nodeRec i).parts }
    let s2 := (s2.put nodeEntryShortAddr i 0xFFFF).put nodeEntryReported i 0
    if k = 0 then ((s2.put nodeEntryState i 0).put nodeEntryCause i 0).countNodes
    else (s2.put nodeEntryState i 0).moveNode i 0 0 t

/-- A part of a blob written (spec/13 R373): part 0 names the length; the last part brings the blob and its digest into effect (R349). -/
def State.blobWritten (s : State) (i data t : Nat) : State :=
  let n := i / 8
  let p := i % 8
  let r := s.nodeRec n
  let r := if p = 0 then { r with staged := data % 65536, parts := [(0, data)] } else { r with parts := Tab.set r.parts p data }
  let len := if p = 0 then data % 65536 else if r.staged ≠ 0 then r.staged else s.get nodeEntryBlobLen n
  let s := s.setNodeRec n r
  if (len - 1) / 256 ≠ p then s
  else
    let fresh := r.staged != 0 || len == 0
    let s := (List.range 8).foldl (fun s q =>
      match Tab.find r.parts q with
      | some v => s.put nodeBlobPart (8 * n + q) v
      | none => if fresh then s.put nodeBlobPart (8 * n + q) 0 else s) s
    let s := (s.put nodeEntryBlobLen n len).setNodeRec n { r with staged := 0, parts := [] }
    if len = 0 then s
    else
      let old := s.get nodeEntryExpected n
      let s := s.put nodeEntryExpected n (Config.sha512 len (s.blobOf n).2)
      if s.get nodeEntryKind n ≠ 0 ∧ s.get nodeEntryExpected n ≠ old then s.expectedChanged n t else s

/-- batt.est_state applied (spec/11 R309). -/
def State.estWritten (s : State) (pl : Payload) : State :=
  let n := s.get battConfigNStr 0
  let s := (s.put battSummaryEstSeq 0 (argAt pl 4 4)).put battSummaryLastRefusal 0 0
  let s := { s with batt := { s.batt with restored := true } }
  ((List.range (min 8 n)).foldl (fun s i =>
    let b (off w : Nat) : Nat := argAt pl (0x10 + 0x18 * i + off) w
    s.applyEntry i { serial := b 0 8, q := b 8 4, r0 := b 0xC 4, r1 := b 0x10 4, tau := b 0x14 2, nLearn := b 0x16 2 }) s).refreshEst

/-- An injection begun (spec/18 R474, R476): event 0x0F with its requester. -/
def State.injectStarted (s : State) (j port role t : Nat) : State :=
  let s := ((s.put injectState j 1).put injectStart j t).put injectEnd j 0
  let s := (s.put injectApplied j 0).put injectConsequences j 0
  let s := { s with diag := { s.diag with seen := Tab.del s.diag.seen j, held := Tab.del s.diag.held j } }
  s.eventBy 0x0F j (s.get injectMedium j + s.get injectAction j * 256) 0 port role t

/-- Any loaded copy of a praline evicted, its record written anew (spec/14 R392). -/
def State.evict (s : State) (n : Nat) : State :=
  { s with keys := { s.keys with slots := s.keys.slots.filter fun e => e.2.praline != n, unusable := s.keys.unusable.filter (· != 0x1000 + n) } }

/-- The staged image parts beyond part 0 discarded (spec/16 R444). -/
def State.dropStage (s : State) : State := { s with objs := s.objs.filter fun e => e.1 / 4 / 65536 / 65536 != 0x1A50 }

/-- A calibration write recorded (spec/07 R209, R210): counted as type 6 with the object's ID, source 0x39; meter.cal with head identity and legal
time, in force from the next index that is a multiple of 64, until then as before the write. -/
def State.calibrated (s s' : State) (obj i t : Nat) : State :=
  let s' := (s'.tamper 6 obj t).raise 0x39 t
  if obj ≠ 0x0810 then s'
  else
    let s' := (s'.put meterCalHeadId i (s'.headIdOf i)).put meterCalCalTime i (s'.legal t)
    let s' := s'.setChan43 i { s'.chan43 i with cal := some (s.calOf i) }
    { s' with met := { s'.met with applyCal := Tab.set s'.met.applyCal i ((t / 1000000 + 1) * 64) } }

/-- What an accepted write of `obj[i]` that led from `s` to `s'` brings about beside its fields. -/
def State.written (s s' : State) (obj i port role : Nat) (pl : Payload) (t : Nat) : State :=
  match obj with
  | 0x0011 => s'.refreshReady.refreshLands t
  | 0x0100 => s'.setPort i { s'.port i with subs := [], last := [] }
  | 0x0140 => s'.evict i
  | 0x0200 => if s.get allocConfigEpochLenMs 0 = s'.get allocConfigEpochLenMs 0 then s'.reclamp none [] t else s'.retractAll t
  | 0x0201 =>
    if s'.lEff < s.lEff ∧ s'.availShort then s'.engage t else s'.reclamp none [] t
  | 0x0210 => s'.reclamp none [] t
  | 0x0220 => s'.reclamp none [] t
  | 0x0410 => s'.slotWritten i t
  | 0x0600 => State.coolWritten s s' i
  | 0x0800 => if calibrates s s' obj i then State.calibrated s s' obj i t else s'
  | 0x0810 => State.calibrated s s' obj i t
  | 0x0840 => if calibrates s s' obj i then State.calibrated s s' obj i t else s'
  | 0x08F0 =>
    let keep (f : Fld) : Bool := s.get f 0 == s'.get f 0
    if [meterPulseEnable, meterPulseQuantity, meterPulseDir, meterPulseConstant].all keep then s' else s'.startPulses
  | 0x1200 => s'.refreshEst.endUnfit t
  | 0x1210 => (s'.unrestore i).refreshEst.endUnfit t
  | 0x1230 => { s'.estWritten pl with chg := s'.chg }
  | 0x1310 => s'.reform i t
  | 0x1400 => State.nodeWritten s s' i t
  | 0x1401 => s'.blobWritten i pl.data t
  | 0x1440 => s'.canConfigured i
  | 0x1480 =>
    if s.get meshConfigBand 0 = s'.get meshConfigBand 0 ∧ s.get meshConfigCoupling 0 = s'.get meshConfigCoupling 0 then s'
    else s'.meshRestart t
  | 0x1940 => s'.injectStarted i port role t
  | 0x1B00 =>
    if s.get timeConfigRtcTrim 0 = s'.get timeConfigRtcTrim 0 then s'
    else (s'.tamper 6 0x1B00 t).timeLog 4 port role (ofSigned 64 (s.geti timeConfigRtcTrim 0)) (ofSigned 64 (s'.geti timeConfigRtcTrim 0)) t t
  | 0x1A20 => s'.settleLatches
  | 0x1B10 => s'.timeLog 3 port role (ofSigned 64 (s.geti timeOffsetOffset i)) (ofSigned 64 (s'.geti timeOffsetOffset i)) t t
  | _ => s'

/-! ### WRITE and WRITEIF (spec/14 R382–R384) -/

/-- A write to a channel of the open partition (spec/02 R67): the message reaches the core whose image declares it. -/
def State.writeChan (s : State) (n : Nat) (pl : Payload) (t : Nat) : Nat × State :=
  let peer (d : ChanDecl) : Bool := d.peer.toNat == 0x80 + n && d.recv
  let found := (List.range 6).findSome? fun c =>
    let k := s.core c
    if k.alive && k.kind == 0 then (k.image.bind fun m => m.chans.find? peer).map fun d => (c, d) else none
  match found with
  | none => (7, s)
  | some (c, d) =>
    if min 256 d.maxLen.toNat < pl.len then (4, s)
    else (0, (s.deliverMsg c d.ch.toNat { stamp := t, payload := pl }).touch 0x1A40 n)

/-- The fields a write changes: batt.est_state and node.blob are taken whole by their own rules; an expected digest that a blob fixes stays
(spec/13 Table 13-13); part 0 of an image discards the rest (spec/16 R444). -/
def State.takeWrite (s : State) (d : ObjDef) (i data : Nat) : State :=
  if d.id = 0x1230 ∨ d.id = 0x1401 then s
  else
    let s0 := if d.id = 0x1A50 ∧ i = 0 then s.dropStage else s
    let s' := s0.writeFields d i data
    if d.id = 0x1400 ∧ s.get nodeEntryBlobLen i ≠ 0 then s'.put nodeEntryExpected i (s.get nodeEntryExpected i) else s'

/-- Whether an accepted write of a CONFIG index from `s` to `s'` changes a leaf (spec/14 R397, R399): an unused node entry has none, and a blob
shows in its entry's expected digest alone. -/
def State.leafMoved (s s' : State) (obj i : Nat) : Bool :=
  if obj = 0x1401 then s'.get nodeEntryKind (i / 8) != 0 && s.get nodeEntryExpected (i / 8) != s'.get nodeEntryExpected (i / 8)
  else if obj = 0x1400 then s.get nodeEntryKind i != 0 || s'.get nodeEntryKind i != 0
  else true

/-- A whole index written (R383): the status, and the state after an accepted write. -/
def State.writeIndex (s : State) (obj i port role : Nat) (pl : Payload) (t : Nat) : Nat × State :=
  match findObj obj with
  | none => if obj = 0x1A40 then s.writeChan i pl t else (3, s)
  | some d =>
    let refuseEst := if obj = 0x1230 then estRefusal s pl else 0
    if refuseEst ≠ 0 then
      (if pl.len ≠ d.size then 4 else 6, (s.put battSummaryLastRefusal 0 refuseEst).inc battSummaryRefused 0 1)
    else if pl.len ≠ d.size then (4, s)
    else if d.setsReserved (pl.data % 2 ^ (8 * pl.len)) then (5, s)
    else
      let s' := s.takeWrite d i pl.data
      let st := writeRules s s' obj i role pl.data
      let config := d.fields.any fun f => f.acc == .rw && f.cls == 0
      let mixed := d.fields.any fun f => f.acc == .rw && f.cls == 1
      let changed := rwDiffers s s' d i (fun c => c == 0) || obj == 0x1401
      let record := config && (!mixed || changed)
      if st ≠ 0 then (st, s)
      else if record && s.ringFull (6 + d.size) then (7, s.setLost 5 true t)
      else
        let s' := State.written s (s'.touch obj i) obj i port role pl t
        let s' := if record then s'.configRecord obj i (if obj = 0x1401 then ⟨d.size, pl.data⟩ else ⟨d.size, s'.imageOf d i⟩) t else s'
        (0, if changed && s.leafMoved s' obj i then (groupOf obj).elim s' fun g => s'.crqChange g t else s')

/-- WRITE (R383): the ACK carries the new change counter. -/
def State.doWrite (s : State) (m : HostMsg) (t : Nat) : State :=
  let i := m.req.index.toNat
  let p := m.req.port.val
  let r := s.writeIndex m.obj i p (s.portRole p) m.req.payload t
  r.2.reply m r.1 (if r.1 = 0 then payloadOf 4 (r.2.counter m.obj i) else noPayload) t

/-- WRITEIF (R383): objects of up to 252 bytes; tested and applied in one step. -/
def State.doWriteif (s : State) (m : HostMsg) (t : Nat) : State :=
  let i := m.req.index.toNat
  let p := m.req.port.val
  let pl := m.req.payload
  let size := (findObj m.obj).elim (pl.len - 4) fun d => d.size
  if pl.len < 4 ∨ 252 < size then s.reply m 4 noPayload t
  else if argAt pl 0 4 ≠ s.counter m.obj i then s.reply m 8 (payloadOf 4 (s.counter m.obj i)) t
  else
    let r := s.writeIndex m.obj i p (s.portRole p) ⟨pl.len - 4, pl.data / 2 ^ 32⟩ t
    r.2.reply m r.1 (if r.1 = 0 then payloadOf 4 (r.2.counter m.obj i) else noPayload) t

end Sys2Proof.Machine
end

