-- ==== Sys2Proof/Machine/Images.lean ====
section
/-! DEFINITION. Image modules: reading one from its bytes, the loader's checks, loading and starting a core (spec/02 R74–R77). -/

namespace Sys2Proof.Machine

open Sys2Proof

/-! ### Reading a module (spec/02 Tables 2-14, 2-15) -/

/-- A section entry at an offset. -/
def sectAt (p : Payload) (o : Nat) : Sect :=
  { typ := BitVec.ofNat 8 (argAt p o 1), dest := BitVec.ofNat 32 (argAt p (o + 4) 4), length := BitVec.ofNat 32 (argAt p (o + 8) 4),
    fileOff := BitVec.ofNat 32 (argAt p (o + 12) 4) }

/-- An export entry at an offset. -/
def exportAt (p : Payload) (o : Nat) : Export :=
  { gate := BitVec.ofNat 8 (argAt p o 1), pri := BitVec.ofNat 4 (argAt p (o + 1) 1 / 16), effecting := argAt p (o + 1) 1 % 2 == 1,
    maxWait := BitVec.ofNat 16 (argAt p (o + 2) 2), handler := BitVec.ofNat 32 (argAt p (o + 4) 4) }

/-- An import entry at an offset. -/
def importAt (p : Payload) (o : Nat) : Import :=
  { gate := BitVec.ofNat 8 (argAt p o 1), kind := BitVec.ofNat 8 (argAt p (o + 1) 1) }

/-- A channel entry at an offset. -/
def chanAt (p : Payload) (o : Nat) : ChanDecl :=
  { ch := BitVec.ofNat 8 (argAt p o 1), peer := BitVec.ofNat 8 (argAt p (o + 1) 1), send := argAt p (o + 2) 1 % 2 == 1,
    recv := argAt p (o + 2) 1 / 2 % 2 == 1, depth := BitVec.ofNat 8 (argAt p (o + 3) 1), maxLen := BitVec.ofNat 16 (argAt p (o + 4) 2) }

/-- A grant entry at an offset. -/
def grantAt (p : Payload) (o : Nat) : Grant :=
  { base := BitVec.ofNat 32 (argAt p o 4), pages := BitVec.ofNat 16 (argAt p (o + 4) 2), load := argAt p (o + 6) 2 % 2 == 1,
    store := argAt p (o + 6) 2 / 2 % 2 == 1 }

/-- The entries of a table whose offset and count stand at `h`, each of `size` bytes. -/
def tableAt {α : Type} (p : Payload) (h size : Nat) (f : Payload → Nat → α) : List α :=
  (List.range (argAt p (h + 4) 2)).map fun j => f p (argAt p h 4 + size * j)

/-- A module read from its bytes: total_len of them. -/
def imageOf (p : Payload) : Image :=
  let n := argAt p 0x1C 4
  { magic := BitVec.ofNat 32 (argAt p 0 4), fmtVer := BitVec.ofNat 16 (argAt p 4 2), kind := BitVec.ofNat 8 (argAt p 6 1)
    debug := argAt p 7 1 % 2 == 1, coreMask := BitVec.ofNat 16 (argAt p 8 2), hdrLen := BitVec.ofNat 16 (argAt p 0xA 2)
    imgVer := BitVec.ofNat 32 (argAt p 0xC 4), entry := BitVec.ofNat 32 (argAt p 0x14 4), vbase := BitVec.ofNat 32 (argAt p 0x18 4)
    signerId := BitVec.ofNat 64 (argAt p 0x50 8), sects := tableAt p 0x20 16 sectAt, exports := tableAt p 0x28 8 exportAt
    imports := tableAt p 0x30 4 importAt, chans := tableAt p 0x38 8 chanAt, grants := tableAt p 0x40 8 grantAt
    raw := payloadOf n p.data, digest := BitVec.ofNat 512 (argAt p (n - 576) 64), signature := argAt p (n - 512) 512 }

/-- The staged module (spec/16 Table 16-9): part i holds bytes 256i to 256i + 255; as many parts as total_len names. -/
def State.staged (s : State) : Payload :=
  let n := s.get stagePart 0 / 2 ^ (8 * 0x1C) % 2 ^ 32
  ⟨n, (List.range (min 32768 ((n + 255) / 256))).foldl (fun v i => v + s.get stagePart i * 2 ^ (2048 * i)) 0⟩

/-! ### The loader's checks (spec/02 R76) -/

/-- Whether bytes `a` to `a + n - 1` lie in a memory a section of a type and kind of image may fill (spec/02 Tables 2-2, 2-15). That initialised
data and zero fill go to local data SRAM alone is the model's choice (notes/assumptions/43.md). -/
def sectInside (kind typ a n : Nat) : Bool :=
  let within (lo hi : Nat) : Bool := decide (lo ≤ a) && decide (a + n ≤ hi + 1)
  if typ = 1 then within 0 0x1FFFF
  else if typ = 2 ∨ typ = 3 then within 0x20000 0x3FFFF
  else if typ = 4 then
    (if kind = 0 then within 0x20000000 0x203FFFFF
     else if kind = 1 then within 0x20400000 0x205FFFFF || within 0x20700000 0x2077FFFF
     else if kind = 2 then within 0x20600000 0x206FFFFF || within 0x20780000 0x207FFFFF
     else false)
  else false

/-- Whether two sections overlap. -/
def sectsMeet (a b : Sect) : Bool :=
  decide (a.dest.toNat < b.dest.toNat + b.length.toNat) && decide (b.dest.toNat < a.dest.toNat + a.length.toNat)

/-- Whether some two sections of a list overlap. -/
def anyMeet : List Sect → Bool
  | [] => false
  | a :: r => r.any (sectsMeet a) || anyMeet r

/-- Whether a section of an image is refused (reason 7). -/
def sectBad (kind : Nat) (x : Sect) : Bool :=
  !sectInside kind x.typ.toNat x.dest.toNat x.length.toNat
    || (decide (1 ≤ kind) && decide (kind ≤ 3) && decide (x.dest.toNat ≤ 0x3FFFF) && decide (0x3FF00 < x.dest.toNat + x.length.toNat))

/-- Whether a grant names a page the kind may not have (reason 8). -/
def grantBad (kind : Nat) (g : Grant) : Bool :=
  decide (g.base.toNat % 0x10000 ≠ 0)
    || (List.range g.pages.toNat).any fun j => !pageKind (g.base.toNat + 0x10000 * j) kind

/-- Whether the target is named by the image: for kinds 0–3 the core's bit (the port both bits 8 and 9), for kind 4 the pair of channels and an
empty mask (spec/02 Table 2-14). That the port image must name both H0 and H1, and that a kind above 4 names no target, so that it is refused
with reason 2, are the model's choices (notes/assumptions/43.md). -/
def targetNamed (img : Image) (target : Nat) : Bool :=
  let m := img.coreMask.toNat
  let k := img.kind.toNat
  if k = 4 then m == 0 && target == 6
  else if target < 5 then m.testBit target && (if k = 0 then decide (target < 3) else if k = 1 then target == 3 else if k = 2 then target == 4
    else false)
  else if target = 5 then k == 3 && m.testBit 8 && m.testBit 9
  else false

/-- The exports the running or active images of a kind have (spec/02 R76). -/
def State.exportsOf (s : State) (kind : Nat) : List Export :=
  ((List.range 6).flatMap fun c => match (s.core c).image with
    | some i => if i.kind = kind then i.exports else []
    | none => [])
  ++ s.imgs.active.flatMap fun e => if e.2.kind.toNat = kind then e.2.exports else []

/-- Whether the key of the kind verifies the image (spec/02 R75): kinds 1–4 the Welmuond image key, kind 0 the enrolled one. -/
def State.imageSigned (s : State) (img : Image) : Bool :=
  let key : Option Nat :=
    if img.kind.toNat = 0 then s.keys.integrator
    else if img.kind.toNat ≤ 4 then some Config.welmuondId else none
  match key with
  | none => false
  | some k =>
    let id := if img.kind.toNat = 0 then Config.sha512 512 k % 2 ^ 64 else k
    decide (img.signerId.toNat = id % 2 ^ 64) && Config.pssVerify k img.digest.toNat img.signature

/-- The loader's verdict: 0, or the reason of the first check that fails (spec/02 R76). -/
def State.checkImage (s : State) (img : Image) (target : Nat) : Nat :=
  let kind := img.kind.toNat
  if img.magic ≠ 0x314D4950#32 ∨ img.fmtVer ≠ 1#16 ∨ img.hdrLen ≠ 0x80#16 then 1
  else if targetNamed img target = false then 2
  else if Config.sha512 (img.raw.len - 576) (img.raw.data % 2 ^ (8 * (img.raw.len - 576))) % 2 ^ 512 ≠ img.digest.toNat then 3
  else if s.imageSigned img = false then 4
  else if img.imgVer.toNat < Tab.get s.imgs.minVer kind 0 then 5
  else if img.debug ∧ s.lifecycle = 2 then 6
  else if img.sects.any (sectBad kind) || anyMeet img.sects then 7
  else if img.grants.any (grantBad kind) then 8
  else if img.imports.any (fun x => !(s.exportsOf x.kind.toNat).any fun e => e.gate == x.gate) then 9
  else 0

/-! ### Loading (spec/02 R76, R77) -/

/-- The sections of an image placed in memory for core `c`. -/
def State.placeSects (s : State) (c : Nat) (img : Image) : State :=
  img.sects.foldl (fun s x =>
    s.storeBytes c x.dest.toNat (if x.typ = 3#8 then 0 else argAt img.raw x.fileOff.toNat x.length.toNat) x.length.toNat) s

/-- What the loader keeps of an image. -/
def loadedOf (img : Image) : Loaded :=
  { kind := img.kind.toNat, imgVer := img.imgVer.toNat, digest := img.digest.toNat, exports := img.exports, imports := img.imports,
    chans := img.chans, grants := img.grants }

/-- The kind that owns mailbox source 0x50 + h: legal where a legal image grants the mailbox's page, else link (spec/03 Table 3-4). -/
def State.mailboxOwner (s : State) (h : Nat) : Nat :=
  let granted := [0, 1, 2, 3, 4, 5].any fun c => match (s.core c).image with
    | some i => i.kind == 2 && (s.core c).granted (0x50000000 + 0x10000 * h) false
    | none => false
  if granted then 2 else 1

/-- What a vendor image of kind link (1, on core 3) or legal (2, on core 4) sets of its sources: pri, whether it is a target, count_en of an
edge source (spec/03 R88, R89). Which values it sets is free (notes/assumptions/43.md). -/
def State.vendorSources (s : State) (kind digest : Nat) : State :=
  (List.range 0x80).foldl (fun (s : State) src =>
    if s.get irqOwner src ≠ kind then s
    else
      let v := Config.vendorSource digest src
      let s := (s.put irqPri src v).put irqTargets src (if v.testBit 4 then 2 ^ (kind + 2) else 0)
      s.put irqCountEn src (if v.testBit 5 && !s.flag irqLevel src then 1 else 0)) s

/-- The owners of the mailbox sources and the vendor's sources after image `img` has been loaded. -/
def State.loadSources (s : State) (img : Image) : State :=
  let s := (List.range 48).foldl (fun (s : State) h => s.put irqOwner (0x50 + h) (s.mailboxOwner h)) s
  let k := img.kind.toNat
  (if k = 1 ∨ k = 2 then s.vendorSources k img.digest.toNat else s).settleLatches

/-- A core out of reset at its image's entry (spec/02 R76, Table 2-1): cw13 shows the kind and the core it stands for, cw14 the version, cw4
the vector base. Entries its effect queue still holds leave later (spec/03 R87), its read-to-clear counts stay, and it stands for the core
it stood for. -/
def State.startCore (s : State) (c : Nat) (img : Image) : State :=
  let old := s.core c
  let k := { Core.reset with pc := alignPc img.entry, run := .running, image := some (loadedOf img), eq := old.eq, rc := old.rc }
  let k := k.setCwd 13 (BitVec.ofNat 64 (s.logical c * 65536 + img.kind.toNat * 256 + c))
  let k := (k.setCwd 14 (img.imgVer.setWidth 64)).setCwd 4 ((img.vbase &&& 0xFFFFFF00#32).setWidth 64)
  ((s.placeSects c img).setCore c k).loadSources img

/-- An accepted image active for its target (0–4 the site cores, 5 port, 6 safety channels); a new one is kept in the image area, in parts
(spec/15 Tables 15-3, 15-4). -/
def State.setActive (s : State) (target : Nat) (img : Image) (t : Nat) : State :=
  if Tab.find s.imgs.active target = some img then s
  else
    let s := (List.range (imageParts img.raw.len)).foldl (fun (s : State) j =>
      s.append 5 target 0 (min 4032 (img.raw.len - 4032 * j)) (argAt img.raw (4032 * j) (min 4032 (img.raw.len - 4032 * j))) t) s
    { s with imgs := { s.imgs with active := Tab.set s.imgs.active target img } }

/-- The loader on core `c` for logical core `target`: loads and starts it, or refuses with the reason shown and event 0x09, the core in reset
(spec/02 R76, R77). -/
def State.loadImage (s : State) (c target : Nat) (img : Image) (t : Nat) : State :=
  let r := s.checkImage img target
  let s := s.put partImageReason c r
  if r = 0 then ((s.setActive target img t).startCore c img).crqChange 13 t
  else ((s.setCore c { s.core c with run := .inReset, image := none }).event 0x09 c r 0 t)

/-- IMAGE_LOAD: the module is its bytes, and every field is read from them (spec/02 R74). A core in reset that no failure mark holds there (spec/15 R420) takes the image of the logical core it runs; P5 only while it
stands for one (R421). -/
def execImageLoad (t : Nat) (core : Fin 6) (img : Image) (s : State) : Res :=
  let s := s.at t
  let c := core.val
  if decide ((s.core c).run = .inReset) && !s.bit sparesFailed 0 c && (decide (c < 5) || s.get sparesStandsFor 0 != 0xFF) && s.sup.fieldUp
  then .next ((s.loadImage c (if c = 5 then s.get sparesStandsFor 0 else c) (Sys2Proof.Machine.imageOf img.raw) t).refreshReady)
  else .next s

end Sys2Proof.Machine
end

