-- ==== Sys2Proof/Machine/InvokeBase.lean ====
section
/-! DEFINITION. The shape of an INVOKE and the roles of each code (spec/14 R402, Table 14-17). -/

namespace Sys2Proof.Machine

/-- What an invoked action answers: status of the ACK or NAK, result, state. Status 0xFFFF: answered later. -/
abbrev Ans := Nat × Payload × State

/-- Done, with no result. -/
def okAns (s : State) : Ans := (0, noPayload, s)

/-- Refused: nothing is done. -/
def noAns (status : Nat) (s : State) : Ans := (status, noPayload, s)

/-- Done where a condition holds, else refused with a status. -/
def ansIf (b : Bool) (status : Nat) (s s' : State) : Ans := if b then okAns s' else noAns status s

/-- The highest code an object takes (spec/14 Table 14-17); none for an object that takes no INVOKE. -/
def codesOf (obj : Nat) : Option Nat :=
  if obj = 0x0540 ∨ obj = 0x08E0 ∨ obj = 0x0118 ∨ obj = 0x1403 ∨ obj = 0x13F0 ∨ obj = 0x1A60 ∨ obj = 0x18F0 then some 2
  else if obj = 0x06A0 ∨ obj = 0x1450 ∨ obj = 0x14F0 ∨ obj = 0x01E0 ∨ obj = 0x1B02 ∨ obj = 0x1860 ∨ obj = 0x19F0 then some 1
  else if obj = 0x0CF0 then some 3
  else if obj = 0x1030 then some 4
  else if obj = 0x11F0 ∨ obj = 0x0160 then some 5
  else if obj = 0x0190 then some 6
  else if obj = 0x0020 then some 7
  else none

/-- The payload length of a code (spec/14 Table 14-17); a key's and a blob's own length counted in. -/
def lengthOf (obj code : Nat) (p : Payload) : Nat :=
  if obj = 0x0540 ∧ code = 2 then 8
  else if obj = 0x0CF0 ∧ (code = 1 ∨ code = 3) then 16
  else if obj = 0x1030 ∧ code = 3 then 8
  else if obj = 0x11F0 ∧ code = 1 then 8
  else if obj = 0x0160 then
    (if code = 1 then 24 else if code = 2 then 26 + argAt p 24 2 else if code = 3 then 28 + argAt p 26 2 else 8)
  else if obj = 0x0190 ∧ (code = 1 ∨ code = 6) then 16
  else if obj = 0x01E0 then 36
  else if obj = 0x1B02 then 16
  else if obj = 0x1860 then 18
  else 4

/-- The argument bytes of a code that must be zero, as offset and count (spec/14 Table 14-17). -/
def zeroBytes (obj code : Nat) : Nat × Nat :=
  if (obj = 0x0540 ∧ code = 2) ∨ (obj = 0x1030 ∧ code = 3) ∨ obj = 0x1860 then (5, 3)
  else if (obj = 0x0CF0 ∧ (code = 1 ∨ code = 3)) ∨ (obj = 0x0190 ∧ (code = 1 ∨ code = 6)) ∨ obj = 0x1B02 then (4, 4)
  else if obj = 0x0160 then (if code ≤ 3 then (9, 7) else (6, 2))
  else (0, 0)

/-- What a payload's form refuses, in the order of notes/assumptions/27.md: 0 where its form is right (spec/14 R402). -/
def formOf (obj : Nat) (p : Payload) : Nat :=
  let code := argAt p 0 1
  let z := zeroBytes obj code
  if p.len < 4 then 4
  else if argAt p 1 3 ≠ 0 then 5
  else match codesOf obj with
    | none => 2
    | some n =>
      if code = 0 ∨ n < code then 6
      else if p.len ≠ lengthOf obj code p then 4
      else if argAt p z.1 z.2 ≠ 0 then 5
      else 0

/-- The roles that may invoke a code (bits 1 OPERATOR, 2 SITE, 3 METER, 4 SAFETY, 5 SERVICE; the object tables of each chapter). -/
def codeRoles (obj code : Nat) : Nat :=
  if obj = 0x0020 then
    (if code ≤ 2 then 38 else if code ≤ 4 then 56 else if code = 5 then 50 else if code = 6 then 34 else 32)
  else if obj = 0x0540 then (if code = 1 then 34 else 32)
  else if obj = 0x08E0 ∨ obj = 0x0CF0 then 8
  else if obj = 0x1030 then (if code ≤ 3 then 6 else 32)
  else if obj = 0x11F0 then (if code ≤ 3 then 16 else 32)
  else if obj = 0x0190 then (if code = 3 then 8 else 32)
  else if obj = 0x01E0 then 62
  else if obj = 0x1403 ∨ obj = 0x1450 ∨ obj = 0x1A60 then 36
  else if obj = 0x1860 then 44
  else if obj = 0x1B02 then 12
  else 32

end Sys2Proof.Machine
end

