-- ==== Sys2Proof/Machine/KeyRows.lean ====
section
/-! DEFINITION. HK: slots, operations by attribute, KEY_REQ and KEY_RSP (spec/01 R26, spec/14 R389–R391, R394). -/

namespace Sys2Proof.Machine

open Sys2Proof

/-- The number an operation has in `Config.keyOp`. -/
def opCode : KeyOp → Nat
  | .gcmEncrypt => 0 | .cmac => 1 | .gcmDecrypt => 2 | .ecdh => 3 | .eapPsk => 4 | .hkdf => 5 | .ecdsaP256 => 6 | .ecdsaP521 => 7
  | .ed448 => 8 | .rsaPss => 9

/-- Whether an operation is one a praline of an algorithm and attribute permits (spec/14 Table 14-10). -/
def opPermitted (op : KeyOp) (alg attr : Nat) : Bool :=
  match op with
  | .gcmEncrypt => attr == 1 && alg == 1
  | .cmac => attr == 1 && alg == 1
  | .gcmDecrypt => attr == 2 && alg == 1
  | .ecdh => attr == 4 && (alg == 3 || alg == 4 || alg == 6)
  | .eapPsk => attr == 4 && alg == 2
  | .hkdf => attr == 4 && alg == 1
  | .ecdsaP256 => attr == 5 && alg == 3
  | .ecdsaP521 => attr == 5 && alg == 4
  | .ed448 => attr == 5 && alg == 5
  | .rsaPss => false

/-- Bytes of an operation's result: for the GCM operations as many as the data with its tag put on or taken off. -/
def resultBytes (op : KeyOp) (n : Nat) : Nat :=
  match op with
  | .gcmEncrypt => n + 16 | .cmac => 16 | .gcmDecrypt => n - 16 | .ecdh => 66 | .eapPsk => 64 | .hkdf => 64 | .ecdsaP256 => 64
  | .ecdsaP521 => 132 | .ed448 => 114 | .rsaPss => 512

/-- HK replaced. -/
def State.setKeys (s : State) (k : Keys) : State := { s with keys := k }

/-- The slot that holds praline `n`. -/
def Keys.slotOf (k : Keys) (n : Nat) : Option Nat := (k.slots.find? fun e => e.2.praline == n).map fun e => e.1

/-- The slot a praline is loaded into: a free one of 8–59, else the least recently used unpinned one (spec/14 R391). -/
def Keys.victim (k : Keys) : Option Nat :=
  match (List.range 52).map (8 + ·) |>.find? fun j => (Tab.find k.slots j).isNone with
  | some j => some j
  | none =>
    (k.slots.filter fun e => decide (8 ≤ e.1) && decide (e.1 ≤ 59) && !e.2.pin).foldl (fun (b : Option (Nat × Nat)) e =>
      match b with
      | none => some (e.1, e.2.used)
      | some (j, u) => if e.2.used < u then some (e.1, e.2.used) else some (j, u)) none |>.map fun b => b.1

/-- Praline `n` in a slot: the one that holds it, or one it is loaded into; none where R391 refuses it. -/
def State.loadPraline (s : State) (n : Nat) : Option Nat × State :=
  match s.keys.slotOf n with
  | some j => (some j, s)
  | none =>
    match s.pralineKey n, s.keys.victim with
    | some key, some j =>
      let sl : KeySlot := { praline := n, alg := s.get pralineAlg n, attr := s.get pralineAttr n, pin := s.flag pralinePin n, key := key,
                            used := s.keys.uses }
      (some j, s.setKeys { s.keys with slots := Tab.set s.keys.slots j sl })
    | _, _ => (none, s)

/-- An operation with the key of an occupied slot, which counts as its use. -/
def State.useSlot (s : State) (j : Nat) (op : KeyOp) (data : Payload) : Option Payload × State :=
  match Tab.find s.keys.slots j with
  | none => (none, s)
  | some sl =>
    if opPermitted op sl.alg sl.attr then
      let n := s.keys.uses + 1
      (some (payloadOf (resultBytes op data.len) (Config.keyOp (opCode op) sl.key data.data)),
       s.setKeys { s.keys with uses := n, slots := Tab.set s.keys.slots j { sl with used := n } })
    else (none, s)

/-- HK's answer to a key reference and operation: a result, or refused (spec/14 R389, R391, Table 14-9). A transient slot's key is drawn for
one agreement and destroyed after it (spec/09 R244). -/
def State.hkOperate (s : State) (ref : Nat) (op : KeyOp) (data : Payload) : Option Payload × State :=
  if s.keys.unusable.contains ref then (none, s)
  else if 0x1000 ≤ ref ∧ ref < 0x1400 then
    let r := s.loadPraline (ref - 0x1000)
    r.1.elim (none, r.2) fun j => r.2.useSlot j op data
  else if ref = 0 ∨ ref = 1 then
    let key : Option Nat := if ref = 0 then (if s.keys.identity then some 0 else none) else s.keys.legal
    match key with
    | some k => if op = .rsaPss then (some (payloadOf 512 (Config.pssSign k (Config.sha512 data.len data.data) s.keys.uses)),
        s.setKeys { s.keys with uses := s.keys.uses + 1 }) else (none, s)
    | none => (none, s)
  else if 60 ≤ ref ∧ ref < 64 then
    if op = .ecdh then
      (some (payloadOf (resultBytes op data.len) (Config.keyOp (opCode op) (Config.newKey s.keys.made 6) data.data)),
       s.setKeys { s.keys with made := s.keys.made + 1, uses := s.keys.uses + 1 })
    else (none, s)
  else if 8 ≤ ref ∧ ref < 60 then s.useSlot ref op data
  else (none, s)

/-- A key request crosses to HK, which performs it where the slot's attribute permits and answers by KEY_RSP with its tag, or refuses with
status 0x000C and event 0x0A (spec/01 R26, Table 1-2, spec/14 R391). Answers what HK gave. -/
def State.keyCross (s : State) (ref : Nat) (op : KeyOp) (core tag : Nat) (data : Payload) (t : Nat) : Option Payload × State :=
  let s := s.cwSend .field 0x03 1 (ref % 65536 + opCode op * 2 ^ 16 + core % 256 * 2 ^ 24 + tag % 2 ^ 32 * 2 ^ 32) data t
  let r := s.hkOperate ref op data
  (r.1, match r.1 with
    | some x => r.2.cwSend .host 0x04 1 (tag % 2 ^ 32) x t
    | none => (r.2.event 0x0A ref 0 0 t).cwSend .host 0x04 1 (tag % 2 ^ 32 + 0xC * 2 ^ 32) noPayload t)

/-- KEY_REQ: the field engine's request is kept until it is answered; while the host side is absent it waits in the journal (spec/01 R13), else
it crosses to HK. -/
def execKeyReq (t : Nat) (ref : BitVec 16) (op : KeyOp) (core : Fin 6) (tag : Nat) (data : Payload) (s : State) : Res :=
  let s := s.at t
  let p : KeyPend := { tag := tag, ref := ref.toNat, op := op, core := core.val, data := data }
  let s := if s.keys.pend.any fun x => x.tag == tag && x.core == core.val then s else s.setKeys { s.keys with pend := s.keys.pend ++ [p] }
  if s.cway.hostAbsent then
    .next (if s.cway.queued.contains (.key tag core.val) then s else s.keepQueued (.key tag core.val))
  else if !s.sup.hostUp || s.sup.pfailhLow then .next s
  else .next (s.keyCross ref.toNat op core.val tag data t).2

/-- KEY_RSP: the answer to the request with its tag arrives. A signature of slot 1 completes the oldest receipt that waits for one; refused,
the receipt stays unsigned with flag [3] (spec/08 R231). -/
def execKeyRsp (t : Nat) (tag : Nat) (status : BitVec 16) (result : Payload) (s : State) : Res :=
  let s := s.at t
  match s.keys.pend.find? fun x => x.tag == tag with
  | none => .next s
  | some x =>
    let s := s.setKeys { s.keys with pend := s.keys.pend.filter fun y => y.tag != tag }
    match x.ref, s.bill.unsigned with
    | 1, (no, body) :: rest =>
      let s := { s with bill := { s.bill with unsigned := rest } }
      if status = 0#16 then .next (s.storeReceipt no body result.data t)
      else
        let flags := body / 2 ^ (8 * 0x1A4) % 2 ^ 32
        .next (s.storeReceipt no (body + ((flags ||| 8) - flags) * 2 ^ (8 * 0x1A4)) 0 t)
    | _, _ => .next s

end Sys2Proof.Machine
end

