-- ==== Sys2Proof/Machine/Crq.lean ====
section
/-! DEFINITION. The Croquembouche and attestation statements (spec/14 R397–R401). -/

namespace Sys2Proof.Machine

/-! ### Leaves (spec/14 R397, R398) -/

/-- The members of a group of Table 14-14 with their indices: node.entry of kind 0 left out, the active copies of the calendar and the safety
objects alone. -/
def State.members (s : State) (g : Nat) : List (ObjDef × List Nat) :=
  let all (d : ObjDef) : ObjDef × List Nat := (d, List.range d.count)
  let from_ (d : ObjDef) (a n : Nat) : ObjDef × List Nat := (d, (List.range n).map (a + ·))
  match g with
  | 0 => [all modeConfigDef]
  | 1 => [all portBindDef, all pralineDef]
  | 2 => [all allocConfigDef, all allocSiteDef, all allocOutletDef, all allocContractDef]
  | 3 => [all ctlSlotDef, all ctlOutletDef, all ctlBatteryDef]
  | 4 => [all coolOutletDef, all thermTsDef]
  | 5 => [all meterSiteDef, all meterCalDef, all meterOutletCfgDef]
  | 6 => [all billConfigDef, from_ calSeasonDef 16 16, from_ calWeekDef 8 8, from_ calDayDef 32 32, from_ calSpecialDef 64 64,
          all timeConfigDef, all timeOffsetDef]
  | 7 => [all vlOutletDef, all vlScheduleDef, all vlTrustDef, all vlSeccDef]
  | 8 => [from_ safetyParamDef 0 1, from_ safetyOutletDef 0 12]
  | 9 => [all battConfigDef, all battOcvDef, all battStringDef]
  | 10 => [all avenueConfigDef, all laneHostDef]
  | 11 => [(nodeEntryDef, (List.range 1024).filter fun n => s.get nodeEntryKind n != 0)]
  | 12 => [all nodeSummaryDef, all canConfigDef, all canFilterDef, all meshConfigDef]
  | 14 => [all irqDef]
  | 15 => [all durableConfigDef]
  | _ => []

/-- The bytes of an index with every field zeroed that a host does not write; node.entry keeps expected, alloc.site drops avail. -/
def State.leafBytes (s : State) (d : ObjDef) (i : Nat) : Nat :=
  d.fields.foldl (fun v f =>
    if (f.acc == .rw && !(d.id == 0x0201 && f.pos == allocSiteAvail.pos)) || (d.id == 0x1400 && f.pos == nodeEntryExpected.pos) then
      v + s.get f i * 2 ^ f.pos
    else v) 0

/-- leaf(o, i) of R398. -/
def State.leaf (s : State) (d : ObjDef) (i : Nat) : Nat :=
  Config.sha512 (6 + d.size) (d.id + i * 2 ^ 16 + d.size * 2 ^ 32 + s.leafBytes d i * 2 ^ 48) % 2 ^ 512

/-- The images that run, by core 0–4, 5 port, 6 safety channels: kind, version, digest. -/
def State.runningImage (s : State) (c : Nat) : Option (Nat × Nat × Nat) :=
  if c < 5 then
    let k := s.core (s.physical c)
    if k.alive then k.image.map fun i => (i.kind, i.imgVer, i.digest) else none
  else (Tab.find s.imgs.active c).map fun i => (i.kind.toNat, i.imgVer.toNat, i.digest.toNat)

/-- The leaves of a group in order: object (core in group 13), index, leaf. -/
def State.leaves (s : State) (g : Nat) : List (Nat × Nat × Nat) :=
  if g = 13 then
    (List.range 7).filterMap fun c => (s.runningImage c).map fun i =>
      (c, 0, Config.sha512 70 (c + i.1 % 256 * 2 ^ 8 + i.2.1 % 2 ^ 32 * 2 ^ 16 + i.2.2 % 2 ^ 512 * 2 ^ 48) % 2 ^ 512)
  else (s.members g).flatMap fun m => m.2.map fun i => (m.1.id, i, s.leaf m.1 i)

/-- d[g] of R398. -/
def groupDigest (g : Nat) (l : List (Nat × Nat × Nat)) : Nat :=
  let img := (l.foldl (fun (a : Nat × Nat) x => (a.1 + x.2.2 * 2 ^ a.2, a.2 + 512)) (g + l.length * 2 ^ 8, 40)).1
  Config.sha512 (5 + 64 * l.length) img % 2 ^ 512

/-- A group's count, digest and leaves shown. -/
def State.showGroup (s : State) (g : Nat) : State :=
  let l := s.leaves g
  let s := (s.put crqGroupCount g l.length).put crqGroupDigest g (groupDigest g l)
  (l.foldl (fun (a : State × Nat) x =>
    (((a.1.put crqLeafObject a.2 x.1).put crqLeafIndex a.2 x.2.1).put crqLeafLeaf a.2 x.2.2, a.2 + 1)) (s, 1024 * g)).1

/-- The tree recomputed: groups, root, flag [0] cleared (spec/14 R398, R399). -/
def State.recompute (s : State) : State :=
  let s := (List.range 16).foldl (fun s g => s.showGroup g) s
  let img := (List.range 16).foldl (fun v g => v + s.get crqGroupDigest g * 2 ^ (32 + 512 * g)) 0x31515243
  (s.put crqStateRoot 0 (Config.sha512 (4 + 64 * 16) img)).put crqStateFlags 0 0

/-- CROQUEMBOUCHE_RECOMPUTE: while a change of the configuration waits for it. -/
def execCroquemboucheRecompute (t : Nat) (s : State) : Res :=
  let s := s.at t
  if s.get crqStateFlags 0 % 2 = 1 then .next s.recompute else .next s

/-! ### Statements (spec/14 R401) -/

/-- How many node entries are in a state (spec/13 Table 13-2). -/
def State.entriesIn (s : State) (st : Nat) : Nat :=
  ((List.range 1024).filter fun n => s.get nodeEntryKind n != 0 && s.get nodeEntryState n == st).length

/-- Bytes 0x000–0x1FF of a statement of the instant `t` (spec/14 Table 14-16). -/
def State.statement (s : State) (reason nonce t : Nat) : Nat :=
  let img (c : Nat) : Nat × Nat := (s.runningImage c).elim (0, 0) fun i => (i.2.1, i.2.2)
  place 0 0x31535441 4 + place 4 1 2 + place 6 s.lifecycle 1 + place 7 (s.get modeStateMode 0) 1 + place 8 (s.get devIdentSerial 0) 8
    + place 0x10 t 8 + place 0x18 (s.legal t) 8 + place 0x20 (s.get crqStateEpoch 0) 4 + place 0x24 (s.get lcStateLcEpoch 0) 1
    + place 0x25 reason 1 + place 0x28 (if reason = 0 then nonce else 0) 32 + place 0x48 (s.get crqStateRoot 0) 64
    + (List.range 16).foldl (fun v g => v + place (0x88 + 8 * g) (s.get crqGroupDigest g) 8) 0
    + (List.range 7).foldl (fun v c => v + place (0x108 + 8 * c) (img c).2 8 + place (0x140 + 4 * c) (img c).1 4) 0
    + place 0x160 (s.get safetyParamCrc 0) 4 + place 0x164 (s.get billStateCalActiveVer 0) 4
    + place 0x168 (s.entriesIn 2) 2 + place 0x16A (s.entriesIn 3) 2
    + place 0x170 (s.keys.legal.elim 0 fun k => Config.sha512 512 (Config.publicOf 6 k)) 8
    + place 0x178 (s.keys.integrator.elim 0 fun m => Config.sha512 512 m) 8

/-- A statement built, signed by HK in slot 0 through KEY_REQ and KEY_RSP (spec/01 R26), readable in attest.stmt. The tree is brought up to date first, so that the root is
that of the epoch shown. -/
def State.attest (s : State) (reason nonce t : Nat) : State :=
  let s := if s.get crqStateFlags 0 % 2 = 1 then s.recompute else s
  let body := s.statement reason nonce t
  let r := s.keyCross 0 .rsaPss 0xFF s.keys.uses ⟨512, body⟩ t
  let img := body + r.1.elim 0 (fun x => x.data) % 2 ^ 4096 * 2 ^ 4096
  let s := r.2
  (List.range 4).foldl (fun s p => s.put attestStmtPart p (img / 2 ^ (2048 * p))) s

/-- The four parts of the statement queued on a port. -/
def State.queueStatement (s : State) (p : Nat) (ack : Bool) : State :=
  (List.range 4).foldl (fun s j => s.enqueueNtf p { obj := 0x01E1, idx := j, ack := ack, payload := ⟨256, s.get attestStmtPart j⟩ }) s

/-- CHANGE_STATEMENT: after a change of epoch, at most one per second, to the subscribers of attest.stmt with flags [0]. -/
def execChangeStatement (t : Nat) (s : State) : Res :=
  let s := s.at t
  if s.get crqStateEpoch 0 = s.keys.stated ∨ (s.keys.lastChange ≠ 0 ∧ t < s.keys.lastChange + 1000000000) ∨ s.sup.hostServing = false
    ∨ s.cway.hostAbsent ∨ s.keys.identity = false then .next s
  else
    let s := s.attest 1 0 t
    let s := s.setKeys { s.keys with stated := s.get crqStateEpoch 0, lastChange := t }
    let ports := (List.range 6).filter fun p => (s.port p).subs.any fun b => b.obj == 0x01E1
    .next (ports.foldl (fun s p => s.queueStatement p true) s)

/-- attest.cmd 1: a statement of its own with the nonce, sent to the requesting port whether or not it subscribes. -/
def State.attestFor (s : State) (p nonce t : Nat) : Ans :=
  if s.keys.identity = false then noAns 7 s else okAns ((s.attest 0 nonce t).queueStatement p false)

end Sys2Proof.Machine
end

