-- ==== Sys2Proof/Machine/Flash.lean ====
section
/-! DEFINITION. The Millefeuille's segments: areas as circular logs, compaction, wear levelling, retirement (spec/15 Table 15-3, R408–R413). -/

namespace Sys2Proof.Machine

/-! ### Segments -/

/-- A segment. -/
def State.seg (s : State) (n : Nat) : Seg := Tab.get s.dur.flash.segs n (Seg.fresh n)

/-- The segments' state replaced. -/
def State.setFlash (s : State) (f : Flash) : State := { s with dur := { s.dur with flash := f } }

/-- A segment replaced. -/
def State.setSeg (s : State) (n : Nat) (x : Seg) : State := s.setFlash { s.dur.flash with segs := Tab.set s.dur.flash.segs n x }

/-- The segments an area's log holds; 6 the erased ones, 7 the spares. -/
def State.segsIn (s : State) (area : Nat) : List Nat := (List.range 512).filter fun n => (s.seg n).area == area

/-- The segments in use: of a log, or erased for one (spec/15 Table 15-9). -/
def State.segsUsed (s : State) : List Nat := (List.range 512).filter fun n => decide ((s.seg n).area ≤ 6)

/-- The first of the numbers at which `f` is least. -/
def leastBy (f : Nat → Nat) : List Nat → Option Nat
  | [] => none
  | n :: r => match leastBy f r with
    | none => some n
    | some m => if f m < f n then some m else some n

/-- wear.erase_max and erase_min follow the erase counts of the segments in use (spec/15 Table 15-9). -/
def State.showWear (s : State) : State :=
  let counts := s.segsUsed.map fun n => (s.seg n).erases
  (s.put wearEraseMax 0 (counts.foldl max 0)).put wearEraseMin 0 (counts.foldl min (counts.headD 0))

/-- A segment erased. -/
def State.eraseSeg (s : State) (n : Nat) : State :=
  (s.setSeg n { area := 6, erases := (s.seg n).erases + 1, place := 0, blocks := 0 }).showWear

/-- The segment an area is writing: the latest taken into its log. -/
def State.headSeg (s : State) (area : Nat) : Option Nat := leastBy (fun n => s.dur.flash.next - (s.seg n).place) (s.segsIn area)

/-- The oldest segment of an area's log. -/
def State.tailSeg (s : State) (area : Nat) : Option Nat := leastBy (fun n => (s.seg n).place) (s.segsIn area)

/-- The erased segment with the lowest erase count, which is written next (spec/15 R413). -/
def State.nextErased (s : State) : Option Nat := leastBy (fun n => (s.seg n).erases) (s.segsIn 6)

/-- An erased segment taken into an area's log. -/
def State.openSeg (s : State) (area : Nat) : State :=
  let f := s.dur.flash
  s.nextErased.elim s fun n =>
    s.setFlash { f with segs := Tab.set f.segs n { s.seg n with area := area, place := f.next, blocks := 0 }, next := f.next + 1 }

/-! ### Records (spec/15 R410) -/

/-- The blocks of a segment programmed once a record of `need` blocks follows `used` of them: none spans two pages of 128 blocks. -/
def blocksAfter (used need : Nat) : Nat := (if need ≤ 128 - used % 128 then used else (used / 128 + 1) * 128) + need

/-- Blocks of a segment: 64 pages. -/
def segBlocks : Nat := 64 * 128

/-- A record programmed at the head of its area's log. -/
def State.programRec (s : State) (r : Record) (flags : Nat) : State :=
  let h := (s.headSeg r.cls).getD 512
  let x := s.seg h
  let s := if h < 512 then s.setSeg h { x with blocks := blocksAfter x.blocks (r.coded / 36) } else s
  let s := { s with jr := { s.jr with flash := s.jr.flash ++ [{ r with flags := r.flags ||| flags, seg := h }] } }
  s.incWrap wearPhysTotal 0 r.coded

/-- How many records of flash later than `r` are of its class and satisfy `p`. -/
def State.laterThan (s : State) (r : Record) (p : Record → Bool) : Nat :=
  (s.jr.flash.filter fun x => x.cls == r.cls && decide (r.seq < x.seq) && p x).length

/-- Whether Table 15-3 requires a record to be kept (spec/15): the 16,384 latest receipts and every LEGAL record of the latest 400 days, one
without legal time counting as such; the current value of a CONFIG index; the 64 latest fault and trip records of each converter and
outlet; the active images. -/
def State.keepsRec (s : State) (r : Record) (t : Nat) : Bool :=
  !r.lost && (match r.cls with
  | 0 => r.legal == 0 || decide (s.legal t ≤ r.legal + 400 * 86400) || (r.typ == recReceipt && decide (s.laterThan r (fun x => x.typ == recReceipt) < 16384))
  | 1 => s.laterThan r (fun x => x.typ == r.typ && x.data % 65536 == r.data % 65536) == 0
  | 2 => (r.typ == 0x0B || r.typ == 0x0C) && decide (s.laterThan r (fun x => x.typ == r.typ && x.data % 65536 == r.data % 65536) < 64)
  | 5 => (Tab.find s.imgs.active r.typ).any fun i => decide (s.laterThan r (fun x => x.typ == r.typ) < imageParts i.raw.len)
  | _ => false)

/-- An area has wrapped: the records of its oldest segment that must be kept go to the head of the log as compaction copies, and the segment
is erased (spec/15 R410). -/
def State.compact (s : State) (area t : Nat) : State :=
  match s.tailSeg area with
  | none => s
  | some n =>
    let mine (r : Record) : Bool := r.cls == area && r.seg == n
    let keep := s.jr.flash.filter fun r => mine r && s.keepsRec r t
    let s := { s with jr := { s.jr with flash := s.jr.flash.filter fun r => !mine r } }
    (keep.foldl (fun (s : State) r => s.programRec r 2) s).eraseSeg n

/-- The contents of a segment moved to an erased one, in its place in the log. -/
def State.moveSeg (s : State) (n : Nat) : State :=
  s.nextErased.elim s fun m =>
    let x := s.seg n
    let s := s.setSeg m { x with erases := (s.seg m).erases }
    let s := { s with jr := { s.jr with flash := s.jr.flash.map fun (r : Record) => if r.cls = x.area ∧ r.seg = n then { r with seg := m } else r } }
    s.incWrap wearPhysTotal 0 (x.blocks * 36)

/-- Wear levelling (spec/15 R413): once the erase counts in use differ by more than 1,000, the written segment with the lowest gives up its
place. -/
def State.levelWear (s : State) : State :=
  let top := (s.segsUsed.map fun n => (s.seg n).erases).foldl max 0
  match leastBy (fun n => (s.seg n).erases) (s.segsUsed.filter fun n => (s.seg n).area != 6) with
  | none => s
  | some n => if (s.seg n).erases + 1000 < top ∧ (s.segsIn 6).isEmpty = false then (s.moveSeg n).eraseSeg n else s

/-- Segments of an area (spec/15 Table 15-3, 256 KB each), less those taken from it (R412). -/
def State.areaSegs (s : State) (area : Nat) : Nat :=
  [160, 64, 128, 32, 32, 32].getD area 0 - Tab.get s.dur.flash.taken area 0

/-- Room for a record of `need` blocks at the head of an area's log: a new segment where the one being written has none; once the area's last
is taken the log has wrapped. -/
def State.makeRoom (s : State) (area need t : Nat) : State :=
  if (s.headSeg area).any fun h => decide (blocksAfter (s.seg h).blocks need ≤ segBlocks) then s
  else
    let s := s.openSeg area
    if s.areaSegs area ≤ (s.segsIn area).length then (s.compact area t).levelWear else s

/-- A sealed record of the ring written to its area (spec/15 R408, R410, R413). -/
def State.toFlash (s : State) (r : Record) (t : Nat) : State := (s.makeRoom r.cls (r.coded / 36) t).programRec r 0

/-- A record's page rewritten into a fresh one: the record goes to the head of its log (spec/15 R412). -/
def State.rewriteRec (s : State) (area seq t : Nat) : State :=
  match s.jr.flash.find? fun r => r.cls == area && r.seq == seq with
  | none => s.incWrap wearPhysTotal 0 4096
  | some r =>
    let s := s.makeRoom area (r.coded / 36) t
    let s := { s with jr := { s.jr with flash := s.jr.flash.filter fun x => !(x.cls == area && x.seq == seq) } }
    (s.incWrap wearPhysTotal 0 (4096 - r.coded)).programRec r 0

/-! ### Retirement (spec/15 R412) -/

/-- The area that gives a segment up where no spare is left: the diagnostic one, then open, then link. -/
def State.givingArea (s : State) : Nat := if 2 < s.areaSegs 2 then 2 else if 2 < s.areaSegs 3 then 3 else 4

/-- A segment to take another's place: a spare, or with none left an area shrinks by one. -/
def State.takeSpare (s : State) : State :=
  let a := s.givingArea
  let shrunk := s.setFlash { s.dur.flash with taken := Tab.set s.dur.flash.taken a (Tab.get s.dur.flash.taken a 0 + 1) }
  (leastBy id (s.segsIn 7)).elim shrunk fun m => s.setSeg m { s.seg m with area := 6 }

/-- Segment `n` out of use: another takes its place, and what it holds moves first. -/
def State.dropSeg (s : State) (n : Nat) : State :=
  let s := s.takeSpare
  let s := if (s.seg n).area < 6 then s.moveSeg n else s
  (s.setSeg n { s.seg n with area := 8, blocks := 0 }).showWear

/-- The segment of a record of flash. -/
def State.segOfRec (s : State) (area seq : Nat) : Option Nat := (s.jr.flash.find? fun r => r.cls == area && r.seq == seq).map fun r => r.seg

/-- Every segment in use erased, as scrapping does (spec/14 Table 14-13). -/
def State.eraseAll (s : State) : State := s.segsUsed.foldl (fun (s : State) n => if (s.seg n).area < 6 then s.eraseSeg n else s) s

end Sys2Proof.Machine
end

