-- ==== Sys2Proof/Machine/Code36.lean ====
section
/-! DEFINITION. The 36/32 code (spec/01 R32–R35), over lists of bytes as numbers. -/

namespace Sys2Proof.Machine

/-- Multiplication by α in GF(2^8) of x^8 + x^4 + x^3 + x^2 + 1 (spec/01 R32). -/
def gfDouble (a : Nat) : Nat := if 128 ≤ a then (2 * a - 256) ^^^ 0x1D else 2 * a

/-- Product in the field: `n` bits of `b` from the least significant. -/
def gfMulFrom (a b : Nat) : Nat → Nat
  | 0 => 0
  | n + 1 => (if b % 2 = 1 then a else 0) ^^^ gfMulFrom (gfDouble a) (b / 2) n

/-- Product in the field. -/
def gfMul (a b : Nat) : Nat := gfMulFrom a b 8

/-- α to a power. -/
def gfExp : Nat → Nat
  | 0 => 1
  | n + 1 => gfDouble (gfExp n)

/-- Power of a field element. -/
def gfPow (a : Nat) : Nat → Nat
  | 0 => 1
  | n + 1 => gfMul a (gfPow a n)

/-- Quotient in the field; `b` not zero. -/
def gfDiv (a b : Nat) : Nat := gfMul a (gfPow b 254)

/-- One byte into the remainder of division by g(x) (spec/01 R32, R33): coefficients of x^3, x^2, x, 1. -/
def codeStep (r : Nat × Nat × Nat × Nat) (b : Nat) : Nat × Nat × Nat × Nat :=
  let f := b ^^^ r.1
  (r.2.1 ^^^ gfMul f 0x0F, r.2.2.1 ^^^ gfMul f 0x36, r.2.2.2 ^^^ gfMul f 0x78, gfMul f 0x40)

/-- The four check bytes of up to 32 data bytes; leading zero bytes change nothing (spec/01 R33, R34). -/
def checkBytes (d : List Nat) : List Nat :=
  let r := d.foldl codeStep (0, 0, 0, 0)
  [r.1, r.2.1, r.2.2.1, r.2.2.2]

/-- A byte string as a link sends it: blocks of 32, the last one shortened, each with its check bytes (spec/01 R34). `n` bounds the blocks. -/
def codeString (d : List Nat) : Nat → List Nat
  | 0 => []
  | n + 1 => if d.isEmpty then [] else d.take 32 ++ checkBytes (d.take 32) ++ codeString (d.drop 32) n

/-- A syndrome of a received block (spec/01 R35): c(α^j). -/
def syndrome (c : List Nat) (j : Nat) : Nat := c.foldl (fun (a : Nat) b => gfMul a (gfExp j) ^^^ b) 0

/-- The byte at place `p` from the end XORed with `e`. -/
def fixByte (c : List Nat) (p e : Nat) : List Nat := c.zipIdx.map fun (x : Nat × Nat) => if x.2 + p + 1 = c.length then x.1 ^^^ e else x.1

/-- A block corrected in C2 (spec/01 R35): the bytes and how many were wrong; none where no pattern of one or two bytes fits. -/
def correctC2 (c : List Nat) : Option (List Nat × Nat) :=
  let s0 := syndrome c 0
  let s1 := syndrome c 1
  let s2 := syndrome c 2
  let s3 := syndrome c 3
  let places := List.range c.length
  if s0 = 0 ∧ s1 = 0 ∧ s2 = 0 ∧ s3 = 0 then some (c, 0)
  else
    match places.find? fun p => s0 != 0 && gfMul s0 (gfExp p) == s1 && gfMul s1 (gfExp p) == s2 && gfMul s2 (gfExp p) == s3 with
    | some p => some (fixByte c p s0, 1)
    | none =>
      let det := gfMul s1 s1 ^^^ gfMul s0 s2
      if det = 0 then none
      else
        let a := gfDiv (gfMul s1 s2 ^^^ gfMul s0 s3) det
        let b := gfDiv (gfMul s2 s2 ^^^ gfMul s1 s3) det
        let pairs := places.flatMap fun p => (List.range p).map fun q => (p, q)
        match pairs.find? fun x => gfExp x.1 ^^^ gfExp x.2 == a && gfExp (x.1 + x.2) == b with
        | none => none
        | some (p, q) =>
          let e := gfDiv (s1 ^^^ gfMul s0 (gfExp p)) (gfExp p ^^^ gfExp q)
          some (fixByte (fixByte c q e) p (s0 ^^^ e), 2)

/-- A block corrected in C1D3 (spec/01 R35): only where a single byte is wrong. -/
def correctC1D3 (c : List Nat) : Option (List Nat × Nat) :=
  match correctC2 c with
  | some (b, n) => if n ≤ 1 then some (b, n) else none
  | none => none

/-- A coded byte string decoded in C2: data bytes, blocks corrected, bytes corrected; none where a block is uncorrectable. `n` bounds the
blocks. -/
def decodeString (c : List Nat) : Nat → Option (List Nat × Nat × Nat)
  | 0 => if c.isEmpty then some ([], 0, 0) else none
  | n + 1 =>
    if c.isEmpty then some ([], 0, 0)
    else if c.length < 5 then none
    else
      match correctC2 (c.take 36) with
      | none => none
      | some (b, k) =>
        match decodeString (c.drop 36) n with
        | none => none
        | some (d, blocks, bytes) => some (b.take (b.length - 4) ++ d, blocks + (if k = 0 then 0 else 1), bytes + k)

/-- A payload's bytes, first byte first. -/
def bytesOf (n data : Nat) : List Nat := (List.range n).map fun i => data / 256 ^ i % 256

/-- Bytes as one little-endian number. -/
def ofBytes (l : List Nat) : Nat := l.foldr (fun b (a : Nat) => b + 256 * a) 0

end Sys2Proof.Machine
end

