-- ==== Sys2Proof/Machine/Safe.lean ====
section
/-! DEFINITION. The safety functions: permissions, trips, SAFE-HOLD, groups, and the safe-data codec (spec/10). -/

namespace Sys2Proof.Machine

/-! ### Access -/

/-- A channel. -/
def State.chn (s : State) (c : Chan) : Chn := match c with | .sa => s.safe.sa | .sb => s.safe.sb
/-- A channel replaced. -/
def State.setChn (s : State) (c : Chan) (k : Chn) : State :=
  match c with
  | .sa => { s with safe := { s.safe with sa := k } }
  | .sb => { s with safe := { s.safe with sb := k } }
/-- The other channel. -/
def partnerOf : Chan → Chan | .sa => .sb | .sb => .sa
/-- Bit of a channel in safety.state.chan_fault. -/
def chanBit : Chan → Nat | .sa => 0 | .sb => 1
/-- What the channels hold of an outlet. -/
def State.outSafe (s : State) (o : Nat) : OutSafe := Tab.get s.safe.outs o OutSafe.reset
/-- The same replaced. -/
def State.setOut (s : State) (o : Nat) (k : OutSafe) : State := { s with safe := { s.safe with outs := Tab.set s.safe.outs o k } }
/-- A group. -/
def State.grp (s : State) (g : Nat) : Grp := Tab.get s.safe.groups g Grp.reset
/-- A group replaced. -/
def State.setGrp (s : State) (g : Nat) (k : Grp) : State := { s with safe := { s.safe with groups := Tab.set s.safe.groups g k } }
/-- A channel's view of an outlet head. -/
def Chn.view1 (k : Chn) (o : Nat) : View1 := Tab.get k.v1 o View1.reset
/-- A channel's view of a stage head. -/
def Chn.view3 (k : Chn) (h : Nat) : View3 := Tab.get k.v3 h View3.reset
/-- The settle time of FSA and FSB (spec/10 R265). -/
def settleSafe : Nat := 100000

/-! ### Trip records (spec/10 Table 10-10) -/

/-- The number of the next trip record. -/
def State.nextTrip (s : State) : Nat := (List.range 64).foldl (fun m j => max m (s.get safetyTripSeq j)) 0 + 1

/-- A trip record with its event 0x0C; outlet 0xFF is the site; `slot` the injection it is a consequence of. -/
def State.trip (s : State) (slot : Option Nat) (o cause fn t : Nat) : State :=
  let n := s.nextTrip
  let j := n % 64
  let s := ((s.put safetyTripStamp j t).put safetyTripUtc j (s.legal t)).put safetyTripOutlet j o
  let s := ((s.put safetyTripCause j cause).put safetyTripFunction j fn).put safetyTripSeq j n
  s.eventOn slot 0x0C o cause 0 t

/-! ### Groups (spec/10 R270–R274) -/

/-- The levels of a group's switches in a step: HS and LS. -/
def Grp.hs (k : Grp) : Bool := k.step != 0
def Grp.ls (k : Grp) : Bool := k.step == 2 || k.step == 3

/-- A group taken to a step at `t`: its outputs (SO0_HS land 3, SO0_LS 4, SO1_HS 5, SO1_LS 6) and what safety.so and safety.state show. -/
def State.stepGrp (s : State) (g step t : Nat) : State :=
  let k : Grp := { step := step, at_ := t }
  let s := s.setGrp g k
  let s := ((s.putFlag safetySoHs g k.hs).putFlag safetySoLs g k.ls).put safetySoCond g (if step = 0 then 0 else if step = 1 then 1 else 2)
  let s := s.putBit safetyStateSoOn 0 g (step == 3)
  (s.drive (3 + 2 * g) k.hs).drive (4 + 2 * g) k.ls

/-- Both channels turn a group off. -/
def State.offGrp (s : State) (g t : Nat) : State := if (s.grp g).step = 0 then s else s.stepGrp g 0 t

/-- The functions of a group's so_map. -/
def State.soMap (s : State) (g : Nat) : Nat := if g = 0 then s.get safetyParamSo0Map 0 else s.get safetyParamSo1Map 0

/-- Whether a group may be on (spec/10 R274, R288). -/
def State.groupWanted (s : State) (g : Nat) : Bool :=
  let m := s.soMap g
  !((m.testBit 0 && s.flag safetyStateSf1 0) || (m.testBit 1 && s.flag safetyStateSf2 0)) && s.get safetyStateChanFault 0 == 0
    && !(s.bit safetyStateSoFault 0 g) && s.get modeStateHold 0 == 0 && s.get modeStateMode 0 != 4 && s.flag safetyStateCommitted 0

/-! ### Permission (spec/10 R262, R279) -/

/-- Contactor closing withdrawn (spec/10 R279, R280): a session in Stopping goes to its weld check with the gates off (spec/09 Table 9-5). -/
def State.withdrawClosing (s : State) (o t : Nat) : State :=
  let k := s.outSafe o
  if k.closing = false then s.setOut o { k with closeEnd := none }
  else ((s.setOut o { k with closing := false, closeEnd := none, withdrawnAt := t, noWeld := false, openSince := none }).setStatus o 12 false t).stoppedRest o t

/-- Whether a safety demand on an outlet is in force: SF1, a channel fault, SF2 with the outlet in guard_mask, a stop, a weld, SF6's hold,
SAFE-HOLD. -/
def State.safetyDemand (s : State) (o : Nat) : Bool :=
  s.safe.sa.sf1 || s.safe.sb.sf1 || s.get safetyStateChanFault 0 != 0 || ((s.safe.sa.sf2 || s.safe.sb.sf2) && s.bit safetyParamGuardMask 0 o)
    || (s.outSafe o).stop != 0 || s.bit safetyStateWelded 0 o || (s.outSafe o).held || s.get modeStateHold 0 != 0 || s.get modeStateMode 0 == 4

/-- Whether a converter's gates are off or turning off: OFF, DISCHARGE, BACKOFF, HELD. -/
def State.convQuiet (s : State) (c : Nat) : Bool := [0, 6, 7, 8].contains (s.convState c)

/-- The two channels' grants combined for an outlet: a fall of the permission stops the converter at once and starts t_cd; a rise lets
PRECHECK end. A fall with the gates off already and no safety demand is a stop's own consequence, the passed bits cleared by it, and no cause
0x0D (spec/05 R151, R163, notes/assumptions/25.md). -/
def State.combine (s : State) (o t : Nat) : State :=
  let now := s.safe.sa.permit.testBit o && s.safe.sb.permit.testBit o
  let s :=
    if s.bit safetyStatePermit 0 o = now then s
    else if now then (s.putBit safetyStatePermit 0 o true).precheckDone o t
    else
      let s := s.putBit safetyStatePermit 0 o false
      let s := if s.convQuiet o && !(s.safetyDemand o) then s else s.immediateStop o 0x0D 0 t
      let k := s.outSafe o
      if k.closing then s.setOut o { k with closeEnd := some (t + s.get safetyParamTCd 0 * 1000000) } else s
  let un := s.safe.sa.unlock.testBit o && s.safe.sb.unlock.testBit o
  if s.bit safetyStateUnlock 0 o = un then s else (s.putBit safetyStateUnlock 0 o un).setStatus o 13 un t

/-- A channel withdraws the permission of an outlet. -/
def State.withdrawBy (s : State) (c : Chan) (o t : Nat) : State :=
  (s.setChn c { s.chn c with permit := withBit (s.chn c).permit o false }).combine o t

/-- Both channels withdraw every permission. -/
def State.withdrawAll (s : State) (t : Nat) : State :=
  let s := { s with safe := { s.safe with sa := { s.safe.sa with permit := 0 }, sb := { s.safe.sb with permit := 0 } } }
  outlets.foldl (fun s o => s.combine o t) s

/-! ### SAFE-HOLD (spec/10 R286, spec/16 R430, R431) -/

/-- A cause of SAFE-HOLD (0 SF1, 1 channel fault, 2 group fault, 3 thermal): stored, everything withdrawn, both groups off, the
battery converter stopped with cause 0x0D, the mode entered from every other; a watchdog loop stays in BOOT (spec/16 R442). -/
def State.enterSafeHold (s : State) (cause t : Nat) : State :=
  let s := (s.putBit modeStateHold 0 cause true).put safetyStateHold 0 1
  let s := { s with safe := { s.safe with clearAt := Tab.del s.safe.clearAt cause } }
  let s := ((s.withdrawAll t).offGrp 0 t).offGrp 1 t
  let s := if s.convIdle 12 ∨ s.convState 12 = 6 then s else s.immediateStop 12 0x0D 0 t
  let m := s.get modeStateMode 0
  if m == 4 || (m == 0 && s.sup.wdLoop) then s
  else s.moveMode 4 (if m = 0 then 2 else 12) 0xFF 0 t

/-- The temperature shutdown is over as SAFE-HOLD is left: the accumulators it froze run again unless a power-fail warning stands
(spec/06 R183, R184, notes/assumptions/33.md). -/
def State.endThermal (s : State) (t : Nat) : State :=
  if s.get thermStateThermal 0 ≠ 2 then s
  else
    let s := s.put thermStateThermal 0 0
    let s := { s with cool := { s.cool with stopAt := none } }
    if s.sup.warn.isSome then s else s.resume t t

/-- SAFE-HOLD is left once no cause is held: STANDBY, every outlet permitted again only in OFF (spec/10 R286, spec/16 R430). -/
def State.leaveHold (s : State) (port role t : Nat) : State :=
  if s.get modeStateHold 0 ≠ 0 ∨ s.get modeStateMode 0 ≠ 4 then s
  else
    let s := s.endThermal t
    let s := outlets.foldl (fun s o => s.setOut o { s.outSafe o with after := true }) (s.put safetyStateHold 0 0)
    s.moveMode 1 13 port role t

/-- A channel fault (spec/10 R264). -/
def State.channelFault (s : State) (c : Chan) (cause t : Nat) : State :=
  if s.bit safetyStateChanFault 0 (chanBit c) then s
  else ((s.putBit safetyStateChanFault 0 (chanBit c) true).trip none 0xFF cause 0 t).enterSafeHold 1 t

/-- A group fault (spec/10 R273). -/
def State.groupFault (s : State) (g t : Nat) : State :=
  if s.bit safetyStateSoFault 0 g then s
  else
    let s := (s.offGrp g t).putBit safetyStateSoFault 0 g true
    ((s.put safetySoFault g 1).trip none 0xFF 0x0E 0 t).enterSafeHold 2 t

/-! ### Demands on one outlet (spec/10 R279–R281) -/

/-- An SF3 or SF5 demand on an outlet: recorded, both channels withdraw. -/
def State.demandStop (s : State) (o bit t : Nat) : State :=
  let k := s.outSafe o
  let s := s.setOut o { k with stop := withBit k.stop bit true }
  ((s.putBit safetyStateStopped 0 o true).withdrawBy .sa o t).withdrawBy .sb o t

/-- The receiving side of an outlet's kind-1 stream and of a head's kind-3 stream. -/
def State.recv1 (s : State) (o : Nat) : Recv := Tab.get s.safe.recv1 o Recv.reset
def State.recv3 (s : State) (h : Nat) : Recv := Tab.get s.safe.recv3 h Recv.reset
def State.setRecv1 (s : State) (o : Nat) (r : Recv) : State := { s with safe := { s.safe with recv1 := Tab.set s.safe.recv1 o r } }
def State.setRecv3 (s : State) (h : Nat) (r : Recv) : State := { s with safe := { s.safe with recv3 := Tab.set s.safe.recv3 h r } }

/-- Whether a stream is current: something was accepted and its safe state is not in force. -/
def Recv.current (r : Recv) : Bool := r.last.isSome && !r.out

/-- Whether the demand of a stop bit has gone (spec/10 Table 10-5). -/
def State.demandGone (s : State) (o bit : Nat) : Bool :=
  match bit with
  | 0 => (s.page o).request != 5
  | 1 => !((s.safe.sa.view1 o).st.testBit 2) && !((s.safe.sb.view1 o).st.testBit 2)
  | 3 => !(s.recv1 o).out && (s.stageHeads o).all fun h => !(s.recv3 h).out
  | 5 => (s.outSafe o).closing == false
  | 6 => true
  | _ => false

/-- SF5 has ended: the converter is released and every stage head has passed a new self-test with no trip latched. -/
def State.tripOver (s : State) (o : Nat) : Bool :=
  decide (s.convState o ≤ 1) && (s.stageHeads o).all fun h =>
    [s.safe.sa, s.safe.sb].all fun k => !((k.view3 h).st.testBit 1) && (k.view3 h).st.testBit 2

/-- Stops that have ended are cleared: SF3 with the demand gone, the converter OFF and the session Idle; SF5 as `tripOver` says. -/
def State.endStops (s : State) (o : Nat) : State :=
  let k := s.outSafe o
  let quiet := s.convState o == 0 && (s.sess o).st == 0
  let left := [0, 1, 2, 3, 4, 5, 6].foldl (fun (m : Nat) b =>
    if k.stop.testBit b && (if b = 4 then s.tripOver o else quiet && s.demandGone o b) then withBit m b false else m) k.stop
  (s.setOut o { k with stop := left }).putBit safetyStateStopped 0 o (left != 0)

/-- Whether channel `c` grants outlet `o` (spec/10 R279, R275, R286). -/
def State.permits (s : State) (c : Chan) (o : Nat) : Bool :=
  let k := s.chn c
  let heads := s.stageHeads o
  s.flag safetyStateCommitted 0 && !k.sf1 && s.get safetyStateChanFault 0 == 0 && !(k.sf2 && s.bit safetyParamGuardMask 0 o)
    && (s.outSafe o).stop == 0 && !(s.bit safetyStateWelded 0 o) && s.get safetyOutletCanCh o != 0xFF && (s.outletHead o).isSome
    && (s.recv1 o).current && !heads.isEmpty && heads.all (fun h => (s.recv3 h).current && (k.view3 h).st.testBit 2)
    && !(s.outSafe o).held && s.get modeStateHold 0 == 0 && s.get modeStateMode 0 != 4
    && (!(s.outSafe o).after || s.convState o == 0)

/-- Whether channel `c` grants the unlock of outlet `o` (spec/10 R282, R285). -/
def State.unlocks (s : State) (c : Chan) (o : Nat) : Bool :=
  let k := s.chn c
  decide (2 ≤ (k.view1 o).clear) && (s.outSafe o).noWeld && !(s.bit safetyStateWelded 0 o)
    && (s.stageHeads o).all fun h => (k.view3 h).st.testBit 0

/-! ### Safe-data items (spec/10 R275–R278) -/

/-- One bit of CRC-16, polynomial 0x1021, MSB first. -/
def crcBit (r : Nat) : Nat := if 0x8000 ≤ r then ((2 * r) % 65536) ^^^ 0x1021 else 2 * r

/-- One byte of CRC-16. -/
def crcByte (r b : Nat) : Nat := (List.range 8).foldl (fun (x : Nat) _ => crcBit x) ((r ^^^ (b * 256)) % 65536)

/-- CRC-16 of bytes from a start value (spec/10 R276). -/
def crc16 (start : Nat) (l : List Nat) : Nat := l.foldl crcByte start

/-- Byte `n` of an item. -/
def itemByte (item n : Nat) : Nat := item / 256 ^ n % 256

/-- A 16-bit CRC as it lies in two bytes, high byte first. -/
def crcBytes (crc : Nat) : Nat := crc / 256 + crc % 256 * 256

/-- A kind-0 or kind-2 item (spec/10 Table 10-3). -/
def cmdItem (kind id seq a b : Nat) : Nat :=
  let h := kind * 64 + id
  h + seq * 2 ^ 8 + a * 2 ^ 16 + b * 2 ^ 24 + crcBytes (crc16 0x5A5A [h, seq, a]) * 2 ^ 32 + crcBytes (crc16 0xA5A5 [h, seq, b]) * 2 ^ 48

/-- Whether the CRC of a kind-1 or kind-3 item is right. -/
def itemGood (item : Nat) : Bool :=
  item / 2 ^ 48 % 65536 == crcBytes (crc16 0xFFFF ((List.range 6).map (itemByte item)))

/-- The injection a safe-data event of an outlet is a consequence of: one on its CAN channel or on an avenue of its heads. -/
def State.safeSlot (s : State) (o t : Nat) : Option Nat :=
  match s.provoked 5 (s.get safetyOutletCanCh o) t with
  | some j => some j
  | none => ((s.convHeads o).filterMap fun h => s.provokedAvenue (h / 8) t).head?

/-- A counter of safety.state, or diag.inj_stats.safety for a consequence (spec/18 R478). -/
def State.countSafe (s : State) (slot : Option Nat) (f : Fld) : State :=
  if slot.isSome then s.inc injStatsSafety 0 1 else s.inc f 0 1

/-- Something put before both channels, to be taken at their next cycles (spec/10 R261, R265). -/
def State.toChannels (s : State) (x : SafeIn) (t : Nat) : State :=
  let s := s.setChn .sa { s.safe.sa with inbox := s.safe.sa.inbox ++ [(t, x)] }
  s.setChn .sb { s.safe.sb with inbox := s.safe.sb.inbox ++ [(t, x)] }

/-- An outlet's stream falls to its safe state at `t`, with the trip's cause and the counter it adds to (spec/10 R277, R278). -/
def State.streamFails (s : State) (o cause : Nat) (f : Fld) (t : Nat) : State :=
  let slot := s.safeSlot o t
  ((s.countSafe slot f).trip slot o cause 3 t).toChannels (.fail o) t

end Sys2Proof.Machine
end

