-- ==== Sys2Proof/Machine/SafeRows.lean ====
section
/-! DEFINITION. Meanings of the safety channels' events (spec/10). -/

namespace Sys2Proof.Machine

/-! ### The cycle: inputs (spec/10 R261, R266–R269) -/

/-- One land after a sample (spec/10 R267): the filter follows after `n` contrary samples in a row. -/
def filterLand (n : Nat) (k : Chn) (i : Nat) (level : Bool) : Chn :=
  if k.lvl.testBit i = level then { k with cnt := Tab.set k.cnt i 0 }
  else
    let m := Tab.get k.cnt i 0 + 1
    if n ≤ m then { k with lvl := withBit k.lvl i level, cnt := Tab.set k.cnt i 0 } else { k with cnt := Tab.set k.cnt i m }

/-- The five lands by number: ESTOP_A, ESTOP_B, GUARD_A, GUARD_B, SRESET. -/
def landLevels (l : SafeLands) : List Bool := [l.estopA, l.estopB, l.guardA, l.guardB, l.sreset]

/-- A channel's samples taken: at its start each filter begins at the level of the first sample. -/
def Chn.sample (k : Chn) (n : Nat) (levels : List Bool) : Chn :=
  if k.started = false then
    { k with started := true, lvl := levels.zipIdx.foldl (fun (m : Nat) p => withBit m p.2 p.1) 0 }
  else levels.zipIdx.foldl (fun (k : Chn) p => filterLand n k p.2 p.1) k

/-- Whether both lands of pair `p` read high; both low. -/
def Chn.bothHigh (k : Chn) (p : Nat) : Bool := k.lvl.testBit (2 * p) && k.lvl.testBit (2 * p + 1)
def Chn.bothLow (k : Chn) (p : Nat) : Bool := !(k.lvl.testBit (2 * p)) && !(k.lvl.testBit (2 * p + 1))
/-- Whether pair `p` is healthy: both low and no discrepancy (spec/10 R267, R268). -/
def Chn.healthy (k : Chn) (p : Nat) : Bool := k.bothLow p && !(k.disc.testBit p)

/-- Pair `p` judged after a sample at `t`: since when its lands differ, the way out of a discrepancy, since when it is healthy. -/
def Chn.judgePair (k : Chn) (p t : Nat) : Chn :=
  let same := k.bothHigh p || k.bothLow p
  let k := { k with diff := if same then Tab.del k.diff p else Tab.set k.diff p (Tab.get k.diff p t) }
  let k :=
    if k.disc.testBit p = false then k
    else if k.bothHigh p then { k with prog := Tab.set k.prog p 1 }
    else if k.bothLow p && Tab.get k.prog p 0 == 1 then { k with disc := withBit k.disc p false, prog := Tab.set k.prog p 0 }
    else k
  { k with okAt := if k.healthy p then Tab.set k.okAt p (Tab.get k.okAt p t) else Tab.del k.okAt p }

/-- SRESET's filtered edges (spec/10 R269). -/
def Chn.judgeReset (k : Chn) (was : Bool) (t : Nat) : Chn :=
  let now := k.lvl.testBit 4
  if was = now then k
  else if now = false then { k with fall := some t, edge := none }
  else match k.fall with
    | none => k
    | some f => { k with fall := none, edge := if f + 50000000 ≤ t ∧ t ≤ f + 5000000000 then some t else none }

/-- SF1 and SF2 of a channel: latched while demanded; SF2 ends by itself where guard_reset says so (spec/10 Table 10-5). -/
def Chn.judgeFunctions (k : Chn) (auto : Bool) (t : Nat) : Chn :=
  let sf2 := if k.healthy 1 then k.sf2 && !(auto && decide (Tab.get k.okAt 1 t + 1000000000 ≤ t)) else true
  { k with sf1 := k.sf1 || !(k.healthy 0), sf2 := sf2 }

/-- What safety.state shows of inputs, discrepancies and functions. -/
def State.showInputs (s : State) : State :=
  let v := s.safe.sa.lvl ||| s.safe.sb.lvl
  let shown := (List.range 5).foldl (fun (m : Nat) i => withBit m (4 - i) (v.testBit i)) 0
  let s := (s.put safetyStateInputs 0 shown).put safetyStateDisc 0 (s.safe.sa.disc ||| s.safe.sb.disc)
  (s.putFlag safetyStateSf1 0 (s.safe.sa.sf1 || s.safe.sb.sf1)).putFlag safetyStateSf2 0 (s.safe.sa.sf2 || s.safe.sb.sf2)

/-- Onsets of SF1 and SF2 seen against what was shown before: trip records, groups, outlets, SAFE-HOLD. -/
def State.functionsBegin (s : State) (sf1 sf2 : Bool) (t : Nat) : State :=
  let s :=
    if s.flag safetyStateSf2 0 && !sf2 then s.trip none 0xFF 0x03 2 t else s
  if s.flag safetyStateSf1 0 && !sf1 then (s.trip none 0xFF 0x01 1 t).enterSafeHold 0 t else s

/-- An SRESET edge that both channels accepted (spec/10 R269, spec/16 R430): it ends SF2 (with guard_reset 0) and every cause of SAFE-HOLD whose preconditions
were met before it. -/
def State.resetEdge (s : State) (ea eb t : Nat) : State :=
  let a := s.safe.sa
  let b := s.safe.sb
  let met (p : Nat) : Bool := a.healthy p && b.healthy p && decide (Tab.get a.okAt p t < ea) && decide (Tab.get b.okAt p t < eb)
  let end2 := met 1 && !(s.flag safetyParamGuardReset 0)
  let end1 := met 0
  let s := { s with safe := { s.safe with sa := { a with edge := none, sf1 := a.sf1 && !end1, sf2 := a.sf2 && !end2 },
                                          sb := { b with edge := none, sf1 := b.sf1 && !end1, sf2 := b.sf2 && !end2 } } }
  let s := s.showInputs
  let cleared (n : Nat) : Bool := (Tab.find s.safe.clearAt n).any fun c => decide (c < min ea eb)
  let hold := s.get modeStateHold 0
  let left := (List.range 4).foldl (fun (m : Nat) n => if (if n = 0 then end1 else cleared n) then withBit m n false else m) hold
  let s := s.put modeStateHold 0 left
  if hold ≠ 0 then s.leaveHold 0xFF 0 t else s

/-- The edges of both channels paired: the same edge where they lie less than 50 ms apart. -/
def State.pairEdges (s : State) (t : Nat) : State :=
  match s.safe.sa.edge, s.safe.sb.edge with
  | some a, some b => if a < b + 50000000 ∧ b < a + 50000000 then s.resetEdge a b t else s
  | _, _ => s

/-! ### The cycle: safe data (spec/10 R277, R280–R285) -/

/-- SF4 finds an outlet welded (spec/10 R280). -/
def State.weld (s : State) (o t : Nat) : State :=
  if s.bit safetyStateWelded 0 o then s
  else
    let s := (s.putBit safetyStateWelded 0 o true).trip none o 0x0A 4 t
    ((s.setStatus o 11 true t).withdrawBy .sa o t).withdrawBy .sb o t

/-- PRECHARGE to RUN: the session reports Transfer by request 3 and the contactors are closed (spec/05 Table 5-4). -/
def State.runIfClosed (s : State) (o t : Nat) : State :=
  if s.convState o = 3 ∧ (s.page o).request = 3 ∧ s.status o 8 then (s.enterState o 4 t).sendCommands o else s

/-- Both contactors reported closed in what both channels accepted: status [8]. -/
def State.showContactors (s : State) (o t : Nat) : State :=
  let s := s.ctlDue o t
  (s.setStatus o 8 ((s.safe.sa.view1 o).st % 4 == 3 && (s.safe.sb.view1 o).st % 4 == 3) t).runIfClosed o t

/-- Contactor feedback seen in an accepted or first copy stamped `t`: welding, and a contactor open while closing is granted. -/
def State.seeFeedback (s : State) (o old fb t : Nat) : State :=
  let k := s.outSafe o
  if k.closing then s.setOut o { k with openSince := if fb = 3 then none else some (k.openSince.getD t) }
  else if fb ≠ 0 ∧ (k.withdrawnAt + 100000000 ≤ t ∨ fb &&& (3 - old) ≠ 0) then s.weld o t
  else s

/-- A vehicle emergency stop in kind 1 (spec/10 Table 10-5). -/
def State.seeEmergency (s : State) (o st t : Nat) : State :=
  if st.testBit 2 && !((s.outSafe o).stop.testBit 1) then (s.trip none o 0x06 3 t).demandStop o 1 t else s

/-- The stamp since which every stage head of an outlet confirms gates off in a channel's view. -/
def State.seeGates (s : State) (c : Chan) (o t : Nat) : State :=
  let heads := s.stageHeads o
  let off := !heads.isEmpty && heads.all fun h => ((s.chn c).view3 h).st.testBit 0
  let k := s.outSafe o
  s.setOut o { k with gatesAt := if off then some (k.gatesAt.getD t) else none, discharged := off && k.discharged }

/-- SF5 on a kind-3 item of head `h` with the trip latched (spec/10 R281); the converter stops with cause 0x0A (spec/05 R163). -/
def State.seeTrip (s : State) (o h st t : Nat) : State :=
  if st.testBit 1 = false ∨ (s.outSafe o).stop.testBit 4 then s
  else
    let s := s.immediateStop o 0x0A h t
    if st.testBit 0 then s.demandStop o 4 t
    else ((s.trip none o 0x0B 5 t).demandStop o 4 t).withdrawClosing o t

/-- The outlets that a head serves as stage head. -/
def State.outletsOfStage (s : State) (h : Nat) : List Nat := outlets.filter fun o => (s.stageHeads o).contains h

/-- A channel takes one thing stamped `at_` in its cycle. Of a first copy only what restricts counts: a contactor open, an emergency stop, the
head in its safe state (spec/10 R277). -/
def State.takeSafe (s : State) (c : Chan) (at_ : Nat) (x : SafeIn) : State :=
  match x with
  | .fail o => s.demandStop o 3 at_
  | .first o st =>
    let k := s.chn c
    let v := k.view1 o
    let fb := st % 4
    let w := { v with fb := fb, st := (v.st % 4 &&& fb) + (v.st ||| st) / 4 * 4, clear := (if fb = 0 then v.clear else 0) }
    let s := s.setChn c { k with v1 := Tab.set k.v1 o w }
    ((s.seeFeedback o v.fb fb at_).seeEmergency o st at_).showContactors o at_
  | .item1 o st vConn vConv =>
    let k := s.chn c
    let v := k.view1 o
    let fb := st % 4
    let dead := decide (fb = 0) && decide (vConn ≤ 11) && decide (vConv ≤ 11)
    let s := s.setChn c { k with v1 := Tab.set k.v1 o { st := st, vConn := vConn, vConv := vConv, fb := fb,
                                                        clear := if dead then min 2 (v.clear + 1) else 0, at_ := some at_ } }
    let s := ((s.seeFeedback o v.fb fb at_).seeEmergency o st at_).showContactors o at_
    let r := s.outSafe o
    let s := if r.held && s.convState o != 8 && decide (vConv ≤ 11) then s.setOut o { r with held := false } else s
    let r := s.outSafe o
    let s := if r.gatesAt.isSome && decide (vConv ≤ 11) then s.setOut o { r with discharged := true } else s
    let r := s.outSafe o
    let gap := if vConn ≤ vConv then vConv - vConn else vConn - vConv
    if r.closing = false ∧ r.noWeld = false ∧ fb = 0 ∧ (vConv ≤ 11 ∨ 10 ≤ gap) ∧ s.bit safetyStateWelded 0 o = false then
      (s.setOut o { r with noWeld := true }).setStatus o 12 true at_
    else s
  | .item3 h st =>
    let k := s.chn c
    let s := s.setChn c { k with v3 := Tab.set k.v3 h { st := st, at_ := some at_ } }
    (s.outletsOfStage h).foldl (fun s o => (s.seeGates c o at_).seeTrip o h st at_) s

/-- A channel takes what was accepted at least the settle time before its cycle started (spec/10 R261, R265). -/
def State.takeInbox (s : State) (c : Chan) (t : Nat) : State :=
  let k := s.chn c
  let due := k.inbox.filter fun e => decide (e.1 + settleSafe ≤ t)
  let s := s.setChn c { k with inbox := k.inbox.filter fun e => !decide (e.1 + settleSafe ≤ t) }
  due.foldl (fun s e => s.takeSafe c e.1 e.2) s

/-! ### The cycle: evaluation (spec/10 R262, R263, R273, R274, R279) -/

/-- A channel evaluates one outlet. -/
def State.evaluate (s : State) (c : Chan) (t o : Nat) : State :=
  let s := s.endStops o
  let ok := s.permits c o
  let un := s.unlocks c o
  let k := s.chn c
  let s := s.setChn c { k with permit := withBit k.permit o ok, unlock := withBit k.unlock o un, close := withBit k.close o (s.outSafe o).closing }
  let s := s.combine o t
  if (s.outSafe o).after && s.convState o == 0 then s.setOut o { s.outSafe o with after := false } else s

/-- The partner's latest record compared with a channel's own (spec/10 R263): three differing records in a row, or a cycle count more than 15 %
off over 1 s, are a channel fault. -/
def State.compare (s : State) (c : Chan) (t : Nat) : State :=
  let k := s.chn c
  let p := s.chn (partnerOf c)
  if p.started = false then s
  else
    let bad := k.lvl != p.lvl || k.permit != p.permit
    let n := if bad then k.diffs + 1 else 0
    let whole := decide (k.winAt + 1000000000 ≤ t)
    let own := k.cycles - k.winOwn
    let other := p.cycles - k.winOther
    let gap := if own ≤ other then other - own else own - other
    let drift := whole && k.winAt != 0 && decide (15 * own < 100 * gap)
    let s := s.setChn c { k with diffs := n, winAt := if whole then t else k.winAt, winOwn := if whole then k.cycles else k.winOwn,
                                 winOther := if whole then p.cycles else k.winOther }
    let s := if bad && decide (n < 3) then s.inc safetyStateXcmp 0 1 else s
    if n = 3 ∨ drift then s.channelFault c 0x0D t else s

/-- Expected feedback of a step (spec/10 Table 10-1): HFB, LFB. -/
def expectedFb (step : Nat) : Bool × Bool := if step = 0 then (false, false) else if step = 1 then (true, true) else (true, false)

/-- A channel looks at a group's feedback and turns it on or off (spec/10 R271, R273, R274); SA begins the switching on. -/
def State.runGroup (s : State) (c : Chan) (hfb lfb : List Bool) (t g : Nat) : State :=
  let h := hfb.getD g false
  let l := lfb.getD g false
  let s := (s.putFlag safetySoHfb g h).putFlag safetySoLfb g l
  let k := s.grp g
  if k.at_ + 150000 ≤ t ∧ (h, l) ≠ expectedFb k.step then s.groupFault g t
  else if s.groupWanted g = false then s.offGrp g t
  else if k.step = 0 ∧ c = .sa then s.stepGrp g 1 t
  else s

/-- SAFETY_CYCLE (spec/10 R261): sampling, items, evaluation, outputs; `sramBad` an uncorrectable block in the channel's SRAM, `paramBad` the
active set failing its CRC. -/
def execSafetyCycle (t : Nat) (ch : Chan) (lands : SafeLands) (sramBad paramBad : Bool) (s : State) : Res :=
  let s := s.at t
  if s.sup.bootStep < 4 then .next s
  else
    let s := if sramBad then (s.countBlock (35 + chanBit ch) .uncorrectable 0 t).channelFault ch 0x10 t else s
    let s := if paramBad && s.flag safetyStateCommitted 0 then s.channelFault ch 0x0F t else s
    let k := s.chn ch
    let was := k.lvl.testBit 4
    let n := max 2 (min 8 (s.get safetyParamNFilt 0))
    let first := !k.started
    let k := ((k.sample n (landLevels lands)).judgePair 0 t).judgePair 1 t
    let k := if first then k else k.judgeReset was t
    let k := k.judgeFunctions (s.flag safetyParamGuardReset 0) t
    let k := { k with cycles := k.cycles + 1, at_ := t, winAt := if first then t else k.winAt }
    let sf1 := s.flag safetyStateSf1 0
    let sf2 := s.flag safetyStateSf2 0
    let s := if (s.chn ch).lvl.testBit 4 && !(k.lvl.testBit 4) then s.put safetyStateStuck 0 0 else s
    let s := ((s.setChn ch k).showInputs).functionsBegin sf1 sf2 t
    let s := (s.pairEdges t).takeInbox ch t
    let s := outlets.foldl (fun s o => s.evaluate ch t o) s
    let s := s.compare ch t
    .next ([0, 1].foldl (fun s g => s.runGroup ch lands.hfb lands.lfb t g) s)

/-! ### Deadlines (spec/10 R263, R268, R269) -/

/-- PARTNER_RECORD_TIMEOUT: no record from the partner for 3 ms. -/
def execPartnerRecordTimeout (t : Nat) (ch : Chan) (s : State) : Res :=
  let s := s.at t
  let k := s.chn ch
  let p := s.chn (partnerOf ch)
  let due := if p.started then decide (p.at_ + 3000000 ≤ t) else decide (3 ≤ k.cycles)
  if k.started && due then .next (s.channelFault ch 0x0D t) else .next s

/-- DISCREPANCY: a pair's filtered levels have differed for longer than 50 ms. -/
def execDiscrepancy (t : Nat) (guard : Bool) (s : State) : Res :=
  let s := s.at t
  let p := if guard then 1 else 0
  let late (k : Chn) : Bool := !(k.disc.testBit p) && (Tab.find k.diff p).any fun d => decide (d + 50000000 < t)
  if !(late s.safe.sa) && !(late s.safe.sb) then .next s
  else
    let mark (k : Chn) : Chn :=
      if late k then
        { k with disc := withBit k.disc p true, prog := Tab.set k.prog p 0, okAt := Tab.del k.okAt p, sf1 := k.sf1 || !guard, sf2 := k.sf2 || guard }
      else k
    let sf1 := s.flag safetyStateSf1 0
    let sf2 := s.flag safetyStateSf2 0
    let s := { s with safe := { s.safe with sa := mark s.safe.sa, sb := mark s.safe.sb } }
    let s := s.showInputs.trip none 0xFF (if guard then 0x04 else 0x02) (if guard then 2 else 1) t
    .next (s.functionsBegin sf1 sf2 t)

/-- SRESET_STUCK: a filtered low longer than 5 s; flagged, and the rising edge that ends it is ignored. -/
def execSresetStuck (t : Nat) (s : State) : Res :=
  let s := s.at t
  let late (k : Chn) : Bool := k.fall.any fun f => decide (f + 5000000000 < t)
  if (!(late s.safe.sa) && !(late s.safe.sb)) ∨ s.flag safetyStateStuck 0 then .next s
  else .next ((s.put safetyStateStuck 0 1).trip none 0xFF 0x11 0 t)

/-! ### Safe outputs (spec/10 R271, R272) -/

/-- SO_SWITCH_ON_CHECK: 200 µs after HS, and 200 µs after LS. -/
def execSoSwitchOnCheck (t : Nat) (g : Fin 2) (hfb lfb : Bool) (s : State) : Res :=
  let s := s.at t
  let k := s.grp g
  let s := if k.step = 0 then s else (s.putFlag safetySoHfb g hfb).putFlag safetySoLfb g lfb
  if t < k.at_ + 200000 then .next s
  else if k.step = 1 then .next (if hfb && lfb then s.stepGrp g 2 t else s.groupFault g t)
  else if k.step = 2 then .next (if lfb = false then s.stepGrp g 3 t else s.groupFault g t)
  else .next s

/-- DARK_TEST: the high switch of a group that is on at each whole second of SA's cycle count, the low switch 500 ms later: the switch off and on
again, the feedback as Table 10-1 has it in between. -/
def execDarkTest (t : Nat) (g : Fin 2) (high : Bool) (hfb lfb : Bool) (s : State) : Res :=
  let s := s.at t
  if (s.grp g).step ≠ 3 ∨ s.safe.sa.cycles % 1000 ≠ (if high then 0 else 500) then .next s
  else
    let land := (if high then 3 else 4) + 2 * g.val
    let s := (s.drive land false).drive land true
    if (hfb, lfb) = (if high then (false, false) else (true, true)) then .next (s.incWrap safetySoTests g 1)
    else .next (s.groupFault g t)

/-! ### Safe data (spec/10 R275–R278) -/

/-- Accepts an item of a stream: last number, stamp, discards cleared, safe state left. -/
def Recv.accept (r : Recv) (seq t : Nat) : Recv :=
  let newer := match r.last with | none => true | some l => decide ((seq + 256 - l) % 256 < 128)
  { r with last := if newer then some seq else r.last, discards := 0, okAt := t, out := false }

/-- A stream in its safe state: the next item is taken as a first one (notes/assumptions/25.md). -/
def Recv.fail (r : Recv) : Recv := { r with last := none, discards := 0, out := true }

/-- Whether a number may follow the last accepted one: 1–8 ahead, or any after a failure or at the start (spec/10 R276). -/
def Recv.follows (r : Recv) (seq : Nat) : Bool :=
  match r.last with
  | none => true
  | some l => let d := (seq + 256 - l) % 256; decide (1 ≤ d) && decide (d ≤ 8)

/-- A kind-1 item. -/
def State.item1 (s : State) (net : Sys2Proof.Net) (o seq item t : Nat) : State :=
  let r := s.recv1 o
  let st := itemByte item 2
  let take (s : State) : State := s.toChannels (.item1 o st (itemByte item 3) (itemByte item 4)) t
  let alone := s.get safetyOutletCanCh o == 0xFF
  if alone && net == .can then s
  else match r.pends.find? fun p => p.seq == seq with
    | some p =>
      if p.net = net ∨ p.t1 + 5000000 < t then s
      else
        let r := { r with pends := r.pends.filter fun x => x.seq != seq }
        if p.item = item then take (s.setRecv1 o (r.accept seq t))
        else (s.setRecv1 o r.fail).streamFails o 0x08 safetyStateSdMismatch t
    | none =>
      if r.follows seq then
        if alone then take (s.setRecv1 o (r.accept seq t))
        else
          let s := s.setRecv1 o { r with discards := 0, pends := r.pends ++ [{ net := net, seq := seq, item := item, t1 := t, gone := false }] }
          s.toChannels (.first o st) t
      else if r.last = some seq then s
      else if 3 ≤ r.discards + 1 then (s.setRecv1 o r.fail).streamFails o 0x09 safetyStateSdAbsent t
      else s.setRecv1 o { r with discards := r.discards + 1 }

/-- A kind-3 item. -/
def State.item3 (s : State) (h seq item t : Nat) : State :=
  let r := s.recv3 h
  if r.follows seq then (s.setRecv3 h (r.accept seq t)).toChannels (.item3 h (itemByte item 2)) t
  else if r.last = some seq then s
  else if 3 ≤ r.discards + 1 then
    (s.outletsOfStage h).foldl (fun s o => s.streamFails o 0x09 safetyStateSdAbsent t) (s.setRecv3 h r.fail)
  else s.setRecv3 h { r with discards := r.discards + 1 }

/-- What the channels hold of a stream: 0–11 is kind 1 of an outlet, 12 + h kind 3 of a head. -/
def State.streamOf (s : State) (stream : Nat) : Recv := if stream < 12 then s.recv1 stream else s.recv3 (stream - 12)

/-- A stream from which nothing was accepted for 30 ms: its safe state and the stop of its outlets (spec/10 R278). -/
def State.streamLost (s : State) (stream t : Nat) : State :=
  let r := s.streamOf stream
  if stream < 12 then (s.setRecv1 stream r.fail).streamFails stream 0x09 safetyStateSdAbsent t
  else (s.outletsOfStage (stream - 12)).foldl (fun s o => s.streamFails o 0x09 safetyStateSdAbsent t) (s.setRecv3 (stream - 12) r.fail)

/-- SAFE_DATA_ITEM: a copy of a kind-1 or kind-3 item from one network; a wrong CRC discards it. One stamped after the stream's 30 ms meets
the stream lost, whichever is evaluated first (spec/03 R99). A CAN copy passes the injections on its channel (spec/18 R473). -/
def execSafeDataItem (t : Nat) (net : Sys2Proof.Net) (item : BitVec 64) (s : State) : Res :=
  let x := item.toNat
  let ch := s.get safetyOutletCanCh (itemByte x 0 % 64)
  let a := if net = .can ∧ ch < 4 then (s.at t).canUnit ch t else (false, s.at t)
  let s := a.2
  let kind := itemByte x 0 / 64
  let id := itemByte x 0 % 64
  let inTime (stream : Nat) : State :=
    let r := s.streamOf stream
    if r.current ∧ r.okAt + 30000000 < t then s.streamLost stream t else s
  if a.1 ∨ itemGood x = false then .next s
  else if kind = 1 ∧ id < 12 then .next ((inTime id).item1 net id (itemByte x 1) x t)
  else if kind = 3 ∧ id < 48 ∧ net = .avenue then .next ((inTime (12 + id)).item3 id (itemByte x 1) x t)
  else .next s

/-- SAFE_DATA_ABSENCE: no partner stamped by t1 + 5 ms; judged the settle time later, stamped t1 + 5 ms. -/
def execSafeDataAbsence (t : Nat) (o : Fin 12) (s : State) : Res :=
  let s := s.at t
  let r := s.recv1 o
  let late := r.pends.filter fun p => decide (p.t1 + 5000000 + settleSafe ≤ t)
  let s := if late.isEmpty then s
    else s.setRecv1 o { r.fail with pends := r.pends.filter fun p => !decide (p.t1 + 5000000 + settleSafe ≤ t) }
  .next (late.foldl (fun s p => s.streamFails o 0x09 safetyStateSdAbsent (p.t1 + 5000000)) s)

/-- SAFE_DATA_WATCHDOG: nothing accepted from a stream for 30 ms and the settle time of the channels (spec/10 R265, R278). -/
def execSafeDataWatchdog (t : Nat) (stream : Nat) (s : State) : Res :=
  let s := s.at t
  let r := s.streamOf stream
  .next (if r.current = false ∨ 60 ≤ stream ∨ t < r.okAt + 30000000 + settleSafe then s else s.streamLost stream t)

/-- The command bits of a channel for an outlet head (spec/10 Table 10-3 kind 0). -/
def State.cmd0 (s : State) (c : Chan) (o : Nat) : Nat :=
  if s.get safetyOutletCanCh o = 0xFF then 0
  else (if (s.chn c).permit.testBit o then 1 else 0) + (if (s.outSafe o).closing then 2 else 0) + (if (s.chn c).unlock.testBit o then 4 else 0)

/-- The command bits of a channel for a stage head (kind 2): battery stage heads are gated by SAFE-HOLD alone. -/
def State.cmd2 (s : State) (c : Chan) (h : Nat) : Nat :=
  let on := if (s.stageHeads 12).contains h then s.get modeStateHold 0 == 0 && s.get modeStateMode 0 != 4
    else (s.outletsOfStage h).any fun o => (s.chn c).permit.testBit o
  if on then 1 else 2

/-- A kind-0 item of an outlet sent where its content has changed or 10 ms have passed. -/
def State.sendItem0 (s : State) (ch : Chan) (t o : Nat) : State :=
  match s.outletHead o with
  | none => s
  | some h =>
    let a := s.cmd0 .sa o
    let b := s.cmd0 .sb o
    let x := Tab.get s.safe.sent0 o Sent.reset
    let due := x.at_.all fun l => decide (l + 10000000 ≤ t)
    if x.cmd = a + 256 * b ∧ due = false then s
    else
      let seq := (x.seq + 1) % 256
      let item := cmdItem 0 o seq a b
      let s := { s with safe := { s.safe with sent0 := Tab.set s.safe.sent0 o { seq := seq, cmd := a + 256 * b, at_ := some t } } }
      let s := s.svcHead h 1 (.safeData ch item)
      let can := s.get safetyOutletCanCh o
      if can < 4 then s.sendCan can 1 false (0x010 + o) 8 item (t + 4000000) else s

/-- A kind-2 item of a stage head sent where its content has changed or 1 ms has passed. -/
def State.sendItem2 (s : State) (ch : Chan) (t h : Nat) : State :=
  let a := s.cmd2 .sa h
  let b := s.cmd2 .sb h
  let x := Tab.get s.safe.sent2 h Sent.reset
  let due := x.at_.all fun l => decide (l + 1000000 ≤ t)
  if x.cmd = a + 256 * b ∧ due = false then s
  else
    let seq := (x.seq + 1) % 256
    let s := { s with safe := { s.safe with sent2 := Tab.set s.safe.sent2 h { seq := seq, cmd := a + 256 * b, at_ := some t } } }
    s.svcHead h 1 (.safeData ch (cmdItem 2 h seq a b))

/-- SAFE_DATA_SEND: at the end of a channel's cycle (spec/10 R261, R275). -/
def execSafeDataSend (t : Nat) (ch : Chan) (s : State) : Res :=
  let s := s.at t
  if (s.chn ch).started = false then .next s
  else
    let s := outlets.foldl (fun s o => s.sendItem0 ch t o) s
    let heads := (List.range 48).filter fun h => (List.range 13).any fun c => (s.stageHeads c).contains h
    .next (heads.foldl (fun s h => s.sendItem2 ch t h) s)

/-! ### Contactors, welds, stored energy (spec/10 R279, R280, R283) -/

/-- CONTACTOR_CLOSING_WITHDRAWN: t_cd after the permission was withdrawn. -/
def execContactorClosingWithdrawn (t : Nat) (o : Fin 12) (s : State) : Res :=
  let s := s.at t
  match (s.outSafe o).closeEnd with
  | none => .next s
  | some e => if t < e then .next s else .next (s.withdrawClosing o t)

/-- WELD_VERDICT: a feedback still closed 100 ms after contactor closing was withdrawn. -/
def execWeldVerdict (t : Nat) (o : Fin 12) (s : State) : Res :=
  let s := s.at t
  let k := s.outSafe o
  let closed := (s.safe.sa.view1 o).fb != 0 || (s.safe.sb.view1 o).fb != 0
  if k.closing = false ∧ closed ∧ k.withdrawnAt + 100000000 ≤ t then .next (s.weld o t) else .next s

/-- CONTACTOR_DISCREPANCY: a feedback open for 100 ms while contactor closing is granted. -/
def execContactorDiscrepancy (t : Nat) (o : Fin 12) (s : State) : Res :=
  let s := s.at t
  let k := s.outSafe o
  match k.openSince with
  | none => .next s
  | some a =>
    if k.closing = false ∨ t < a + 100000000 ∨ k.stop.testBit 5 then .next s
    else .next (((s.trip none o 0x12 3 t).setStatus o 9 true t).demandStop o 5 t)

/-- SF6_DISCHARGE_TIMEOUT: v_conv still 12 or more 1 s after the stage item that confirmed gates off (spec/10 R283). An outlet
seen discharged since then has passed, whatever its terminals carry later. -/
def execSf6DischargeTimeout (t : Nat) (o : Fin 12) (s : State) : Res :=
  let s := s.at t
  let k := s.outSafe o
  let high := decide (12 ≤ (s.safe.sa.view1 o).vConv) || decide (12 ≤ (s.safe.sb.view1 o).vConv)
  let known := (s.safe.sa.view1 o).at_.isSome || (s.safe.sb.view1 o).at_.isSome
  match k.gatesAt with
  | none => .next s
  | some g =>
    if t < g + 1000000000 ∨ high = false ∨ known = false ∨ k.held ∨ k.discharged then .next s
    else
      let s := (s.setOut o { k with held := true }).trip none o 0x0C 6 t
      let s := (s.withdrawBy .sa o t).withdrawBy .sb o t
      .next (if s.convState o = 8 then s else (s.faultRecord o 0x0B 0 t true).toHeld o 0x0B t)

end Sys2Proof.Machine
end

