-- ==== Sys2Proof/Machine/Therm.lean ====
section
/-! DEFINITION. The device's temperature sensors and the temperatures of its islands (spec/06 R175–R178). -/

namespace Sys2Proof.Machine

/-- The islands, in the order of spec/01 Table 1-4; 0–4 are the host side's. -/
def islands : List Nat := List.range 14

/-- Whether sensor `n` is in service. -/
def State.inService (s : State) (n : Nat) : Bool := s.get thermSensorStatus n == 0

/-- The readings of an island's sensors in service. -/
def State.islandReadings (s : State) (i : Nat) : List Int :=
  (([0, 1, 2].map (3 * i + ·)).filter s.inService).map fun n => s.geti thermSensorTemp n

/-- The greatest of a list. -/
def greatest : List Int → Option Int
  | [] => none
  | x :: r => some (r.foldl max x)

/-- The middle of three readings. -/
def middle (a b c : Int) : Int := max (min a b) (min (max a b) c)

/-- An island's temperature from its own sensors (R178): median of three, the higher of two, one and 5 K. -/
def State.ownTemp (s : State) (i : Nat) : Option Int :=
  match s.islandReadings i with
  | [] => none
  | [a] => some (a + 50)
  | [a, b] => some (max a b)
  | a :: b :: c :: _ => some (middle a b c)

/-- The islands of the side of island `i`. -/
def sideOf (i : Nat) : List Nat := if i < 5 then [0, 1, 2, 3, 4] else [5, 6, 7, 8, 9, 10, 11, 12, 13]

/-- An island's temperature (R178); where no sensor of the whole side is in service none is given, and it is `open_`. -/
def State.islandTemp (s : State) (open_ : Int) (i : Nat) : Int :=
  match s.ownTemp i with
  | some x => x
  | none => (greatest ((sideOf i).filterMap s.ownTemp)).elim open_ fun x => x + 100

/-- Spare sensors shown (R178, spec/15 Table 15-9): an island with fewer than two, any sensor voted out. -/
def State.refreshSensors (s : State) (t : Nat) : State :=
  (s.putBit sparesWarn 0 3 ((List.range 46).any fun n => s.get thermSensorStatus n == 2)).setExhausted 6
    (islands.any fun i => decide ((s.islandReadings i).length < 2)) t

end Sys2Proof.Machine
end

