-- ==== Sys2Proof/Machine/InvokeField.lean ====
section
/-! DEFINITION. What the invocations of control, metering, billing, vehicle sessions, safety, lanes and networks do (spec/14 Table 14-17). -/

namespace Sys2Proof.Machine

/-! ### ctl.cmd and therm.cmd (spec/05 R154, R159, spec/06 R177) -/

/-- ctl.cmd 1: HELD left for OFF; cause 0x01 by SERVICE only, cause 0x09 by itself alone. -/
def State.releaseHeld (s : State) (o role t : Nat) : Ans :=
  if s.convState o ≠ 8 then noAns 7 s
  else if s.get ctlStateHeldCause o = 1 ∧ role ≠ 5 then noAns 3 s
  else if s.get ctlStateHeldCause o = 9 then noAns 7 s
  else okAns ((s.put ctlStateAborts o 0).enterState o 0 t)

/-- Whether an outlet is degraded: a failed phase, or a slot of it out of service. -/
def State.stillDegraded (s : State) (o : Nat) : Bool :=
  s.get ctlStateFailedMap o != 0 || (List.range 64).any fun n => s.get ctlSlotConv n == o && s.get ctlSlotState n == 5

/-- ctl.cmd 2: a failed phase returns to use while the converter is OFF. -/
def State.releasePhase (s : State) (o phase t : Nat) : Ans :=
  if 24 ≤ phase then noAns 6 s
  else if s.convState o ≠ 0 ∨ s.bit ctlStateFailedMap o phase = false then noAns 7 s
  else
    let s := s.putBit ctlStateFailedMap o phase false
    okAns (((s.putFlag ctlStateDegraded o (s.stillDegraded o)).reportPhases o).reportSlots t)

/-- therm.cmd 1: a sensor voted out returns to service. -/
def State.restoreSensor (s : State) (n t : Nat) : Ans :=
  if s.get thermSensorStatus n ≠ 2 then noAns 7 s
  else okAns ((((s.put thermSensorStatus n 0).put thermSensorSuspectRounds n 0).put thermSensorOutStamp n 0).refreshSensors t)

/-! ### meter.cmd (spec/07 R209) -/

/-- meter.cmd 1: the seal opens in MAINTENANCE for 3,600 s: tamper type 5, source 0x39; the answer is seal_until. -/
def State.breakSeal (s : State) (port t : Nat) : Ans :=
  if s.get modeStateMode 0 ≠ 5 then noAns 7 s
  else
    let until_ := t + 3600000000000
    let s := (s.put meterStatusSealOpen 0 1).put meterStatusSealUntil 0 until_
    (0, payloadOf 8 until_, (s.raise 0x39 t).tamper 5 port t)

/-! ### bill.cmd (spec/08 R222, R232, R235) -/

/-- Whether a day profile of the passive calendar is defined: some point used. -/
def State.dayDefined (s : State) (p : Nat) : Bool := s.get (calDayMinute 0) p != 0xFFFF

/-- The used points of a passive day profile, up to the first unused one. -/
def State.dayPoints (s : State) (p : Nat) : List Nat :=
  ((List.range 16).map fun k => s.get (calDayMinute k) p).takeWhile fun m => m != 0xFFFF

/-- Whether a list rises strictly. -/
def risesFrom : Nat → List Nat → Bool
  | _, [] => true
  | m, x :: r => decide (m < x) && risesFrom x r

/-- A passive day profile's minutes: strictly rising, no used point after an unused one. -/
def State.dayOrdered (s : State) (p : Nat) : Bool :=
  let pts := s.dayPoints p
  let used := ((List.range 16).filter fun k => s.get (calDayMinute k) p != 0xFFFF).length
  (match pts with | [] => true | x :: r => risesFrom x r) && used == pts.length

/-- The passive calendar passes R222's list for an activation at `u`. -/
def State.calendarOk (s : State) (u : Nat) : Bool :=
  let days := (List.range 32).filter s.dayDefined
  let seasons := (List.range 16).filter fun i => s.get calSeasonMonth i != 0
  let weekDays (w : Nat) : List Nat := (List.range 7).map fun k => s.get (calWeekDayProfile k) w
  let refs := seasons.flatMap fun i => weekDays (s.get calSeasonWeek i)
  let specials := (List.range 64).filter fun i => s.get calSpecialMonth i != 0
  days.all (fun p => s.get (calDayMinute 0) p == 0)
    && (List.range 32).all s.dayOrdered
    && days.all (fun p => (List.range (s.dayPoints p).length).all fun k => decide (s.get (calDayRate k) p ≤ 15))
    && seasons.all (fun i => decide (s.get calSeasonWeek i < 8))
    && refs.all (fun d => decide (d < 32) && s.dayDefined d)
    && specials.all (fun i => decide (s.get calSpecialDayProfile i < 32) && s.dayDefined (s.get calSpecialDayProfile i))
    && !seasons.isEmpty
    && seasons.all (fun i => seasons.all fun j => i == j ||
        s.get calSeasonMonth i != s.get calSeasonMonth j || s.get calSeasonDay i != s.get calSeasonDay j)
    && decide (s.get billStateBLast 0 < u)

/-- bill.cmd 1: the passive calendar set pending for its activation; a later one replaces a pending one. -/
def State.activateAt (s : State) (u t : Nat) : Ans :=
  if s.calendarOk u = false then noAns 6 s
  else okAns (((s.put billStateActivationUtc 0 u).putBit billStateFlags 0 1 true).showBoundary t)

/-- A quantity's demand of the period copied to an entry of bill.period, and every d_max zeroed. -/
def State.closeDemand (s : State) (p q : Nat) : State :=
  let j := 16 * (p % 12) + q
  let s := (List.range 16).foldl (fun s r =>
    let s := s.put (billPeriodDMax r) j (s.get (billDemandDMax r) q)
    let s := (s.put (billPeriodFlags r) j (s.get (billDemandFlags r) q)).put (billPeriodEndUtc r) j (s.get (billDemandEndUtc r) q)
    ((s.put (billDemandDMax r) q 0).put (billDemandFlags r) q 0).put (billDemandEndUtc r) q 0) s
  s.put billSummaryDMax q 0

/-- bill.cmd 2: the period closes; its number is the answer. -/
def State.closeBillPeriod (s : State) (t : Nat) : Ans :=
  let p := s.get billStatePeriod 0
  let s := (List.range 16).foldl (fun s q => s.closeDemand p q) s
  (0, payloadOf 4 p, (s.incWrap billStatePeriod 0 1).legalRecord recPeriod 4 p t)

/-- bill.cmd 3: receipts from a number on are delivered again; the answer counts them. -/
def State.resendFrom (s : State) (n : Nat) : Ans :=
  let last := s.bill.nextReceipt
  let first := max n (max 1 (last - 16384))
  let nums := ((List.range (last - first)).map (first + ·)).filter fun x => s.bill.unsigned.all fun u => u.1 != x
  (0, payloadOf 8 nums.length, ({ s with bill := { s.bill with sendQ := s.bill.sendQ ++ nums } }).flushReceipts)

/-! ### vlink.cmd (spec/09 R248, R250, R257) -/

/-- vlink.cmd 1 and 2: a pending authorisation accepted or denied. -/
def State.answerAuth (s : State) (o : Nat) (accept : Bool) (t : Nat) : Ans :=
  match s.authorizeSess o accept t with
  | none => noAns 7 s
  | some s' => okAns s'

/-- vlink.cmd 3: the session stops with reason 0x07 and the detail given. -/
def State.hostStop (s : State) (o detail t : Nat) : Ans :=
  let st := (s.sess o).st
  ansIf (decide (3 ≤ st) && decide (st ≤ 7)) 7 s (s.stopSess o 7 detail t)

/-- vlink.cmd 4: the weld verdict withdrawn. -/
def State.releaseWeld (s : State) (o : Nat) (t : Nat) : Ans :=
  let k := s.sess o
  if k.welded = false ∧ s.bit safetyStateWelded 0 o = false then noAns 7 s
  else okAns ((((s.setSess o { k with welded := false }).putBit safetyStateWelded 0 o false).setStatus o 11 false t).publishLink o)

/-! ### safety.cmd (spec/10 R264, R273, R286, R288) -/

/-- One bit step of the reflected CRC-32 of IEEE 802.3. -/
def crc32Bit (r : Nat) : Nat := if r % 2 = 1 then (r / 2) ^^^ 0xEDB88320 else r / 2

/-- One byte of the CRC-32. -/
def crc32Byte (r b : Nat) : Nat := (List.range 8).foldl (fun r _ => crc32Bit r) (r ^^^ b)

/-- The CRC-32 of bytes. -/
def crc32 (l : List Nat) : Nat := l.foldl crc32Byte 0xFFFFFFFF ^^^ 0xFFFFFFFF

/-- The first bytes of an index of an object. -/
def State.firstBytes (s : State) (d : ObjDef) (i n : Nat) : List Nat :=
  let v := s.imageOf d i
  (List.range n).map fun k => v / 2 ^ (8 * k) % 256

/-- The 108 bytes the CRC of a set covers: `p` its index of safety.param, `o` its first index of safety.outlet (spec/10 R288). -/
def State.safetyBytes (s : State) (p o : Nat) : List Nat :=
  s.firstBytes safetyParamDef p 12 ++ (List.range 12).flatMap fun i => s.firstBytes safetyOutletDef (o + i) 8

/-- Whether a value is a head or none. -/
def headOrNone (v : Nat) : Bool := decide (v ≤ 47) || v == 0xFF

/-- Whether every value of the set at those indices lies in its range of Table 10-9 and in the kind-4 ranges of the active image. -/
def State.safetyInRange (s : State) (p o : Nat) : Bool :=
  let nf := s.get safetyParamNFilt p
  let tcd := s.get safetyParamTCd p
  decide (2 ≤ nf) && decide (nf ≤ 8) && decide (10 ≤ tcd) && decide (tcd ≤ 100)
    && decide (s.get safetyParamSo0Map p ≤ 3) && decide (s.get safetyParamSo1Map p ≤ 3)
    && headOrNone (s.get safetyParamBatStage0 p) && headOrNone (s.get safetyParamBatStage1 p)
    && (List.range 12).all (fun i =>
      (decide (s.get safetyOutletCanCh (o + i) ≤ 3) || s.get safetyOutletCanCh (o + i) == 0xFF)
        && headOrNone (s.get safetyOutletOutletHead (o + i)) && headOrNone (s.get safetyOutletStage0 (o + i))
        && headOrNone (s.get safetyOutletStage1 (o + i)))
    && (Tab.find s.imgs.active 6).all fun img => Config.rangesAdmit img.digest.toNat (ofBytes (s.safetyBytes p o))

/-- safety.cmd 1: the pending set becomes active in one step, journaled with the committed flag, where the CRC is right and every value in
range. -/
def State.commitSafety (s : State) (crc t : Nat) : Ans :=
  if crc32 (s.safetyBytes 1 12) ≠ crc ∨ s.safetyInRange 1 12 = false then noAns 6 s
  else
    let s := s.putAll 0 (safetyParamDef.fields.map fun f => (f, s.get f 1))
    let s := (List.range 12).foldl (fun s i => s.putAll i (safetyOutletDef.fields.map fun f => (f, s.get f (12 + i)))) s
    let s := (s.put safetyParamCrc 0 crc).put safetyStateCommitted 0 1
    let s := s.configRecord 0x1110 0 ⟨16, s.imageOf safetyParamDef 0⟩ t
    let s := (List.range 12).foldl (fun s i => s.configRecord 0x1120 i ⟨8, s.imageOf safetyOutletDef i⟩ t) s
    okAns (((s.crqChange 8 t).refreshEngine).refreshReady)

/-- safety.cmd 2: an SF3 stop of an outlet by SAFETY. -/
def State.safetyStop (s : State) (o t : Nat) : Ans :=
  if 12 ≤ o then noAns 2 s
  else okAns ((s.trip none o 0x07 3 t).demandStop o 2 t)

/-- safety.cmd 3: SAFETY's own stop demand ends; the stop ends once the outlet is OFF and Idle. -/
def State.safetyRelease (s : State) (o : Nat) : Ans :=
  let k := s.outSafe o
  if 12 ≤ o then noAns 2 s
  else if k.stop.testBit 2 = false then noAns 7 s
  else okAns ((s.setOut o { k with stop := withBit (withBit k.stop 2 false) 6 true }).endStops o)

/-- safety.cmd 4: a latched group fault cleared while the group's feedback matches off (spec/10 R273). -/
def State.clearGroup (s : State) (g t : Nat) : Ans :=
  if 2 ≤ g then noAns 2 s
  else if (s.bit safetyStateSoFault 0 g = false ∧ s.bit modeStateHold 0 2 = false) ∨ s.flag safetySoHfb g ∨ s.flag safetySoLfb g then noAns 7 s
  else
    let s := (s.putBit safetyStateSoFault 0 g false).put safetySoFault g 0
    okAns (if s.get safetyStateSoFault 0 = 0 then { s with safe := { s.safe with clearAt := Tab.set s.safe.clearAt 2 t } } else s)

/-- safety.cmd 5: channel faults cleared once their cause has gone (spec/10 R264, spec/16 R430). -/
def State.clearChan (s : State) (i t : Nat) : Ans :=
  if i ≠ 0 then noAns 2 s
  else if (s.get safetyStateChanFault 0 = 0 ∧ s.bit modeStateHold 0 1 = false) ∨ s.safe.sa.diffs ≠ 0 ∨ s.safe.sb.diffs ≠ 0 then noAns 7 s
  else okAns { s.put safetyStateChanFault 0 0 with safe := { s.safe with clearAt := Tab.set s.safe.clearAt 1 t } }

/-! ### lane.cmd, node.cmd, can.cmd, mesh.cmd (spec/12 R320, R336, spec/13 R350, R363, R371) -/

/-- lane.cmd 1: an ACTIVE lane retrains. -/
def State.retrainLane (s : State) (l t : Nat) : Ans :=
  if 16 ≤ l then noAns 2 s
  else ansIf (s.get laneStateState l == 4) 7 s (s.beginRetrain l t)

/-- lane.cmd 2: an avenue forms anew, in MAINTENANCE with every converter it serves OFF. -/
def State.reformAvenue (s : State) (a t : Nat) : Ans :=
  if 6 ≤ a then noAns 2 s
  else ansIf (s.get modeStateMode 0 == 5 && (List.range 13).all fun c => !s.avenueServes a c || s.convState c == 0) 7 s (s.reform a t)

/-- node.cmd 1 and 2: the blob sent, or the digest asked for. -/
def State.nodeCmd (s : State) (n code : Nat) : Ans :=
  if s.get nodeEntryKind n = 0 then noAns 7 s
  else okAns (if code = 1 then s.sendBlob n 1 else s.askDigest n)

/-- can.cmd 1: a held channel rejoins its bus. -/
def State.recoverCan (s : State) (ch : Nat) : Ans := ansIf (s.get canStateState ch == 4) 7 s (s.canJoin ch)

/-- mesh.cmd 1: the tone maps of a neighbour are to be refreshed. -/
def State.askTones (s : State) (n : Nat) : Ans :=
  match s.nbrOf n with
  | none => noAns 7 s
  | some j => okAns (s.setMesh { s.net.mesh with asked := Tab.set s.net.mesh.asked j true })

/-! ### port.cmd (spec/14 R378) -/

/-- port.cmd 1: the console enabled in SEALED from another port, for 3,600 s: event type 23. Elsewhere it is enabled already
(notes/assumptions/27.md). -/
def State.enableConsole (s : State) (port t : Nat) : Ans :=
  if s.lifecycle ≠ 2 then okAns s
  else if port = 5 then noAns 7 s
  else okAns (({ s with hosts := { s.hosts with consoleUntil := some (t + 3600000000000) } }).tamper 23 port t)

/-- port.cmd 2: the console disabled in SEALED. -/
def State.disableConsole (s : State) : Ans := okAns { s with hosts := { s.hosts with consoleUntil := none } }

end Sys2Proof.Machine
end

