-- ==== Sys2Proof/Machine/InvokeKeys.lean ====
section
/-! DEFINITION. key.cmd and lc.cmd (spec/14 R390–R394). -/

namespace Sys2Proof.Machine

/-! ### key.cmd (spec/14 R392) -/

/-- Whether key.cmd's code is permitted in the lifecycle state (spec/14 R392). -/
def State.keyCmdState (s : State) (code : Nat) : Bool :=
  if code = 2 then s.lifecycle == 1 else s.lifecycle == 1 || s.lifecycle == 2

/-- The refusals that codes 1 to 3 share: pair, praline number, pin. -/
def State.keyArgs (s : State) (p : Payload) : Nat :=
  let n := argAt p 4 2
  firstOf
    [need (decide (n < 1024)) 6, need (pairOk (argAt p 6 1) (argAt p 7 1)) 0xC, need (decide (argAt p 8 1 ≤ 1)) 6,
     need (argAt p 8 1 == 0 || decide (s.pinned n < 32)) 6, need (!s.ringFull 110) 7]

/-- Praline `n` written with a key wrapped for this device and lifecycle epoch; any loaded copy evicted. -/
def State.writePraline (s : State) (p : Payload) (key t : Nat) : State :=
  let n := argAt p 4 2
  let alg := argAt p 6 1
  let hdr := pralineHeader alg (argAt p 7 1) (s.get lcStateLcEpoch 0) (argAt p 16 8) (argAt p 8 1)
  let w := Config.wrapKey hdr (keyBytes alg) key % 2 ^ (8 * wrappedBytes alg)
  let s := ((s.put pralineMagic n 0x314C5250).put pralineFmt n 1).put pralineAlg n alg
  let s := ((s.put pralineAttr n (argAt p 7 1)).put pralineLcEpoch n (s.get lcStateLcEpoch 0)).put pralineLabel n (argAt p 16 8)
  let s := ((s.put pralinePin n (argAt p 8 1)).put pralineWlen n (wrappedBytes alg)).put pralineWrapped n w
  (s.evict n).configChange 0x0140 n t

/-- Praline `n` emptied. -/
def State.clearPraline (s : State) (n : Nat) : State :=
  (s.putAll n (pralineDef.fields.map fun f => (f, 0))).evict n

/-- key.cmd 1: a key drawn and wrapped; the answer is its public key. -/
def State.generateKey (s : State) (p : Payload) (t : Nat) : Ans :=
  let alg := argAt p 6 1
  let st := s.keyArgs p
  if st ≠ 0 then noAns st s
  else
    let key := Config.newKey s.keys.made alg % 2 ^ (8 * keyBytes alg)
    let s := s.setKeys { s.keys with made := s.keys.made + 1 }
    (0, payloadOf (publicBytes alg) (Config.publicOf alg key), s.writePraline p key t)

/-- key.cmd 2: a key supplied in the length of its algorithm. -/
def State.importPlain (s : State) (p : Payload) (t : Nat) : Ans :=
  let alg := argAt p 6 1
  let st := s.keyArgs p
  if st ≠ 0 then noAns st s
  else if argAt p 24 2 ≠ keyBytes alg then noAns 6 s
  else okAns (s.writePraline p (argAt p 26 (keyBytes alg)) t)

/-- The key of a reference that has attribute WRAP (spec/14 Table 14-10). -/
def State.wrapKeyOf (s : State) (ref : Nat) : Option Nat × State :=
  let r : Option Nat × State :=
    if 0x1000 ≤ ref ∧ ref < 0x1400 then s.loadPraline (ref - 0x1000) else if 8 ≤ ref ∧ ref < 60 then (some ref, s) else (none, s)
  ((r.1.bind fun j => Tab.find r.2.keys.slots j).bind fun sl => if sl.attr = 3 then some sl.key else none, r.2)

/-- key.cmd 3: a blob of 24 to 80 bytes unwrapped under a WRAP key. -/
def State.importWrapped (s : State) (p : Payload) (t : Nat) : Ans :=
  let alg := argAt p 6 1
  let st := s.keyArgs p
  let len := argAt p 26 2
  if st ≠ 0 then noAns st s
  else if len < 24 ∨ 80 < len then noAns 6 s
  else
    let w := s.wrapKeyOf (argAt p 24 2)
    match w.1 with
    | none => noAns 0xC w.2
    | some kek =>
      match Config.unwrapKey (2 ^ 192 * (1 + kek)) len (argAt p 28 len) with
      | none => noAns 0xC w.2
      | some key => if len ≠ wrappedBytes alg then noAns 0xC w.2 else okAns (w.2.writePraline p (key % 2 ^ (8 * keyBytes alg)) t)

/-- key.cmd 4: the praline erased. -/
def State.deleteKey (s : State) (n t : Nat) : Ans :=
  if 1024 ≤ n then noAns 6 s else if s.ringFull 110 then noAns 7 s else okAns ((s.clearPraline n).configChange 0x0140 n t)

/-- key.cmd 5: the public key of a praline that loads; it writes nothing. -/
def State.publicKey (s : State) (n : Nat) : Ans :=
  if 1024 ≤ n then noAns 6 s
  else
    match s.pralineKey n with
    | none => noAns 0xC s
    | some key => (0, payloadOf (publicBytes (s.get pralineAlg n)) (Config.publicOf (s.get pralineAlg n) key), s)

/-- key.cmd. -/
def State.keyCmd (s : State) (code : Nat) (p : Payload) (t : Nat) : Ans :=
  if s.keyCmdState code = false then noAns 7 s
  else if code = 1 then s.generateKey p t
  else if code = 2 then s.importPlain p t
  else if code = 3 then s.importWrapped p t
  else if code = 4 then s.deleteKey (argAt p 4 2) t
  else s.publicKey (argAt p 4 2)

/-! ### lc.cmd (spec/14 R393, Tables 14-12, 14-13) -/

/-- Whether every converter is OFF. -/
def State.allOff (s : State) : Bool := (List.range 13).all fun c => s.convState c == 0

/-- Whether an approval is unused and not lapsed (spec/14 R393). -/
def State.approved (s : State) (t : Nat) : Bool := s.keys.approval.any fun a => decide (t < a + 600000000000)

/-- The lifecycle state entered. -/
def State.setLifecycle (s : State) (st : Nat) : State := (s.put lcStateState 0 st).refreshReady

/-- The approval a change needed is used up by it (spec/14 R393). -/
def State.useApproval (s : State) : State := s.setKeys { s.keys with approval := none }

/-- The transient slots cleared. -/
def State.clearTransient (s : State) : State := s.setKeys { s.keys with slots := s.keys.slots.filter fun e => decide (e.1 < 60) }

/-- The enrolled modulus: parts 0 and 1 of lc.enroll. -/
def State.enrolled (s : State) : Nat := s.get lcEnrollModulus 0 + s.get lcEnrollModulus 1 * 2 ^ 2048

/-- BLANK to PROVISIONED: the integrator image key enrolled, lc_epoch 1. -/
def State.provision (s : State) (check : Nat) : Ans :=
  if s.lifecycle ≠ 0 ∨ s.allOff = false then noAns 7 s
  else if Config.sha512 512 s.enrolled % 2 ^ 64 ≠ check then noAns 6 s
  else okAns (((s.setKeys { s.keys with integrator := some s.enrolled }).put lcStateLcEpoch 0 1).setLifecycle 1)

/-- PROVISIONED to SEALED: the legal signing key generated and certified by the identity key (spec/14 R396). -/
def State.seal (s : State) (t : Nat) : Ans :=
  if s.lifecycle ≠ 1 ∨ s.allOff = false ∨ s.approved t = false ∨ s.keys.identity = false then noAns 7 s
  else
    let n := s.keys.seals + 1
    let k := Config.newKey s.keys.made 6
    let s := s.setKeys { s.keys with legal := some k, seals := n, made := s.keys.made + 1 }
    let s := (List.range 8).foldl (fun s i => s.put keyCertPart (8 + i) (Config.certChunk n (Config.publicOf 6 k) (s.legal t) i)) s
    okAns ((s.clearTransient.useApproval).setLifecycle 2)

/-- The legal signing key and its certificate destroyed. -/
def State.dropLegal (s : State) : State :=
  (List.range 8).foldl (fun s i => s.put keyCertPart (8 + i) 0) (s.setKeys { s.keys with legal := none })

/-- SEALED to PROVISIONED with every session Idle: event type 19. -/
def State.unseal (s : State) (port t : Nat) : Ans :=
  if s.lifecycle ≠ 2 ∨ s.allOff = false ∨ s.approved t = false ∨ (outlets.all fun o => (s.sess o).st == 0) = false then noAns 7 s
  else okAns (((s.dropLegal.clearTransient.useApproval).setLifecycle 1).tamper 19 port t)

/-- To RETURNED: integrator and legal keys and every praline destroyed, lc_epoch raised. -/
def State.returnAll (s : State) (t : Nat) : Ans :=
  if (s.lifecycle ≠ 1 ∧ s.lifecycle ≠ 2) ∨ s.allOff = false then noAns 7 s
  else
    let s := (s.dropLegal).setKeys { s.dropLegal.keys with integrator := none, slots := [] }
    let s := { s with objs := s.objs.filter fun e => e.1 / 4 / 65536 / 65536 != 0x0140 }
    okAns (((s.incWrap lcStateLcEpoch 0 1).setLifecycle 3).crqChange 1 t)

/-- To SCRAPPED: every key and both NV tiers erased, lc.state alone kept. -/
def State.scrapAll (s : State) (serial : Nat) : Ans :=
  if (s.lifecycle ≠ 0 ∧ s.lifecycle ≠ 3) ∨ s.allOff = false then noAns 7 s
  else if serial ≠ s.get devIdentSerial 0 then noAns 6 s
  else
    let s := { s with objs := s.objs.filter fun e => keyCls e.1 != 0 || e.1 / 4 / 65536 / 65536 == 0x0180, jr := Journal.reset,
                      imgs := { minVer := [], active := [] }, bill := { s.bill with bundle := none, bundleOld := none, sessions := [], unsigned := [], sendQ := [] },
                      dur := { s.dur with a := none, b := none, deep := none, ready := none, ecc := [] } }
    okAns ((s.eraseAll.setKeys { Keys.reset with identity := false, root := false, made := s.keys.made, uses := s.keys.uses }).setLifecycle 4)

/-- lc.cmd. -/
def State.lcCmd (s : State) (code port : Nat) (p : Payload) (t : Nat) : Ans :=
  if code = 1 then s.provision (argAt p 8 8)
  else if code = 2 then s.seal t
  else if code = 3 then okAns (s.setKeys { s.keys with approval := some t })
  else if code = 4 then s.unseal port t
  else if code = 5 then s.returnAll t
  else s.scrapAll (argAt p 8 8)

/-- APPROVAL_LAPSE: 600 s after its stamp an unused approval is gone. -/
def execApprovalLapse (t : Nat) (s : State) : Res :=
  let s := s.at t
  match s.keys.approval with
  | some a => if a + 600000000000 ≤ t then .next (s.setKeys { s.keys with approval := none }) else .next s
  | none => .next s

end Sys2Proof.Machine
end

