-- ==== Sys2Proof/Machine/Durable.lean ====
section
/-! DEFINITION. Durable state: checkpoints, journal migration, scrubs, repair, takeover, durable.read (spec/15 R406–R424). -/

namespace Sys2Proof.Machine

open Sys2Proof

/-! ### Spare capacity (spec/15 R408, R409, R412, R419, Tables 15-7, 15-9) -/

/-- The durable state replaced. -/
def State.setDur (s : State) (d : Dur) : State := { s with dur := d }

/-- Bits 3 and 4 of exhausted, bits 1 and 2 of warn and sram_min, from the spares left. -/
def State.refreshSpares (s : State) (t : Nat) : State :=
  let regions := [0, 1, 2, 3, 4, 5, 6, 7, 8, 9, 10, 11, 12, 13, 35, 36, 37, 38]
  let left := regions.map fun r => s.get repairSpareLeft r
  let fl := s.get sparesFlashLeft 0
  let ml := s.get sparesMramLeft 0
  let s := s.put sparesSramMin 0 (left.foldl min 255)
  let s := s.putBit sparesWarn 0 1 (decide (fl < 16) || decide (ml < 64))
  let s := s.putBit sparesWarn 0 2 (left.any fun n => n == 1)
  let ex := withBit (s.get sparesExhausted 0) 3 (fl == 0 || ml == 0 || s.get sparesHostnvLeft 0 == 0)
  s.setSpares (withBit ex 4 (left.any fun n => n == 0)) (s.get sparesLost 0) t

/-- A hot-tier row retired to a spare row (spec/15 R409). -/
def State.retireRow (s : State) (row t : Nat) : State :=
  let n := s.get sparesMramLeft 0 - 1
  let s := ((s.put sparesMramLeft 0 n).put repairSpareLeft 14 (min 255 n)).put repairLastRow 14 row
  (s.put repairLastStamp 14 t).refreshSpares t

/-- A flash segment retired: to a spare segment, or with none left out of the diagnostic, open and link areas (spec/15 R412). -/
def State.retireSegment (s : State) (seg : Option Nat) (t : Nat) : State :=
  let n := s.get sparesFlashLeft 0
  let s := seg.elim s s.dropSeg
  let s := ((s.put sparesFlashLeft 0 (n - 1)).put repairSpareLeft 15 (n - 1)).put repairLastStamp 15 t
  let s := if n = 0 then s.setLost 4 true t else s
  s.refreshSpares t

/-- Bit [5] of lost follows the staging ring (spec/15 R408). -/
def State.noteRing (s : State) (t : Nat) : State := s.setLost 5 (s.ringFull 224) t

/-- Bit [4] of warn: the 30-day mean above 200 MB a day (spec/15 R416). -/
def State.noteBudget (s : State) : State := s.putBit sparesWarn 0 4 (decide (30 * 200000000 < s.get wearBytes30d 0))

/-! ### Checkpoints (spec/15 R406, R417) -/

/-- CHECKPOINT (R406): the state at the last index at or before a whole second, committed into the older copy; not while a freeze is in force.
`badRow`: a row failed verification three times and is retired (R409). -/
def execCheckpoint (t : Nat) (badRow : Bool) (s : State) : Res :=
  let s := s.at t
  match s.dur.ready with
  | none => .next s
  | some c =>
    if s.met.frozen.isSome ∨ s.sup.bootStep < 3 then .next s
    else
      let s := (s.setDur { s.dur with ready := none }).commitCopy { c with seq := s.nextCkSeq }
      .next (if badRow then s.retireRow 0 t else s)

/-- DEEP_CHECKPOINT (R417): every 10 min and with each bundle. -/
def execDeepCheckpoint (t : Nat) (s : State) : Res :=
  let s := s.at t
  let bseq := s.bill.bundle.elim 0 fun b => b.seq
  match newest s.dur.a s.dur.b with
  | none => .next s
  | some c =>
    if t < s.dur.deepAt + 600000000000 ∧ bseq = s.dur.deepBundle then .next s
    else
      let s := s.setDur { s.dur with deep := some c, deepBundle := bseq, deepAt := t }
      .next (s.legalRecord recDeep 24 (c.seq + c.k * 2 ^ 64 + c.legal * 2 ^ 128) t)

/-- ECC_COUNTER_CHECKPOINT (spec/01 R36): every 1 s the counters of every region reach the hot tier. -/
def execEccCounterCheckpoint (t : Nat) (s : State) : Res :=
  let s := s.at t
  if t < s.dur.eccAt + 1000000000 then .next s
  else .next (s.setDur { s.dur with ecc := s.objs.filter fun e => keyObj e.1 == 0x1820, eccAt := t })

/-! ### The journal (spec/15 R408, R412, R416) -/

/-- JOURNAL_MIGRATION (R408): the oldest sealed record goes to its area and is freed once it has been read back whole; a failing program retires
the segment being written, and the record stays. -/
def execJournalMigration (t : Nat) (readBackOk : Bool) (s : State) : Res :=
  let s := s.at t
  match s.jr.ring with
  | [] => .next s
  | r :: rest =>
    if s.met.frozen.isSome then .next s
    else if readBackOk then
      let s := { s with jr := { s.jr with ring := rest } }
      .next ((s.toFlash r t).noteRing t)
    else
      let s := s.makeRoom r.cls (r.coded / 36) t
      .next ((s.retireSegment (s.headSeg r.cls) t).noteRing t)

/-- HOT_TIER_SCRUB (R409): every 24 h; a row corrected in two scrubs in a row is retired. -/
def execHotTierScrub (t : Nat) (corrected : List Nat) (s : State) : Res :=
  let s := s.at t
  if t < s.dur.hotAt + 86400000000000 then .next s
  else
    let again := corrected.filter fun r => s.dur.hotRows.contains r
    let s := corrected.foldl (fun s r => s.countBlock 14 (.corrected 1) r t) s
    let s := again.foldl (fun s r => s.retireRow r t) s
    .next (s.setDur { s.dur with hotRows := corrected.filter fun r => !again.contains r, hotAt := t })

/-- The cold-tier scrub interval of FJ's band, in days (spec/06 Table 6-3). -/
def State.scrubDays (s : State) : Nat :=
  let b := s.get thermStateBands 0 / 2 ^ (4 * 13) % 16
  if b ≤ 2 then 30 else if b = 3 then 7 else 1

/-- A record of an area whose block is lost (spec/15 R412, spec/01 Table 1-6): a lost LEGAL record counts event type 21. -/
def State.loseRecord (s : State) (area seq t : Nat) : State :=
  let s := { s with jr := { s.jr with flash := s.jr.flash.map fun r => if r.cls = area ∧ r.seq = seq then { r with lost := true } else r } }
  if area = 0 then s.tamper 21 (seq % 2 ^ 32) t else s

/-- One finding of a scrub (R412): blocks counted in region 15, a page rewritten, a segment retired. -/
def State.scrubFinding (s : State) (f : ScrubFinding) (t : Nat) : State :=
  let loc := f.seq % 2 ^ 32
  let s := if f.corrected ≠ 0 then s.countBlock 15 (.corrected f.corrected) loc t else s
  let s := if f.uncorrectable then (s.countBlock 15 .uncorrectable loc t).loseRecord f.area.val f.seq t else s
  let seg := s.segOfRec f.area f.seq
  let s := if 2 ≤ f.corrected ∨ 730 < f.ageDays then s.rewriteRec f.area f.seq t else s
  if f.progFail || f.uncorrectable || (decide (2 ≤ f.corrected) && f.secondTime) then s.retireSegment seg t else s

/-- COLD_TIER_SCRUB (R412): at the interval of the band in force. -/
def execColdTierScrub (t : Nat) (findings : List ScrubFinding) (s : State) : Res :=
  let s := s.at t
  if s.legalValid ∧ s.legal t < s.get wearLastScrub 0 + s.scrubDays * 86400 then .next s
  else .next ((findings.foldl (fun s f => s.scrubFinding f t) s).put wearLastScrub 0 (s.legal t))

/-- QUOTA_RESET (R416): at 00:00 UTC the quotas start anew and the oldest of 30 days leaves the mean. -/
def execQuotaReset (t : Nat) (s : State) : Res :=
  let s := s.at t
  if s.legalValid = false ∨ s.legal t / 86400 = s.dur.day then .next s
  else
    let today := s.get wearBytes30d 0 - s.dur.days.foldl (· + ·) 0
    let days := (today :: s.dur.days).take 29
    let s := s.setDur { s.dur with day := s.legal t / 86400, days := days }
    .next (((s.put wearBytes30d 0 (days.foldl (· + ·) 0)).put wearOpenToday 0 0).put wearLinkToday 0 0).noteBudget

/-! ### SRAM repair (spec/15 R419, R420) -/

/-- The registers' fields and remainders as a checkpoint holds them (R406). -/
def State.takeRegisters (s : State) (c : Checkpoint) : State :=
  let q (e : Nat × Quantity) : Nat × Quantity :=
    let k := Tab.get c.quants e.1 e.2
    (e.1, { e.2 with rhoD := k.rhoD, rhoR := k.rhoR, rhoN := k.rhoN, rhoS := k.rhoS })
  { s with objs := c.fields.foldl (fun (o : Store) (e : Nat × Nat) => Tab.set o e.1 e.2) (s.objs.filter fun e => !ckObj (keyObj e.1))
           met := { s.met with quants := s.met.quants.map q } }

/-- The port partition restarts (spec/01 Table 1-6): what its ports were executing gets NAK, with 0x0007 (notes/assumptions/42.md). -/
def State.restartPort (s : State) (t : Nat) : State :=
  (List.range 6).foldl (fun s p => (s.port p).running.foldl (fun s seq =>
    let k := s.port p
    let s := (s.setPort p { k with answered := ((seq, 7, noPayload) :: k.answered).take 16, running := k.running.erase seq }).inc portStateNaks p 1
    s.sendUnit p (.response p seq 7 noPayload) (messageBytes 8 0 p (s.portRole p) seq 0 0 7 noPayload) t) s) s

/-- The key a block of host NV belongs to is unusable from now on (spec/01 Table 1-6): rows 0–63 hold HK's slots, the next 1,024 the pralines
(notes/assumptions/42.md). -/
def State.loseKey (s : State) (row : Nat) : State :=
  s.setKeys { s.keys with unusable := (if row < 64 then row else 0x1000 + (row - 64)) :: s.keys.unusable }

/-- The reaction of region `r` to an uncorrectable block at a byte address of it (spec/01 Table 1-6): instruction SRAM keeps the block for the
fetch that meets it, data SRAM and the Boulevard raise theirs with the access. -/
def State.reactTo (s : State) (r loc t : Nat) : State :=
  if r < 6 then s.setCore r { s.core r with badFetch := loc :: (s.core r).badFetch }
  else if r = 13 then s.restartPort t
  else if r = 16 then s.loseKey (loc / 1024)
  else if r = 35 then s.channelFault .sa 0x10 t
  else if r = 36 then s.channelFault .sb 0x10 t
  else if r = 37 then s.slotFault (loc / 256) t
  else if r = 38 then
    let s := (newest s.dur.a s.dur.b).elim s s.takeRegisters
    s.tamper 22 38 t
  else s

/-- SRAM_SCRUB (R419): a block of a row read; the region's reaction where it is uncorrectable; a row that qualifies is repaired from a spare
row, or recorded as unrepaired; in the local SRAM of a site core the latter is a failure of the core where the block is uncorrectable (R420).
A block of host NV is read the same way, with no repair of rows. -/
def execSramScrub (t : Nat) (region : Fin 39) (row : RowBlock) (res : BlockResult) (s : State) : Res :=
  let s := s.at t
  let r := region.val
  let loc := row.row * 1024 + 32 * row.block.val
  if 13 < r ∧ r < 35 ∧ r ≠ 16 then .next s
  else
    let res := regionResult r res
    let bad := match res with | .uncorrectable => true | _ => false
    let s := s.countBlock r res loc t
    let s := if bad then s.reactTo r loc t else s
    if r = 16 then .next s
    else
      let key := r * 2 ^ 32 + row.row
      let old := (Tab.get s.dur.sram key []).filter fun x => decide (t < x + 86400000000000)
      let hits : List Nat := match res with | .corrected _ => t :: old | _ => old
      let s := s.setDur { s.dur with sram := Tab.set s.dur.sram key hits }
      if !bad && decide (hits.length < 3) then .next s
      else if 0 < s.get repairSpareLeft r then
        let s := ((s.put repairSpareLeft r (s.get repairSpareLeft r - 1)).put repairLastRow r (row.row * 1024)).put repairLastStamp r t
        .next ((s.setDur { s.dur with sram := Tab.del s.dur.sram key }).refreshSpares t)
      else
        let s := s.inc repairUnrepaired r 1
        .next (if bad ∧ r < 12 ∧ s.bit sparesFailed 0 (r % 6) = false then s.coreFail (r % 6) t else s)

/-! ### P5 (spec/15 R420, R421) -/

/-- Whether P5 may take over core `n` now: automatically, or approved. -/
def State.mayTakeOver (s : State) (n : Nat) : Bool :=
  s.bit sparesFailed 0 n && s.get sparesStandsFor 0 == 0xFF && !s.bit sparesFailed 0 5
    && (decide (3 ≤ n) || s.bit durableConfigPreApprove 0 n || s.dur.approved.contains n)

/-- TAKEOVER (R421): P5 loads core n's image from the journal and stands for it. -/
def execTakeover (t : Nat) (core : Fin 5) (s : State) : Res :=
  let s := s.at t
  let n := core.val
  if s.mayTakeOver n = false then .next s
  else
    let s := (s.put sparesStandsFor 0 n).put sparesAwaiting 0 0
    let s := s.setCore 5 ((s.core 5).setCwd 13 (BitVec.ofNat 64 (n * 65536 + 5)))
    let s := match Tab.find s.imgs.active n with
      | none => s
      | some img => s.loadImage 5 n img t
    .next ((s.setExhausted 0 true t).refreshReady)

/-- durable.cmd 1 (R421): approval of a takeover that awaits it. -/
def State.approveTakeover (s : State) (n : Nat) : Ans :=
  if 5 ≤ n then noAns 2 s
  else if s.bit sparesFailed 0 n = false ∨ s.get sparesStandsFor 0 ≠ 0xFF then noAns 7 s
  else okAns ((s.put sparesAwaiting 0 0).setDur { s.dur with approved := n :: s.dur.approved.filter fun x => x != n })

/-- durable.cmd 2 (R420): a failure mark cleared in MAINTENANCE; P5 no longer stands for the core. -/
def State.clearMark (s : State) (n t : Nat) : Ans :=
  if 5 ≤ n then noAns 2 s
  else if s.get modeStateMode 0 ≠ 5 ∨ s.bit sparesFailed 0 n = false then noAns 7 s
  else
    let s := s.setDur { s.dur with approved := s.dur.approved.filter fun x => x != n }
    let s := (s.putBit sparesFailed 0 n false).setCore n { s.core n with run := .inReset, image := none }
    let s := if s.get sparesStandsFor 0 = n then
        ((s.put sparesStandsFor 0 0xFF).setCore 5 { Core.reset with eq := (s.core 5).eq, rc := (s.core 5).rc }).setExhausted 0 false t
      else s
    let still := [0, 1, 2, 3, 4].any fun m => s.bit sparesFailed 0 m && s.get sparesStandsFor 0 != m
    let waits := [0, 1, 2].any fun m => s.bit sparesFailed 0 m && !s.bit durableConfigPreApprove 0 m
    let s := s.setLost 0 (still && s.get sparesStandsFor 0 != 0xFF) t
    okAns ((s.putFlag sparesAwaiting 0 (waits && s.get sparesStandsFor 0 == 0xFF)).refreshReady)

/-! ### durable.read (spec/15 R424) -/

/-- A record's header block (spec/15 Table 15-4). -/
def recordHeader (r : Record) : Nat :=
  place 0 0x314A 2 + place 2 r.cls 1 + place 3 r.flags 1 + place 4 r.typ 2 + place 6 r.len 2 + place 8 r.seq 8 + place 0x10 r.siteTime 8
    + place 0x18 r.legal 8

/-- Roles that may read an area: LEGAL by METER, open and link by SITE and SERVICE, every other by SERVICE (Table 15-8). -/
def areaRoles (area : Nat) : Nat := if area = 0 then 8 else if area = 3 ∨ area = 4 then 36 else 32

/-- durable.read 1: the record, or the next one still held, and up to 224 of its payload bytes. -/
def State.readRecord (s : State) (p : Payload) (role : Nat) : Ans :=
  let area := argAt p 4 1
  let seq := argAt p 8 8
  let off := argAt p 16 2
  if 5 < area ∨ off % 224 ≠ 0 ∨ 3808 < off then noAns 6 s
  else if hasRole (areaRoles area) role = false then noAns 3 s
  else
    let held := (s.jr.flash ++ s.jr.ring).filter fun r => r.cls == area && !r.lost && decide (seq ≤ r.seq)
    let first := held.foldl (fun (b : Option Record) r => match b with
      | none => some r
      | some x => if r.seq < x.seq then some r else some x) none
    match first with
    | none => noAns 6 s
    | some r =>
      let n := min 224 (r.len - off)
      (0, ⟨32 + n, recordHeader r + r.data / 2 ^ (8 * off) % 2 ^ (8 * n) * 2 ^ 256⟩, s)

end Sys2Proof.Machine
end

