-- ==== Sys2Proof/Machine/PageRows.lean ====
section
/-! DEFINITION. The outlet command page: its request words leaving the effect queue, and its heartbeat (spec/09 R253, R254). -/

namespace Sys2Proof.Machine

/-! ### The effect queue -/

/-- The entry at the front of a core's effect queue (spec/03 R80, R84). -/
def State.eqFront (s : State) (c : Nat) : Option EqEntry := (s.core c).eq.head?

/-- The front entry has left the core. -/
def State.eqPop (s : State) (c : Nat) : State := s.setCore c { s.core c with eq := (s.core c).eq.tail }

/-- The outlet whose page's request word an address is. -/
def pageOfWord (a : Nat) : Option Nat :=
  if 0x40000000 ≤ a ∧ a < 0x400C0000 ∧ a % 0x10000 = 0 then some ((a - 0x40000000) / 0x10000) else none

/-! ### The commit (spec/09 R253, Table 9-8) -/

/-- The staged fields and a request word as FC takes them. -/
def State.takenPage (s : State) (o w t : Nat) : CmdPage :=
  let r (off : Nat) : Nat := Memory.read s.mem (pageBase o + off) 4
  let d := (s.page o).stagedDuty
  { request := w % 256, reason := w / 256 % 256, state := r 0x008 % 256, bpt := (r 0x008).testBit 8, vSet := r 0x00C, iTarget := r 0x010,
    iDisTarget := r 0x014, vTest := r 0x018, vPc := r 0x01C, iEvMax := r 0x020, vEvMax := r 0x024, pEvMax := r 0x028, iEvDis := r 0x02C,
    pilotDuty := d, stagedDuty := d, at_ := t }

/-- What a new request brings at the converter (spec/05 Table 5-4, spec/09 R253). -/
def State.requestConverter (s : State) (o req t : Nat) : State :=
  match req with
  | 1 => s.energise o t
  | 2 => if s.convState o = 2 then (s.enterState o 3 t).sendCommands o else s
  | 3 => s.runIfClosed o t
  | 4 => (s.controlledStop o t).sessionEnds o t
  | 5 => s.immediateStop o 0x11 0 t
  | 6 => s.sessionEnds o t
  | 7 => s.sessionEnds o t
  | _ => s

/-- What a new request brings at the safety channels (spec/10 R279): 3 grants contactor closing while permitted, 0, 4 and 5 leave a grant, 5 is
an SF3 demand, any other withdraws the grant at once. -/
def State.requestSafety (s : State) (o req t : Nat) : State :=
  let k := s.outSafe o
  if req = 3 then
    if s.bit safetyStatePermit 0 o && !k.closing then
      (s.setOut o { k with closing := true, closeEnd := none, noWeld := false, openSince := if (s.safe.sa.view1 o).fb = 3 then none else some t }).setStatus o 12 false t
    else s
  else if req = 5 then (s.trip none o 0x05 3 t).demandStop o 0 t
  else if req = 0 ∨ req = 4 then s
  else s.withdrawClosing o t

/-- A request word handed over with the staged fields: repeating the request changes nothing beyond them (spec/09 R253). -/
def State.commitPage (s : State) (o w t : Nat) : State :=
  let s := s.ctlDue o t
  let old := (s.page o).request
  let p := s.takenPage o w t
  let s := ({ s with pages := Tab.set s.pages o p }).setStatus o 15 false t
  if p.request = old then s else (s.requestConverter o p.request t).requestSafety o p.request t

/-- The page commit of one request at the front of core `c`'s effect queue. -/
def State.pageRow (s : State) (t c req : Nat) : State :=
  let s := s.at t
  match s.eqFront c with
  | none => s
  | some e =>
    match pageOfWord e.addr with
    | none => s
    | some o => if e.data.toNat % 256 = req then ((s.eqPop c).commitPage o e.data.toNat t).entryLeft c t else s

/-- HOLD: request 0. -/
def execHold (t : Nat) (c : Fin 6) (s : State) : Res := .next (s.pageRow t c 0)
/-- ENERGISE: request 1. -/
def execEnergise (t : Nat) (c : Fin 6) (s : State) : Res := .next (s.pageRow t c 1)
/-- PRECHARGE: request 2. -/
def execPrecharge (t : Nat) (c : Fin 6) (s : State) : Res := .next (s.pageRow t c 2)
/-- CONTACTORS_CLOSED: request 3. -/
def execContactorsClosed (t : Nat) (c : Fin 6) (s : State) : Res := .next (s.pageRow t c 3)
/-- CONTROLLED_STOP: request 4. -/
def execControlledStop (t : Nat) (c : Fin 6) (s : State) : Res := .next (s.pageRow t c 4)
/-- IMMEDIATE_STOP: request 5. -/
def execImmediateStop (t : Nat) (c : Fin 6) (s : State) : Res := .next (s.pageRow t c 5)
/-- OPEN_CONTACTORS: request 6. -/
def execOpenContactors (t : Nat) (c : Fin 6) (s : State) : Res := .next (s.pageRow t c 6)
/-- UNLOCK: request 7 (spec/09 R257). -/
def execUnlock (t : Nat) (c : Fin 6) (s : State) : Res := .next (s.pageRow t c 7)

/-- HEARTBEAT_LAPSE (spec/09 R254): no request word for 100 ms while the converter is not OFF. -/
def execHeartbeatLapse (t : Nat) (o : Fin 12) (s : State) : Res :=
  let s := s.at t
  if s.convState o = 0 ∨ t < (s.page o).at_ + 100000000 + settleFc ∨ s.status o 15 then .next s
  else .next (((((s.setStatus o 15 true t).raise 0x2D t).controlledStop o t).sessionEnds o t))

end Sys2Proof.Machine
end

