-- ==== Sys2Proof/Machine/Effects.lean ====
section
/-! DEFINITION. Effect space and head mailboxes: what a load returns and does, what a store does as it leaves the effect queue (spec/02
R43–R46, spec/03 R80, spec/08 R232, spec/12 R343, spec/13 R359, R372, spec/15 R411). -/

namespace Sys2Proof.Machine

open Sys2Proof

/-- `n` bytes of a 64-bit word from byte `o` of it. -/
def wordPart (v o n : Nat) : Nat := v / 2 ^ (8 * o) % 2 ^ (8 * n)

/-! ### Loads -/

/-- A core's own read-to-clear block: the bytes returned are cleared (R46). -/
def State.readClear (s : State) (c a n : Nat) : Nat × State :=
  let w := a % 0x1000 / 8
  let k := s.core c
  let v := if w < 4 then Tab.get k.rc w 0 else 0
  let part := wordPart v (a % 8) n
  (part, if part = 0 then s else s.setCore c { k with rc := Tab.set k.rc w (v - part * 2 ^ (8 * (a % 8))) })

/-- A CAN page: buffers with LD only, headers lock and tails release; results; everything staged reads as zero (spec/13 R359, Table 13-5). -/
def State.readCan (s : State) (c a n : Nat) : Option (Nat × State) :=
  let ch := (a - 0x40400000) / 0x10000
  let off := a % 0x10000
  let b := if off < 0x1000 then 32 + off / 0x80 else 64
  let o := if off < 0x1000 then off % 0x80 else off - 0x1000
  if off < 0x1058 then
    (if n ≠ 8 then none
     else if 0x58 ≤ o then some (0, s)
     else if o = 0 then some (s.loadCanHeader c ch b)
     else if o = 0x50 then some (s.loadCanTail c ch b)
     else some (Memory.read s.mem a 8, s))
  else if 0x3008 ≤ off ∧ off < 0x3048 then some (Memory.read s.mem a n, s)
  else some (0, s)

/-- The mesh page (spec/13 R372, Table 13-10). -/
def State.readMesh (s : State) (c a n : Nat) : Option (Nat × State) :=
  let off := a % 0x10000
  let r := (off - 0x2000) / 0x200
  let o := off % 0x200
  if 0x2000 ≤ off ∧ off < 0x4000 then
    (if n ≠ 8 then none
     else if 0x1A8 ≤ o then some (0, s)
     else if o = 0 then some (s.loadMeshHeader c r)
     else if o = 0x1A0 then some (s.loadMeshTail c r)
     else some (Memory.read s.mem a 8, s))
  else if 0x1008 ≤ off ∧ off < 0x1048 then some (Memory.read s.mem a n, s)
  else some (0, s)

/-- The class of a journal append page's records (spec/15 Table 15-5). -/
def journalClass (a : Nat) : Nat := if a / 0x10000 = 0x4010 then 3 else if a / 0x10000 = 0x4011 then 4 else 0

/-- A load of `n` bytes from a granted page of effect space; none where the page refuses it. Write-only words and unlisted ones read as zero;
the two send pages whose layout is not given read as free values (notes/assumptions/9.md). -/
def State.effectRead (s : State) (c a n : Nat) : Option (Nat × State) :=
  let off := a % 0x10000
  if a < 0x40100000 then some (if 0x100 ≤ off then Memory.read s.mem a n else 0, s)
  else if a < 0x40130000 then
    some (if off / 8 = 0x20 then wordPart (Tab.get s.jr.results (8 * c + journalClass a) 0) (off % 8) n else 0, s)
  else if a < 0x40220000 then some (Config.unstatedLayout 0x4020 (a % 65536) s.free % 2 ^ (8 * n), { s with free := s.free + 1 })
  else if a < 0x40230000 then none
  else if a < 0x40400000 then some (s.readClear c a n)
  else if a < 0x40440000 then s.readCan c a n
  else s.readMesh c a n

/-- A load from a mailbox: the state word is formed as it is read, what is only written reads as zero (spec/12 Table 12-11). -/
def State.mailRead (s : State) (a n : Nat) : Nat :=
  let off := a % 0x10000
  let h := (a - 0x50000000) / 0x10000
  if off / 8 = 1 then wordPart (s.mailState h) (off % 8) n
  else if 0x100 ≤ off ∧ off < 0x8000 then 0
  else Memory.read s.mem a n

/-! ### Stores leaving the effect queue -/

/-- Where a core's staged journal payload lies: each core's apart (notes/assumptions/34.md). -/
def stageAddr (c a : Nat) : Nat := 0x1000000000 + 0x100000000 * c + a

/-- What refuses an append: length 2, quota 1, ring 3 (spec/15 R408, R411, R416); LEGAL records are refused for their length only. -/
def State.appendRefusal (s : State) (cls len : Nat) : Nat :=
  let today := if cls = 3 then s.get wearOpenToday 0 else s.get wearLinkToday 0
  if len = 0 ∨ 224 < len then 2
  else if cls = 0 then 0
  else if 16000000 < today + len then 1
  else if s.ringFull len then 3
  else 0

/-- An append of the staged bytes as one record of the page's class (spec/15 R411): its outcome is the core's result on that page. -/
def State.appendRow (s : State) (c a w t : Nat) : State :=
  let cls := journalClass a
  let len := w % 2 ^ 16
  let refusal := s.appendRefusal cls len
  let result (v : Nat) (s : State) : State := { s with jr := { s.jr with results := Tab.set s.jr.results (8 * c + cls) v } }
  if refusal = 3 then (result 3 s).setLost 5 true t
  else if refusal ≠ 0 then result refusal s
  else
    let seq := Tab.get s.jr.seqs cls 1
    let data := Memory.read s.mem (stageAddr c (a / 0x10000 * 0x10000 + 8)) len
    let s := s.append cls (w / 2 ^ 16 % 2 ^ 16) 0 len data t
    let s := if cls = 3 then s.inc wearOpenToday 0 len else if cls = 4 then s.inc wearLinkToday 0 len else s
    result (seq % 2 ^ 32 * 2 ^ 32) (s.noteRing t).noteBudget

/-- A store that only stages its bytes. -/
def State.stage (s : State) (e : EqEntry) : State := s.poke e.addr (if e.wide then 8 else 4) e.data.toNat

/-- A store to an outlet command page (spec/09 Table 9-8). -/
def State.pageStore (s : State) (e : EqEntry) (t : Nat) : State :=
  let off := e.addr % 0x10000
  let o := (e.addr - 0x40000000) / 0x10000
  if off = 0 then s.commitPage o (e.data.toNat % 2 ^ 32) t
  else if off = 0x30 then { s with pages := Tab.set s.pages o { s.page o with stagedDuty := e.data.toNat % 65536 } }
  else if off < 0x40 then s.stage e
  else s

/-- A store to a journal append page (spec/15 Table 15-5): only an SD commits. -/
def State.journalStore (s : State) (c : Nat) (e : EqEntry) (t : Nat) : State :=
  let off := e.addr % 0x10000
  if off = 0 then (if e.wide then s.appendRow c e.addr e.data.toNat t else s)
  else if 8 ≤ off ∧ off < 0xE8 then s.poke (stageAddr c e.addr) (if e.wide then 8 else 4) e.data.toNat
  else s

/-- A receipt named by the legal partition queued for delivery (spec/08 R232). -/
def State.receiptStore (s : State) (w : Nat) : State :=
  if w = 0 ∨ s.bill.nextReceipt ≤ w then s else { s with bill := { s.bill with sendQ := s.bill.sendQ ++ [w] } }.flushReceipts

/-- A store to a CAN page: slots staged, the doorbell queues one (spec/13 R361). -/
def State.canStore (s : State) (c : Nat) (e : EqEntry) (t : Nat) : State :=
  let off := e.addr % 0x10000
  if 0x2000 ≤ off ∧ off < 0x2400 then s.stage e
  else if off = 0x3000 then s.canDoor c ((e.addr - 0x40400000) / 0x10000) (e.data.toNat % 8) t
  else s

/-- A store to the mesh page (spec/13 R372). -/
def State.meshStore (s : State) (c : Nat) (e : EqEntry) (t : Nat) : State :=
  let off := e.addr % 0x10000
  if off < 0x1000 then s.stage e else if off = 0x1000 then s.meshDoor c (e.data.toNat % 8) t else s

/-- A store to a mailbox (spec/12 R343). -/
def State.mailStore (s : State) (e : EqEntry) : State :=
  let off := e.addr % 0x10000
  if 0x1000 ≤ off ∧ off < 0x5000 then s.stage e
  else if off = 0x100 then s.mailDoor ((e.addr - 0x50000000) / 0x10000) e.data.toNat
  else s

/-- A retired entry whose target no longer answers: dropped and counted in the core's read-to-clear block, not retried (spec/03 R87,
spec/02 R46). -/
def State.dropEntry (s : State) (c : Nat) : State :=
  let k := s.core c
  s.setCore c { k with rc := Tab.set k.rc 3 (min (Tab.get k.rc 3 0 + 1) (2 ^ 64 - 1)) }

/-- The effect of one entry as it leaves the effect queue of core `c` (spec/03 R80). The target that may no longer answer is the mailbox of a
head that has been lost (notes/assumptions/43.md). A store to a read-only or unlisted word, to the status
block or to a send page whose layout is not given has none. -/
def State.effectStore (s : State) (c : Nat) (e : EqEntry) (t : Nat) : State :=
  let a := e.addr
  if isMailbox a then (if s.mailState ((a - 0x50000000) / 0x10000) = 3 then s.dropEntry c else s.mailStore e)
  else if a < 0x40100000 then s.pageStore e t
  else if a < 0x40130000 then s.journalStore c e t
  else if a < 0x40220000 then s
  else if a < 0x40230000 then s.receiptStore e.data.toNat
  else if a < 0x40400000 then s
  else if a < 0x40440000 then s.canStore c e t
  else s.meshStore c e t

/-- The front entry of a core's effect queue leaves, where it is one that `p` names. -/
def State.drain (s : State) (t c : Nat) (p : EqEntry → Bool) : State :=
  let s := s.at t
  match s.eqFront c with
  | none => s
  | some e => if p e then ((s.eqPop c).effectStore c e t).entryLeft c t else s

/-- Every retired entry of core `c` leaves, in order: before a warm reset, a takeover or a failure of the core completes (spec/03 R87). -/
def State.drainCore (s : State) (c t : Nat) : State :=
  (List.range (s.core c).eq.length).foldl (fun (s : State) _ => s.drain t c fun _ => true) s

/-- EFFECT_QUEUE_DRAIN (spec/03 R80): also from a core that has failed or been reset (R87). -/
def execEffectQueueDrain (t : Nat) (c : Fin 6) (s : State) : Res := .next (s.drain t c fun _ => true)

/-- JOURNAL_APPEND (spec/15 R411): the commit word of an append page leaves. -/
def execJournalAppend (t : Nat) (c : Fin 6) (s : State) : Res :=
  .next (s.drain t c fun e => inRange e.addr 0x40100000 0x4012FFFF && e.addr % 0x10000 == 0 && e.wide)

/-- RECEIPT_SEND (spec/08 R232): the word of the legal send page leaves. -/
def execReceiptSend (t : Nat) (c : Fin 6) (s : State) : Res := .next (s.drain t c fun e => e.addr == 0x40220000)

/-- MAILBOX_DOORBELL (spec/12 R343). -/
def execMailboxDoorbell (t : Nat) (c : Fin 6) (s : State) : Res :=
  .next (s.drain t c fun e => isMailbox e.addr && e.addr % 0x10000 == 0x100)

/-- CAN_DOORBELL (spec/13 R361). -/
def execCanDoorbell (t : Nat) (c : Fin 6) (s : State) : Res :=
  .next (s.drain t c fun e => inRange e.addr 0x40400000 0x4043FFFF && e.addr % 0x10000 == 0x3000)

/-- MESH_DOORBELL (spec/13 R372). -/
def execMeshDoorbell (t : Nat) (c : Fin 6) (s : State) : Res := .next (s.drain t c fun e => e.addr == 0x40441000)

end Sys2Proof.Machine
end

