-- ==== Sys2Proof/Machine/Reset.lean ====
section
/-! DEFINITION. Resets of either side, journal recovery and the start of either side (spec/15 R418, spec/16 R432–R437, R442, Table 16-5). -/

namespace Sys2Proof.Machine

open Sys2Proof

/-! ### Reset records (spec/16 R437) -/

/-- A reset recorded in mode.reset and as event 0x02: stamp of the field side, zero for the host side. -/
def State.recordReset (s : State) (side : Side) (code port role t : Nat) : State :=
  let j := s.sup.resets % 16
  let sd := match side with | .host => 0 | .field => 1
  let s := ((s.put modeResetStamp j (if sd = 0 then 0 else t)).put modeResetUtc j (s.legal t)).put modeResetCode j code
  let s := ((s.put modeResetSide j sd).put modeResetPort j port).put modeResetRole j role
  let s := { s with sup := { s.sup with resets := s.sup.resets + 1 } }
  (s.eventBy 0x02 sd code 0 port role t).emit (.reset side code)

/-! ### The field side (spec/16 R433, R436) -/

/-- What the device-state area brings back over every reset (spec/15 Table 15-2): failed cores, spares, failed phases. -/
def deviceState : List (Fld × Nat) :=
  [(sparesFailed, 0), (sparesFlashLeft, 0), (sparesMramLeft, 0), (sparesHostnvLeft, 0)]
    ++ (List.range 13).map fun c => (ctlStateFailedMap, c)

/-- Whether a key of the store survives a field-side reset: every class but 1; the lanes of the host side; over a warm reset every lane and
avenue. -/
def survives (cold : Bool) (k : Nat) : Bool :=
  let o := keyObj k
  let i := k / 4 / 65536 % 65536
  keyCls k != 1 || (o == 0x1300 && decide (i < 4)) || (!cold && (o == 0x1300 || o == 0x1320 || o == 0x1330))

/-- Whether an object's change counter is journaled with it: of CONFIG custody (spec/14 R382). -/
def counterKept (o : Nat) : Bool :=
  (groupOf o).isSome || [0x0140, 0x0181, 0x0C01, 0x0C02, 0x0C03, 0x0C04, 0x1110, 0x1120].contains o

/-- A deadline of the host side as site time starts again from 0 (spec/01 R28, notes/assumptions/31.md). -/
def rebase (now x : Nat) : Nat := x - now

/-- The stamps of a Causeway direction moved to the new site time. -/
def CwDir.rebased (d : CwDir) (now : Nat) : CwDir :=
  { d with kept := d.kept.map fun k => { k with startAt := rebase now k.startAt, lastAt := rebase now k.lastAt } }

/-- The host side's stamps moved to the new site time. -/
def State.rebaseHost (s : State) : State :=
  let n := s.now
  let ports := s.hosts.ports.map fun (e : Nat × Port) =>
    (e.1, { e.2 with awaits := e.2.awaits.map fun a => { a with sentAt := rebase n a.sentAt, first := rebase n a.first },
                     last := e.2.last.map fun (x : Nat × Nat × Payload) => (x.1, rebase n x.2.1, x.2.2) })
  { s with hosts := { ports := ports, consoleUntil := s.hosts.consoleUntil.map (rebase n) }
           keys := { s.keys with approval := s.keys.approval.map (rebase n), lastChange := rebase n s.keys.lastChange }
           sup := { s.sup with hostUpAt := rebase n s.sup.hostUpAt, wdoUntil := rebase n s.sup.wdoUntil,
                               kicks := s.sup.kicks.map fun (e : Nat × Nat) => (e.1, rebase n e.2) }
           cway := { s.cway with retrainAt := rebase n s.cway.retrainAt, hostHeard := 0, fieldHeard := 0, uncorr := [], hostAbsentSince := 0,
                                 toField := s.cway.toField.rebased n, toHost := s.cway.toHost.rebased n } }

/-- Site time after a reset of the field side: from 0 at the calibrated rate (spec/01 R28). The field clock fallback lasts until a cold reset
(R31). -/
def Clock.afterReset (k : Clock) (cold : Bool) (t : Nat) : Clock :=
  let stays := k.fallback && !cold
  { Clock.reset with rtc := { k.rtc with at_ := k.rtc.at_ - t }, nominal := k.nominal, inc := k.nominal, fallback := stays, base := if stays then .degraded else .free }

/-- The slots after a reset: assigned ones idle; a faulted one stays so, and what a spare stands for with it (spec/05 R140, R165; the spare
state of spec/15 Table 15-2). -/
def State.slotsAfterReset (s old : State) : State :=
  (List.range 64).foldl (fun (s : State) n =>
    let s := if 56 ≤ n then s.put ctlSlotStandsFor n (old.get ctlSlotStandsFor n) else s
    s.put ctlSlotState n (if old.get ctlSlotState n = 5 then 5 else if s.get ctlSlotConv n ≤ 12 then 1 else 0)) s

/-- The field side in reset: what is not durable is lost, site time starts again, the mode is BOOT (spec/15 Table 15-1, spec/16
Table 16-2). Before a warm reset completes the retired entries of the effect queues leave (spec/03 R87). A warm reset leaves a fault record of
cause 0x0F for each converter it stops (R442). -/
def State.fieldReset (s : State) (cold : Bool) (code port role t : Nat) : State :=
  let before := s
  let s := if cold then s else [0, 1, 2, 3, 4, 5].foldl (fun (s : State) c => s.drainCore c t) s
  let s := if code = 5 ∨ code = 6 then
      (List.range 13).foldl (fun s c => if s.convActive c then s.faultRecord c 0x0F 0 t true else s) s
    else s
  let s := s.recordReset .field code port role t
  let kept := deviceState.map fun (e : Fld × Nat) => (e.1, e.2, s.get e.1 e.2)
  let s := s.setDur { s.dur with residual := s.met.residualDone, ready := none, eccAt := 0, hotAt := 0, deepAt := 0, frozenDone := false,
                                 sram := [] }
  let s := { s with objs := s.objs.filter (fun e => survives cold e.1), chg := s.chg.filter (fun e => counterKept (e.1 / 65536)) }
  let s := { s with mem := [], cores := [], openChan := [], clk := s.clk.afterReset cold t,
                    kerb := Kerb.reset, pages := [], ctl := Ctl.reset, cool := Cool.reset, met := Met.reset, link := [], safe := Safe.reset,
                    net := Networks.reset, batt := Batt.reset, diag := Diag.reset, pins := { Pins.reset with loops := s.pins.loops }, jr := { s.jr with results := [] } }
  let s := if cold then { s with lanes := { lanes := s.lanes.lanes.filter fun e => decide (e.1 < 4), avns := [], heads := [] } } else s
  let s := { s with bill := { s.bill with enterAt := [], leaveAt := [], step := none, stepped := none, subWhole := false } }
  let s := s.rebaseHost
  let s := { s with now := 0, sup := { s.sup with warn := none, warnHeld := false, fieldWarn := false, fieldUp := false, bootStep := 0, goodAt := 0, upBase := s.sup.upBase + t,
                                                  pfailf := s.sup.pfailf.map fun _ => 0, kicks := s.sup.kicks.filter fun e => decide (e.1 = 0) } }
  let s := (kept.foldl (fun s (e : Fld × Nat × Nat) => s.put e.1 e.2.1 e.2.2) s).slotsAfterReset before
  ((s.put modeStateCause 0 1).refreshReady).refreshLands 0

/-! ### Journal recovery (spec/15 R418) -/

/-- The newest bundle, where its copy is whole the latest one, else that of the other copy (R407, R418), applied where it is newer than the
checkpoint. -/
def State.applyBundle (s : State) (c : Checkpoint) (valid : Bool) : State :=
  match if valid then s.bill.bundle else s.bill.bundleOld with
  | some b =>
    if c.bundleSeq < b.seq then
      { s with objs := b.fields.foldl (fun (o : Store) (e : Nat × Nat) => Tab.set o e.1 e.2) s.objs
               bill := { s.bill with subs := b.subs, subStart := b.subStart } }
    else s
  | none => s

/-- Billing sessions that a loss of the field side cut are closed at index `k` with flag [2] (spec/08 R230): as the checkpoint holds them, one
opened since with nothing counted. -/
def State.closeCut (s : State) (live held : Tab BillSess) (k t : Nat) : State :=
  let s := { s with bill := { s.bill with sessions := [] } }
  outlets.foldl (fun s o => match Tab.find live o with
    | none => s
    | some b =>
      let none_ := { b with regStart := s.mainReg o, retStart := if s.netMode o then 0 else s.get meterOutletERet o,
                            substStart := s.get meterOutletESubst o, gapStart := s.get meterOutletGapNs o, deliv := [], ret := [], pMax := 0 }
      s.receipt o k (Tab.get held o none_) 4 t) s

/-- The registers resume from a checkpoint; billing sessions that were open are closed at its index; the demand interval it held is closed
flagged power-out (spec/08 R229). -/
def State.resumeFrom (s : State) (c : Checkpoint) (bundleValid : Bool) (t : Nat) : State :=
  let live := s.bill.sessions
  let s := { s with objs := c.fields.foldl (fun (o : Store) (e : Nat × Nat) => Tab.set o e.1 e.2) (s.objs.filter fun e => !ckObj (keyObj e.1)) }
  let s := { s with met := { s.met with quants := c.quants.map fun (e : Nat × Quantity) =>
                                          (e.1, { e.2 with gap := false, gapFrom := 0, whole := 0, substAt := none, residual := 0, rhoX := 0 }) }
                    bill := { s.bill with subs := c.subs, subStart := c.subStart } }
  let s := (s.applyBundle c bundleValid).closeCut live c.sessions c.k t
  let s := s.closeInterval (some 3) (s.nextBoundary (s.get billStateBLast 0)) c.siteTime
  let s := s.openInterval (some 3) true 0 t
  { s with bill := { s.bill with cut := true } }

/-- Recovery with what the NV copies turn out to hold: durable.recovery's kind, the checkpoint resumed from, events 8, 9 and 22. -/
def State.recover (s : State) (r : RecoveryIn) (t : Nat) : State :=
  let a := if r.validA then s.dur.a else none
  let b := if r.validB then s.dur.b else none
  let hot := newest a b
  let torn := (newest s.dur.a s.dur.b).any fun c => c.frozen && hot != some c
  let s := { s with objs := s.dur.ecc.foldl (fun (o : Store) (e : Nat × Nat) => Tab.set o e.1 e.2) (s.objs.filter fun e => keyObj e.1 != 0x1820) }
  let s := (s.put recoveryReplayed 0 s.jr.ring.length).put recoveryDuration 0 r.durationUs
  let ck : Option Checkpoint := match hot with | some c => some c | none => s.dur.deep
  match ck with
  | none =>
    let s := s.closeCut s.bill.sessions [] 0 t
    let s := if (newest s.dur.a s.dur.b).isSome then s.closeInterval (some 3) (s.nextBoundary (s.get billStateBLast 0)) s.bill.subStart else s
    let s := s.openInterval (some 3) true 0 t
    { s with bill := { s.bill with cut := true } }
  | some c =>
    let deep := hot.isNone
    let s := ((s.put recoveryCkSeq 0 c.seq).put recoveryCkK 0 c.k).put recoveryKind 0
      (if deep then 4 else if c.frozen then 1 else if torn then 3 else 2)
    let s := if deep then (s.legalRecord recDeepRestore 8 c.k t).tamper 22 14 t else s
    let s := s.resumeFrom c r.bundleValid t
    if c.frozen then
      (if s.dur.residual then s else (((s.put meterHoldupState 0 3).gapRecord 2 c.legal (s.legal t) t)).tamper 9 3 t)
    else (s.gapRecord 1 c.legal (s.legal t) t).tamper 8 s.nextGap t

/-! ### Start of the field side (spec/16 R433, Table 16-3 steps 1 to 4) -/

/-- A step's end, ms after power good: not before the one before it, not after its limit (spec/16 Table 16-3 gives the limits alone). -/
def State.bootTime (s : State) (k lo hi : Nat) : Nat × State :=
  let f := s.fresh
  let v := lo + f.1 % (hi + 1 - lo)
  (v, f.2.put (modeBootTStep k) 0 v)

/-- Marks the device-state area brings back made visible: sensors voted out, phases failed, cores failed, spares, link B. -/
def State.showKept (s : State) (t : Nat) : State :=
  let s := (List.range 46).foldl (fun s n => if s.get thermSensorOutStamp n = 0 then s else s.put thermSensorStatus n 2) s
  let s := s.refreshSensors t
  let s := (List.range 13).foldl (fun s c => (s.putFlag ctlStateDegraded c (s.get ctlStateFailedMap c != 0)).reportPhases c) s
  let failed := [0, 1, 2, 3, 4].filter fun n => s.bit sparesFailed 0 n
  let s := s.setLost 0 (decide (2 ≤ failed.length) || (s.bit sparesFailed 0 5 && !failed.isEmpty)) t
  let waits := failed.any fun n => decide (n < 3) && !s.bit durableConfigPreApprove 0 n && !s.dur.approved.contains n
  let s := (s.putFlag sparesAwaiting 0 waits).setExhausted 2 (decide (s.cway.link = 1)) t
  let s := (s.setExhausted 7 s.clk.fallback t).put meterStatusTimeBase 0 (if s.clk.fallback then 3 else s.get meterStatusTimeBase 0)
  (s.refreshSpares t).reportSlots t

/-- Every start raises a NOTIFY of batt.summary to those who subscribe (spec/11 R307): what they were sent last no longer counts. -/
def State.summaryDue (s : State) : State :=
  let forget (k : Port) : Port := { k with last := k.last.map fun e => if e.1 = 0x1250 * 65536 then (e.1, (0, ⟨0, 0⟩)) else e }
  { s with hosts := { s.hosts with ports := s.hosts.ports.map fun p => (p.1, forget p.2) } }

/-- The engines at the end of step 4: estimator, spares, control engine, node table, calendar, SAFE-HOLD's causes, the channels' self-test. -/
def State.startEngines (s : State) (selftest t : Nat) : State :=
  let s := ((s.startBatt.summaryDue).showKept t).refreshEngine
  let s := (s.countNodes).showBoundary t
  let s := s.putFlag safetyStateHold 0 (s.get modeStateHold 0 != 0)
  let s := if s.bit modeStateHold 0 3 then s.put thermStateThermal 0 2 else s
  let s := if selftest.testBit 11 then s.channelFault .sa 0x0D t else s
  let s := if selftest.testBit 12 then s.channelFault .sb 0x0D t else s
  (s.refreshReady).refreshLands t

/-- Steps 1 to 4, or 3 and 4 alone after a warm reset (`full` false, R436): repair maps and self-test, journal recovery with metering from its end, safety channels with SAFE-HOLD's causes read back.
A failed self-test of a site core marks it failed, of a safety channel is a channel fault; of another island it holds the field side in
BOOT (R433). -/
def State.startField (s : State) (full : Bool) (selftest coreFail : Nat) (r : RecoveryIn) (t : Nat) : State :=
  let s := { s with cway := { s.cway with fieldCold := false } }
  let s := { s with sup := { s.sup with fieldUp := true, goodAt := t, bootStep := 4, kicks := [1, 2, 3, 4, 5].foldl (fun (k : Tab Nat) n => Tab.set k n t) s.sup.kicks } }
  let s := s.put modeBootSelftestFail 0 selftest
  let a := if full then s.bootTime 0 0 60 else (0, s)
  let b := if full then a.2.bootTime 1 a.1 60 else a
  let c := b.2.bootTime 2 b.1 210
  let s := (c.2.bootTime 3 c.1 230).2
  let s := [0, 1, 2, 3, 4].foldl (fun s n => if coreFail.testBit n && !s.bit sparesFailed 0 n then s.coreFail n t else s) s
  let s := [0, 1, 2, 3, 4, 5].foldl (fun s n => if s.bit sparesFailed 0 n then s.setCore n { s.core n with run := .failed } else s) s
  let s := (s.put allocSiteAvail 0 (s.get allocSiteAvailFallback 0)).recover r t
  s.startEngines selftest t

/-- What a start finds where the hot tier is preserved: every copy whole. -/
def wholeCopies : RecoveryIn := { validA := true, validB := true, bundleValid := true, durationUs := 0 }

/-! ### The host side (spec/14 R381, R385, spec/16 R437) -/

/-- The host side in reset: what it holds outside NV is lost; the field side keeps running (R13). Its half of the Causeway drops what it kept
unacknowledged; the lseq of both directions go on where they stood (DESIGN CHOICE: spec/01 R16 states no resynchronisation,
notes/assumptions/41.md). -/
def State.hostReset (s : State) (code port role t : Nat) : State :=
  let s := (s.recordReset .host code port role t).endHostInjections t
  let keep (e : Nat × Nat) : Bool := keyCls e.1 != 2 && !(keyObj e.1 == 0x1300 && decide (e.1 / 4 / 65536 % 65536 < 4))
  let gone (u : HeldUnit) : Bool := match u.unit with | .host _ => true | .sent .. => true | _ => false
  let s := { s with objs := s.objs.filter keep, hosts := Hosts.reset, lanes := { s.lanes with lanes := s.lanes.lanes.filter fun e => decide (4 ≤ e.1) }
                    keys := { s.keys with slots := [], approval := none }, diag := { s.diag with held := s.diag.held.filter fun e => !gone e.2 }
                    cway := { s.cway with toField := { s.cway.toField with kept := [] }, resetAsk := none }
                    sup := { s.sup with hostUp := false, hostServing := false, recovery := false,
                                        wdoUntil := if code = 4 then t + 100000000 else s.sup.wdoUntil } }
  (s.refreshReady).refreshLands t

/-- The pinned pralines loaded (spec/14 R391). -/
def State.loadPinned (s : State) : State :=
  (List.range 1024).foldl (fun s n => if s.get pralineMagic n ≠ 0 ∧ s.flag pralinePin n then (s.loadPraline n).2 else s) s

/-- The host side out of reset with its straps: it serves, in host recovery on HP4 and the console only (R432). The manufacturing strap
outside BLANK counts as normal, with an event. -/
def State.startHost (s : State) (straps t : Nat) : State :=
  let odd := straps == 3 && s.lifecycle != 0
  let s := if odd then s.event 0x02 0 0 straps t else s
  let s := { s with cway := { s.cway with hostCold := false } }
  let s := { s with sup := { s.sup with hostUp := true, hostServing := true, straps := straps, recovery := straps == 2, hostUpAt := t,
                                        kicks := Tab.set s.sup.kicks 0 t } }
  let s := if s.keys.identity then s.loadPinned else s
  ((s.drive 7 true).refreshReady).refreshLands t

end Sys2Proof.Machine
end

