-- ==== Sys2Proof/Machine/InvokeModes.lean ====
section
/-! DEFINITION. mode.cmd, partition.cmd, time.set and diag.cmd, and how an INVOKE reaches its action (spec/14 R402, spec/16 R427, R430,
R436, R444). -/

namespace Sys2Proof.Machine

open Sys2Proof

/-! ### mode.cmd (spec/16 R427, R430, R436) -/

/-- Whether a held cause of SAFE-HOLD accepts mode.cmd 5 of a role at `t`: its precondition met before, the role its own; SF1 accepts none
(spec/16 R430). -/
def State.holdAccepts (s : State) (cause role t : Nat) : Bool :=
  let past := (Tab.find s.safe.clearAt cause).any fun c => decide (c < t)
  if cause = 1 ∨ cause = 2 then past && (role == 4 || role == 5)
  else if cause = 3 then past && (role == 1 || role == 4 || role == 5)
  else false

/-- mode.cmd 5: every cause held must accept it. -/
def State.leaveByRequest (s : State) (port role t : Nat) : Ans :=
  let held := [0, 1, 2, 3].filter fun c => s.bit modeStateHold 0 c
  if s.get modeStateMode 0 ≠ 4 ∨ (held.all fun c => s.holdAccepts c role t) = false then noAns 7 s
  else okAns ((s.put modeStateHold 0 0).leaveHold port role t)

/-- mode.cmd 6 and 7: a RESET message leaves; the request is answered once it is acknowledged (spec/16 R436). -/
def State.askReset (s : State) (cold : Bool) (r : Req) (t : Nat) : Ans :=
  let p := r.port.val
  if ((List.range 13).all s.convIdle) = false then noAns 7 s
  else
    let s := s.cwSend .host 0x06 0 ((if cold then 1 + 7 * 2 ^ 8 else 6 * 2 ^ 8) + p * 2 ^ 16 + s.portRole p * 2 ^ 24) noPayload t
    (0xFFFF, noPayload, { s with cway := { s.cway with resetAsk := some r } })

/-- mode.cmd. -/
def State.modeCmd (s : State) (code : Nat) (r : Req) (t : Nat) : Ans :=
  let p := r.port.val
  let role := s.portRole p
  let m := s.get modeStateMode 0
  if code = 1 then (if m = 1 ∧ s.ready then okAns (s.toService p role t) else noAns 7 s)
  else if code = 2 then (if m = 2 ∨ m = 3 then okAns (s.moveMode 1 9 p role t) else noAns 7 s)
  else if code = 3 then
    (if (m = 1 ∨ m = 2 ∨ m = 3) ∧ outlets.all s.convIdle then okAns (s.moveMode 5 10 p role t) else noAns 7 s)
  else if code = 4 then (if m = 5 then okAns (s.moveMode 1 11 p role t) else noAns 7 s)
  else if code = 5 then s.leaveByRequest p role t
  else s.askReset (code == 7) r t

/-! ### partition.cmd (spec/16 R444) -/

/-- partition.cmd 1: the reason the loader would give. -/
def State.checkStaged (s : State) (target : Nat) : Ans := (0, payloadOf 1 (s.checkImage (Sys2Proof.Machine.imageOf s.staged) target), s)

/-- Both safety channels restart with a new image of kind 4; a set it does not admit becomes inactive (spec/16 R444, spec/10 R288). -/
def State.restartSafety (s : State) (img : Image) (t : Nat) : State :=
  let s := ((s.withdrawAll t).offGrp 0 t).offGrp 1 t
  let s := { s with safe := { s.safe with sa := Chn.reset, sb := Chn.reset } }
  let s := if Config.rangesAdmit img.digest.toNat (ofBytes (s.safetyBytes 0 0)) then s else s.put safetyStateCommitted 0 0
  s.refreshEngine.refreshReady

/-- The cores of a target restart with its image, as the port and role that asked activated it (R437). -/
def State.restartWith (s : State) (target : Nat) (img : Image) (port role t : Nat) : State :=
  if target < 5 then
    let c := s.physical target
    let s := s.put partImageReason c 0
    let s := s.drainCore c t
    if (s.core c).run = .failed then s else (s.startCore c img).refreshReady
  else if target = 5 then s.hostReset 9 port role t
  else s.restartSafety img t

/-- partition.cmd 2: the staged image becomes active, the minimum version of its kind rises, its cores restart. For the port image the ACK
leaves before the host side's reset. -/
def State.activateStaged (s : State) (target port role t : Nat) (answer : State → State) : State × Option Nat :=
  let img := Sys2Proof.Machine.imageOf s.staged
  let kind := img.kind.toNat
  let reason := s.checkImage img target
  if ¬ (role = 5 ∨ (role = 2 ∧ kind = 0)) then (s, some 3)
  else if ¬ (s.get modeStateMode 0 = 5 ∨ (s.sup.recovery ∧ kind = 3)) then (s, some 7)
  else if reason ≠ 0 then
    (((if target < 6 then s.put partImageReason target reason else s)).event 0x09 target reason 0 t, some 6)
  else
    let s := { s with imgs := { s.imgs with minVer := Tab.set s.imgs.minVer kind img.imgVer.toNat } }
    let s := ((s.setActive target img t).crqChange 13 t).event 0x09 target 0 0 t
    let s := if kind = 2 then s.tamper 7 img.imgVer.toNat t else s
    ((answer s).restartWith target img port role t, none)

/-! ### time.set (spec/08 R216) -/

/-- time.set 1: the step waits for the next mark; the answer is its Δ against the second after the present one. Where no pair of site time
and UTC is known the RTC's second, and so Δ, is a free value (notes/assumptions/29.md). -/
def State.setTime (s : State) (utc port role t : Nat) : Ans :=
  let f := s.fresh
  let d := if s.clk.pair.isSome then ofSigned 64 ((utc : Int) - ((s.legalNs t / 1000000000 + 1 : Nat) : Int)) else f.1 % 2 ^ 64
  let s := if s.clk.pair.isSome then s else f.2
  (0, payloadOf 8 d, { s with bill := { s.bill with step := some (utc, port, role) } })

/-! ### diag.cmd (spec/18 R476) -/

/-- diag.cmd 1: an injection, or all of them, stopped. -/
def State.stopInjections (s : State) (i t : Nat) : Ans :=
  okAns (((List.range 8).filter fun j => i == 0xFF || i == j).foldl (fun s j =>
    if s.get injectState j = 1 then s.endInjection j 4 t else s) s)

/-! ### INVOKE -/

/-- What an INVOKE of an object's code does. -/
def State.act (s : State) (m : HostMsg) (code t : Nat) : Ans :=
  let i := m.req.index.toNat
  let p := m.req.port.val
  let role := s.portRole p
  let pl := m.req.payload
  match m.obj with
  | 0x0020 => s.modeCmd code m.req t
  | 0x0540 => if code = 1 then s.releaseHeld i role t else s.releasePhase i (argAt pl 4 1) t
  | 0x06A0 => s.restoreSensor i t
  | 0x08E0 => if code = 1 then s.breakSeal p t else okAns (s.closeSeal t)
  | 0x0CF0 =>
    if code = 1 then s.activateAt (argAt pl 8 8) t else if code = 2 then s.closeBillPeriod t else s.resendFrom (argAt pl 8 8)
  | 0x1030 =>
    if code ≤ 2 then s.answerAuth i (code == 1) t else if code = 3 then s.hostStop i (argAt pl 4 1) t else s.releaseWeld i t
  | 0x11F0 =>
    if code = 1 then (if i = 0 then s.commitSafety (argAt pl 4 4) t else noAns 2 s)
    else if code = 2 then s.safetyStop i t
    else if code = 3 then s.safetyRelease i
    else if code = 4 then s.clearGroup i t
    else s.clearChan i t
  | 0x13F0 => if code = 1 then s.retrainLane i t else s.reformAvenue i t
  | 0x1403 => s.nodeCmd i code
  | 0x1450 => s.recoverCan i
  | 0x14F0 => s.askTones i
  | 0x0118 => if code = 1 then s.enableConsole p t else s.disableConsole
  | 0x0160 => s.keyCmd code pl t
  | 0x0190 => s.lcCmd code p pl t
  | 0x01E0 => s.attestFor p (argAt pl 4 32) t
  | 0x1B02 => s.setTime (argAt pl 8 8) p role t
  | 0x1A60 => s.checkStaged i
  | 0x1860 => s.readRecord pl role
  | 0x18F0 => if code = 1 then s.approveTakeover i else s.clearMark i t
  | 0x19F0 => s.stopInjections i t
  | _ => noAns 2 s

/-- INVOKE: form, roles of the code, action, answer. The activation of an image answers within itself, before the cores restart. -/
def State.doInvoke (s : State) (m : HostMsg) (t : Nat) : State :=
  let code := argAt m.req.payload 0 1
  let role := s.portRole m.req.port.val
  let bad := formOf m.obj m.req.payload
  if bad ≠ 0 then s.reply m bad noPayload t
  else if hasRole (codeRoles m.obj code) role = false then s.reply m 3 noPayload t
  else if m.obj = 0x1A60 ∧ code = 2 then
    let a := s.activateStaged m.req.index.toNat m.req.port.val role t fun s => s.reply m 0 noPayload t
    a.2.elim a.1 fun st => a.1.reply m st noPayload t
  else
    let a := s.act m code t
    if a.1 = 0xFFFF then a.2.2 else a.2.2.reply m a.1 a.2.1 t

end Sys2Proof.Machine
end

