-- ==== Sys2Proof/Machine/HostRequest.lean ====
section
/-! DEFINITION. A host message's way through a port: injections, duplicates, refusals, action; messages as bytes (spec/14 R374–R387,
spec/18 R473). -/

namespace Sys2Proof.Machine

open Sys2Proof

/-! ### Requests -/

/-- A request that passed every check of the host side begins: its number is among those being executed; on an object of the field side it
crosses as HOST_REQ (notes/assumptions/41.md). -/
def State.beginRequest (s : State) (m : HostMsg) (t : Nat) : State :=
  let p := m.req.port.val
  let seq := m.req.seq.toNat
  let k := s.port p
  (s.setPort p { k with running := seq :: k.running }).cross .host m.obj
    (hostDesc m.typ m.flags p (s.portRole p) seq m.obj m.req.index.toNat 0) m.req.payload t

/-- The action of a request. -/
def State.perform (s : State) (m : HostMsg) (t : Nat) : State :=
  match m.typ with
  | 1 => s.doRead m t
  | 2 => s.doWrite m t
  | 3 => s.doWriteif m t
  | 4 => s.doInvoke m t
  | 5 => s.doSubscribe m t
  | _ => s

/-- A request executed once (spec/14 R381): a repeated one hears the same answer again, one being executed is ignored. Bits of `flags` above
the four defined are reserved bits of the header (spec/00 R6). -/
def State.request (s : State) (m : HostMsg) (t : Nat) : State :=
  let p := m.req.port.val
  let seq := m.req.seq.toNat
  let k := s.port p
  match k.answered.find? fun a => a.1 == seq with
  | some (_, st, pl) =>
    (s.inc portStateDuplicates p 1).sendUnit p (.response p seq st pl)
      (messageBytes (if st = 0 then 7 else 8) 0 p (s.portRole p) seq m.obj m.req.index.toNat st pl) t
  | none =>
    if k.running.contains seq then s
    else
      let st := s.preStatus m
      if st ≠ 0 then s.reply m st noPayload t
      else if 256 < m.req.payload.len then s.reply m 4 noPayload t
      else if 16 ≤ m.flags ∧ (m.typ = 2 ∨ m.typ = 3) then s.reply m 5 noPayload t
      else (s.beginRequest m t).perform m t

/-- A held request of a port released: after the next one on the port (spec/18 R473). -/
def State.releaseHost (s : State) (p t : Nat) : State :=
  (List.range 8).foldl (fun s j =>
    match Tab.find s.diag.held j with
    | some ⟨.host m, _⟩ =>
      if m.req.port.val = p then { s with diag := { s.diag with held := Tab.del s.diag.held j } }.request m t else s
    | _ => s) s

/-- A request as HP captures it (spec/14 R374): the injections on its port act before the rights check (spec/18 Table 18-5). -/
def State.capture (s : State) (m : HostMsg) (t : Nat) : State :=
  let p := m.req.port.val
  if s.hears p t = false then s
  else
    let a := s.unitSeen 4 p 0 t
    let s := a.2
    a.1.elim ((s.request m t).releaseHost p t) fun j =>
      if s.get injectAction j = 1 then s.releaseHost p t
      else if s.get injectAction j = 2 then
        let c := s.corruptUnit j p t
        (if c.1 then c.2 else c.2.request m t).releaseHost p t
      else (s.releaseHost p t).holdUnit j t (.host m)

/-- A request row: READ, WRITE, WRITEIF, INVOKE or SUBSCRIBE of an object. -/
def hostRow (r : Req) (typ flags obj : Nat) (s : State) : Res :=
  .next ((s.at r.t).capture { req := r, typ := typ, flags := flags, obj := obj } r.t)

/-- A row that is a WRITE of an object. -/
def hostWrite (r : Req) (obj : Nat) (s : State) : Res := hostRow r 2 0 obj s

/-- A row that is an INVOKE of a code: its payload names that code; with another it is not this command (notes/assumptions/7.md). -/
def hostInvoke (r : Req) (obj code : Nat) (s : State) : Res :=
  if argAt r.payload 0 1 = code then hostRow r 4 0 obj s else .next (s.at r.t)

/-! ### Acknowledgements and credits of a host (spec/14 R386, R387) -/

/-- A CREDIT of a host. -/
def State.credit (s : State) (p n : Nat) (ackValid : Bool) (seq t : Nat) : State :=
  let s := s.grant p n
  if ackValid then (s.ackNtf p seq none t).refreshLands t else s

/-! ### Messages as bytes (spec/14 R377, R378, Table 14-2) -/

/-- A message of a port from its header and payload. Shorter than its header says: discarded. A type a host does not send is answered 0x0001. -/
def State.takeMessage (s : State) (p : Fin 6) (b : Payload) (t : Nat) : State :=
  let n := argAt b 0xA 2
  let typ := argAt b 0 1
  let flags := argAt b 1 1
  let pl := payloadOf n (argAt b 16 n)
  if b.len < 16 ∨ (b.len < 16 + n ∧ n ≤ 256) then s
  else if typ = 7 ∨ typ = 8 then (if s.hears p.val t then (s.ackNtf p.val (argAt b 4 2) (some (argAt b 6 2)) t).refreshLands t else s)
  else if typ = 9 then (if s.hears p.val t then s.credit p.val (argAt pl 0 2) (flags.testBit 0) (argAt pl 2 2) t else s)
  else
    let req : Req := { t := t, port := p, seq := BitVec.ofNat 16 (argAt b 4 2), index := BitVec.ofNat 16 (argAt b 8 2), payload := pl }
    s.capture { req := req, typ := typ, flags := flags + 256 * argAt b 0xE 2, obj := argAt b 6 2 } t

/-- Coded bytes of a port decoded in C2 (spec/01 R35): corrections counted, a message with an uncorrectable block lost. -/
def State.takeCoded (s : State) (p : Fin 6) (bytes : List Nat) (t : Nat) : State :=
  let r := portRegion p.val
  match decodeString bytes 16 with
  | none => s.countBlock r .uncorrectable 0 t
  | some (d, blocks, n) => ((s.inc eccCorrBlocks r blocks).inc eccCorrBytes r n).takeMessage p ⟨d.length, ofBytes d⟩ t

/-- Bytes unescaped: 0x7D and a byte XORed with 0x20 (spec/14 R378). -/
def unescape : List Nat → List Nat
  | [] => []
  | [x] => [x]
  | x :: y :: r => if x = 0x7D then (y ^^^ 0x20) :: unescape r else x :: unescape (y :: r)

end Sys2Proof.Machine
end

