-- ==== Sys2Proof/Machine/DiagRows.lean ====
section
/-! DEFINITION. The injections' own rows, frames from the mesh head through them, and the answer to a reset request (spec/18 R473–R476,
spec/13 R350, R370, spec/16 R436). -/

namespace Sys2Proof.Machine

open Sys2Proof

/-- A held unit goes on its way (spec/18 R473). -/
def State.releaseUnit (s : State) (u : DiagUnit) (t : Nat) : State :=
  match u with
  | .mesh m => s.takeMesh t m
  | .beat h => s.takeBeat h t
  | .meshSent _ o => s.emit o
  | .host m => s.request m t
  | .sent p o bytes => s.putOut p o bytes

/-- Mesh frames held on the target of a frame of a node, released after it. -/
def State.releaseMesh (s : State) (node t : Nat) : State :=
  (List.range 8).foldl (fun s j =>
    let mine (n : Nat) : Bool := s.get injectTarget j == 0x3FF || n == node
    match Tab.find s.diag.held j with
    | some ⟨.mesh m, _⟩ => if mine m.node.toNat then (s.unhold j).takeMesh t m else s
    | some ⟨.beat h, _⟩ => if mine h.addr.toNat then (s.unhold j).takeBeat h t else s
    | _ => s) s

/-- A MAC frame received of a node, through the injections on it (spec/18 Table 18-5): `whole` takes it as it is, `broken` with a wrong FCS; one
reordered is held as `u`. -/
def State.meshUnit (s : State) (n t : Nat) (whole broken : State → State) (u : DiagUnit) : State :=
  let a := s.unitSeen 6 n 0 t
  a.1.elim ((whole a.2).releaseMesh n t) fun j =>
    match a.2.get injectAction j with
    | 2 => (broken a.2).releaseMesh n t
    | 3 => (a.2.releaseMesh n t).holdUnit j t u
    | _ => a.2.releaseMesh n t

/-- RX_IND (spec/13 R370): a frame the mesh head passes up. -/
def execRxInd (t : Nat) (m : MeshRx) (s : State) : Res :=
  .next ((s.at t).meshUnit m.node.toNat t (State.takeMesh · t m) (State.takeMesh · t { m with fcsOk := false }) (.mesh m))

/-- NODE_HEARTBEAT (spec/13 R350): on CAN and the mesh a frame of its own; an avenue's comes within a lane frame. -/
def execNodeHeartbeat (t : Nat) (h : Heartbeat) (s : State) : Res :=
  let s := s.at t
  if h.medium = 3 then .next (s.meshUnit h.addr.toNat t (State.takeBeat · h t) id (.beat h))
  else if h.medium = 2 then
    let ch := h.chan.val % 4
    let a := s.canUnit ch t
    if s.canLive ch = false then .next s else if a.1 then .next a.2 else .next (a.2.takeBeat h t)
  else .next (s.takeBeat h t)

/-- INJECTION_EXPIRY (spec/18 R476): the duration since start has elapsed. -/
def execInjectionExpiry (t : Nat) (j : Fin 8) (s : State) : Res :=
  let s := s.at t
  if s.get injectState j = 1 ∧ s.get injectStart j + s.get injectDuration j * 1000000000 ≤ t then .next (s.endInjection j 2 t) else .next s

/-- INJECTION_LIMIT (spec/18 R476): as many units acted on as the limit names. -/
def execInjectionLimit (t : Nat) (j : Fin 8) (s : State) : Res :=
  let s := s.at t
  if s.get injectState j = 1 ∧ s.get injectLimit j ≠ 0 ∧ s.get injectLimit j ≤ s.get injectApplied j then .next (s.endInjection j 3 t)
  else .next s

/-- REORDER_RELEASE (spec/18 R473): a unit held for 100 ms with no next one on its target. -/
def execReorderRelease (t : Nat) (j : Fin 8) (s : State) : Res :=
  let s := s.at t
  match Tab.find s.diag.held j with
  | some u => if u.at_ + 100000000 ≤ t then .next ((s.unhold j).releaseUnit u.unit t) else .next s
  | none => .next s

/-- LACK at `side` (spec/01 R16): what it acknowledges is released from the keep list. Once a requested RESET is acknowledged its INVOKE is
answered (spec/16 R436). -/
def execLack (t : Nat) (side : Side) (upto : BitVec 8) (s : State) : Res :=
  let a := (s.at t).lackUpto side upto.toNat t
  match side, a.1.cway.resetAsk with
  | .host, some r =>
    if a.2 then
      let s := { a.1 with cway := { a.1.cway with resetAsk := none } }
      .next (s.reply { req := r, typ := 4, flags := 0, obj := 0x0020 } 0 noPayload t)
    else .next a.1
  | _, _ => .next a.1

end Sys2Proof.Machine
end

