-- ==== Sys2Proof/Machine/HostRows.lean ====
section
/-! DEFINITION. The rows of the host ports (spec/14): requests of every object, NOTIFYs, credits, SPI, console, host lanes. -/

namespace Sys2Proof.Machine

open Sys2Proof

/-! ### Requests of any object -/

/-- READ (R384). -/
def execRead (r : Req) (obj : BitVec 16) (counterOnly : Bool) (s : State) : Res := hostRow r 1 (if counterOnly then 2 else 0) obj.toNat s
/-- WRITE (R383). -/
def execWrite (r : Req) (obj : BitVec 16) (s : State) : Res := hostRow r 2 0 obj.toNat s
/-- WRITEIF (R383). -/
def execWriteif (r : Req) (obj : BitVec 16) (s : State) : Res := hostRow r 3 0 obj.toNat s
/-- SUBSCRIBE (R385). -/
def execSubscribe (r : Req) (obj : BitVec 16) (cancel : Bool) (s : State) : Res := hostRow r 5 (if cancel then 4 else 0) obj.toNat s

/-! ### WRITE of one object -/

/-- IRQ_CONFIG_WRITE: partition.irq (spec/03 R89). -/
def execIrqConfigWrite (r : Req) (s : State) : Res := hostWrite r 0x1A20 s
/-- ALLOC_CONFIG_WRITE: alloc.config (spec/04 R108). -/
def execAllocConfigWrite (r : Req) (s : State) : Res := hostWrite r 0x0200 s
/-- ALLOC_SITE_WRITE: alloc.site (spec/04 R129). -/
def execAllocSiteWrite (r : Req) (s : State) : Res := hostWrite r 0x0201 s
/-- CTL_SLOT_WRITE: ctl.slot (spec/05 R140). -/
def execCtlSlotWrite (r : Req) (s : State) : Res := hostWrite r 0x0410 s
/-- COOL_OUTLET_WRITE: cool.outlet (spec/06 R170). -/
def execCoolOutletWrite (r : Req) (s : State) : Res := hostWrite r 0x0600 s
/-- CALIBRATION_WRITE: meter.cal, meter.outlet or meter.site (spec/07 R209). -/
def execCalibrationWrite (r : Req) (target : CalTarget) (s : State) : Res :=
  hostWrite r (match target with | .cal => 0x0810 | .outletCfg => 0x0840 | .site => 0x0800) s
/-- TIME_OFFSET_WRITE: time.offset (spec/08 R217). -/
def execTimeOffsetWrite (r : Req) (s : State) : Res := hostWrite r 0x1B10 s
/-- TIME_CONFIG_WRITE: time.config (spec/08 R213). -/
def execTimeConfigWrite (r : Req) (s : State) : Res := hostWrite r 0x1B00 s
/-- EST_STATE_WRITE: batt.est_state (spec/11 R309). -/
def execEstStateWrite (r : Req) (s : State) : Res := hostWrite r 0x1230 s
/-- BATT_STRING_WRITE: batt.string (spec/11 R311). -/
def execBattStringWrite (r : Req) (s : State) : Res := hostWrite r 0x1210 s
/-- AVENUE_CONFIG_WRITE: avenue.config (spec/05 R479). -/
def execAvenueConfigWrite (r : Req) (s : State) : Res := hostWrite r 0x1310 s
/-- NODE_ENTRY_WRITE: node.entry (spec/13 R348). -/
def execNodeEntryWrite (r : Req) (s : State) : Res := hostWrite r 0x1400 s
/-- NODE_BLOB_WRITE: node.blob (spec/13 R373). -/
def execNodeBlobWrite (r : Req) (s : State) : Res := hostWrite r 0x1401 s
/-- MESH_CONFIG_WRITE: mesh.config (spec/13 R365). -/
def execMeshConfigWrite (r : Req) (s : State) : Res := hostWrite r 0x1480 s
/-- PORT_BIND_WRITE: port.bind (spec/14 R376). -/
def execPortBindWrite (r : Req) (s : State) : Res := hostWrite r 0x0100 s
/-- PRALINE_WRITE: key.praline (spec/14 R392). -/
def execPralineWrite (r : Req) (s : State) : Res := hostWrite r 0x0140 s
/-- STAGE_WRITE: partition.stage (spec/16 R444). -/
def execStageWrite (r : Req) (s : State) : Res := hostWrite r 0x1A50 s
/-- INJECT_START: diag.inject (spec/18 R474). -/
def execInjectStart (r : Req) (s : State) : Res := hostWrite r 0x1940 s
/-- METER_PULSE_WRITE: meter.pulse (spec/17 R461). -/
def execMeterPulseWrite (r : Req) (s : State) : Res := hostWrite r 0x08F0 s

/-! ### INVOKE of one code -/

/-- RELEASE_HELD: ctl.cmd 1 (spec/05 R154). -/
def execReleaseHeld (r : Req) (s : State) : Res := hostInvoke r 0x0540 1 s
/-- RELEASE_FAILED_PHASE: ctl.cmd 2 (spec/05 R159). -/
def execReleaseFailedPhase (r : Req) (s : State) : Res := hostInvoke r 0x0540 2 s
/-- SENSOR_RESTORE: therm.cmd 1 (spec/06 R177). -/
def execSensorRestore (r : Req) (s : State) : Res := hostInvoke r 0x06A0 1 s
/-- SEAL_BREAK: meter.cmd 1 (spec/07 R209). -/
def execSealBreak (r : Req) (s : State) : Res := hostInvoke r 0x08E0 1 s
/-- RESEAL: meter.cmd 2 (spec/07 R209). -/
def execReseal (r : Req) (s : State) : Res := hostInvoke r 0x08E0 2 s
/-- TIME_SET: time.set 1 (spec/08 R216). -/
def execTimeSet (r : Req) (s : State) : Res := hostInvoke r 0x1B02 1 s
/-- ACTIVATE: bill.cmd 1 (spec/08 R222). -/
def execActivate (r : Req) (s : State) : Res := hostInvoke r 0x0CF0 1 s
/-- CLOSE_PERIOD: bill.cmd 2 (spec/08 R235). -/
def execClosePeriod (r : Req) (s : State) : Res := hostInvoke r 0x0CF0 2 s
/-- RESEND: bill.cmd 3 (spec/08 R235). -/
def execResend (r : Req) (s : State) : Res := hostInvoke r 0x0CF0 3 s
/-- AUTHORIZE: vlink.cmd 1 (spec/09 R248). -/
def execAuthorize (r : Req) (s : State) : Res := hostInvoke r 0x1030 1 s
/-- DENY: vlink.cmd 2 (spec/09 R248). -/
def execDeny (r : Req) (s : State) : Res := hostInvoke r 0x1030 2 s
/-- STOP: vlink.cmd 3 (spec/09 R252). -/
def execStop (r : Req) (s : State) : Res := hostInvoke r 0x1030 3 s
/-- RELEASE_WELDED: vlink.cmd 4 (spec/09 R250). -/
def execReleaseWelded (r : Req) (s : State) : Res := hostInvoke r 0x1030 4 s
/-- COMMIT: safety.cmd 1 (spec/10 R288). -/
def execCommit (r : Req) (s : State) : Res := hostInvoke r 0x11F0 1 s
/-- SAFETY_STOP: safety.cmd 2 (spec/10 R279). -/
def execSafetyStop (r : Req) (s : State) : Res := hostInvoke r 0x11F0 2 s
/-- SAFETY_RELEASE: safety.cmd 3 (spec/10 R279). -/
def execSafetyRelease (r : Req) (s : State) : Res := hostInvoke r 0x11F0 3 s
/-- CLEAR_GROUP: safety.cmd 4 (spec/10 R273). -/
def execClearGroup (r : Req) (s : State) : Res := hostInvoke r 0x11F0 4 s
/-- CLEAR_CHAN: safety.cmd 5 (spec/10 R286). -/
def execClearChan (r : Req) (s : State) : Res := hostInvoke r 0x11F0 5 s
/-- LANE_RETRAIN: lane.cmd 1 (spec/12 R317). -/
def execLaneRetrain (r : Req) (s : State) : Res := hostInvoke r 0x13F0 1 s
/-- REFORM_AVENUE: lane.cmd 2 (spec/12 R322). -/
def execReformAvenue (r : Req) (s : State) : Res := hostInvoke r 0x13F0 2 s
/-- RECONCILE: node.cmd 1 (spec/13 R352). -/
def execReconcile (r : Req) (s : State) : Res := hostInvoke r 0x1403 1 s
/-- DIGEST_REQUEST: node.cmd 2 (spec/13 R357). -/
def execDigestRequest (r : Req) (s : State) : Res := hostInvoke r 0x1403 2 s
/-- RECOVER: can.cmd 1 (spec/13 R363). -/
def execRecover (r : Req) (s : State) : Res := hostInvoke r 0x1450 1 s
/-- REFRESH_TONE_MAPS: mesh.cmd 1 (spec/13 R367). -/
def execRefreshToneMaps (r : Req) (s : State) : Res := hostInvoke r 0x14F0 1 s
/-- CONSOLE_ENABLE: port.cmd 1 (spec/14 R378). -/
def execConsoleEnable (r : Req) (s : State) : Res := hostInvoke r 0x0118 1 s
/-- CONSOLE_DISABLE: port.cmd 2 (spec/14 R378). -/
def execConsoleDisable (r : Req) (s : State) : Res := hostInvoke r 0x0118 2 s
/-- GENERATE: key.cmd 1 (spec/14 R392). -/
def execGenerate (r : Req) (s : State) : Res := hostInvoke r 0x0160 1 s
/-- IMPORT_PLAIN: key.cmd 2 (spec/14 R392). -/
def execImportPlain (r : Req) (s : State) : Res := hostInvoke r 0x0160 2 s
/-- IMPORT_WRAPPED: key.cmd 3 (spec/14 R392). -/
def execImportWrapped (r : Req) (s : State) : Res := hostInvoke r 0x0160 3 s
/-- DELETE: key.cmd 4 (spec/14 R392). -/
def execDelete (r : Req) (s : State) : Res := hostInvoke r 0x0160 4 s
/-- PUBLIC: key.cmd 5 (spec/14 R392). -/
def execPublicPoint (r : Req) (s : State) : Res := hostInvoke r 0x0160 5 s
/-- PROVISION: lc.cmd 1 (spec/14 R393). -/
def execProvision (r : Req) (s : State) : Res := hostInvoke r 0x0190 1 s
/-- SEAL: lc.cmd 2 (spec/14 R393). -/
def execSealDevice (r : Req) (s : State) : Res := hostInvoke r 0x0190 2 s
/-- APPROVE: lc.cmd 3 (spec/14 R393). -/
def execApprove (r : Req) (s : State) : Res := hostInvoke r 0x0190 3 s
/-- UNSEAL: lc.cmd 4 (spec/14 R393). -/
def execUnsealDevice (r : Req) (s : State) : Res := hostInvoke r 0x0190 4 s
/-- RETURN: lc.cmd 5 (spec/14 R393). -/
def execReturnDevice (r : Req) (s : State) : Res := hostInvoke r 0x0190 5 s
/-- SCRAP: lc.cmd 6 (spec/14 R393). -/
def execScrap (r : Req) (s : State) : Res := hostInvoke r 0x0190 6 s
/-- ATTEST_REQUEST: attest.cmd 1 (spec/14 R401). -/
def execAttestRequest (r : Req) (s : State) : Res := hostInvoke r 0x01E0 1 s
/-- APPROVE_TAKEOVER: durable.cmd 1 (spec/15 R421). -/
def execApproveTakeover (r : Req) (s : State) : Res := hostInvoke r 0x18F0 1 s
/-- CLEAR_FAILURE_MARK: durable.cmd 2 (spec/15 R420). -/
def execClearFailureMark (r : Req) (s : State) : Res := hostInvoke r 0x18F0 2 s
/-- DURABLE_READ: durable.read 1 (spec/15 R424). -/
def execDurableRead (r : Req) (s : State) : Res := hostInvoke r 0x1860 1 s
/-- SERVICE: mode.cmd 1 (spec/16 R427). -/
def execService (r : Req) (s : State) : Res := hostInvoke r 0x0020 1 s
/-- STANDBY: mode.cmd 2 (spec/16 R429). -/
def execStandby (r : Req) (s : State) : Res := hostInvoke r 0x0020 2 s
/-- MAINTENANCE: mode.cmd 3 (spec/16 R427). -/
def execMaintenance (r : Req) (s : State) : Res := hostInvoke r 0x0020 3 s
/-- LEAVE_MAINTENANCE: mode.cmd 4 (spec/16 R427). -/
def execLeaveMaintenance (r : Req) (s : State) : Res := hostInvoke r 0x0020 4 s
/-- LEAVE_SAFE_HOLD: mode.cmd 5 (spec/16 R430). -/
def execLeaveSafeHold (r : Req) (s : State) : Res := hostInvoke r 0x0020 5 s
/-- WARM_RESET: mode.cmd 6 (spec/16 R436). -/
def execWarmReset (r : Req) (s : State) : Res := hostInvoke r 0x0020 6 s
/-- COLD_RESET: mode.cmd 7 (spec/16 R436). -/
def execColdReset (r : Req) (s : State) : Res := hostInvoke r 0x0020 7 s
/-- CHECK: partition.cmd 1 (spec/16 R444). -/
def execCheck (r : Req) (s : State) : Res := hostInvoke r 0x1A60 1 s
/-- PARTITION_ACTIVATE: partition.cmd 2 (spec/16 R444). -/
def execPartitionActivate (r : Req) (s : State) : Res := hostInvoke r 0x1A60 2 s
/-- INJECTION_STOP: diag.cmd 1 (spec/18 R476). -/
def execInjectionStop (r : Req) (s : State) : Res := hostInvoke r 0x19F0 1 s

/-! ### NOTIFYs, credits, link-up (spec/14 R381, R385–R387) -/

/-- NOTIFY: what the subscriptions of a port have due is queued, and one NOTIFY sent against a credit. -/
def execNotify (t : Nat) (port : Fin 6) (s : State) : Res :=
  let s := s.at t
  .next (if s.hears port.val t then s.notifyPort port.val t else s)

/-- NOTIFY_RESEND: a NOTIFY unacknowledged 10 s and HP's settle time after it was sent goes out again with a new number, against a
credit. -/
def execNotifyResend (t : Nat) (port : Fin 6) (seq : BitVec 16) (s : State) : Res :=
  let s := s.at t
  let p := port.val
  let k := s.port p
  match k.awaits.find? fun a => a.seq == seq.toNat with
  | none => .next s
  | some a =>
    if t < a.sentAt + 10000002000 ∨ s.get portStateNtfCredits p = 0 ∨ s.hears p t = false then .next s
    else
      let again : Await := { a with seq := k.nextSeq, sentAt := t }
      let s := s.setPort p { k with nextSeq := (k.nextSeq + 1) % 65536, awaits := (k.awaits.filter fun x => x.seq != a.seq) ++ [again] }
      let s := s.put portStateNtfCredits p (s.get portStateNtfCredits p - 1)
      .next ((s.sendUnit p (.notify p k.nextSeq a.ntf.obj a.ntf.idx true a.ntf.payload)
        (messageBytes 6 1 p (s.portRole p) k.nextSeq a.ntf.obj a.ntf.idx 0 a.ntf.payload) t).refreshLands t)

/-- HOST_ACK: an ACK or NAK of a host that carries the number and object of a NOTIFY. -/
def execHostAck (t : Nat) (port : Fin 6) (seq obj : BitVec 16) (_nak : Bool) (s : State) : Res :=
  let s := s.at t
  .next (if s.hears port.val t then (s.ackNtf port.val seq.toNat (some obj.toNat) t).refreshLands t else s)

/-- CREDIT: credits granted, and with flags [0] a NOTIFY acknowledged. -/
def execCredit (t : Nat) (port : Fin 6) (credits : BitVec 16) (ackValid : Bool) (seq : BitVec 16) (s : State) : Res :=
  let s := s.at t
  .next (if s.hears port.val t then s.credit port.val credits.toNat ackValid seq.toNat t else s)

/-- LINK_UP: the port's link is up, the device holds 8 NOTIFY credits and sends a restart CREDIT with a request window of 8. -/
def execLinkUp (t : Nat) (port : Fin 6) (s : State) : Res :=
  let s := s.at t
  let p := port.val
  if s.hears p t = false then .next s
  else
    let s := (s.put portStateLink p 1).put portStateNtfCredits p 8
    .next (s.putOut p (.credit p 8 true) (messageBytes 9 8 p (s.portRole p) 0 0 0 0 ⟨2, 8⟩))

/-! ### SPI (spec/14 R377) -/

/-- SPI_WRITE: opcode 0x01, the coded length, the coded message; another opcode is ignored, a short write discarded. -/
def execSpiWrite (t : Nat) (bytes : List (BitVec 8)) (s : State) : Res :=
  let s := s.at t
  match bytes.map BitVec.toNat with
  | op :: lo :: hi :: rest =>
    let n := lo + 256 * hi
    if op = 1 ∧ n ≤ rest.length ∧ s.sup.hostUp then .next (s.takeCoded 4 (rest.take n) t) else .next s
  | _ => .next s

/-- SPI_READ: the oldest message waiting, coded, after its coded length; length 0 where none waits. HSPI_IRQ_N rises with the last. -/
def execSpiRead (t : Nat) (s : State) : Res :=
  let s := s.at t
  if s.sup.hostUp = false then .next s
  else
    match (s.port 4).toRead with
    | [] => .next (s.emit (.spi [0, 0]))
    | m :: rest =>
      let c := codeString (bytesOf m.len m.data) 16
      let out := (c.length % 256) :: (c.length / 256) :: c
      let s := (s.setPort 4 { s.port 4 with toRead := rest }).emit (.spi (out.map (BitVec.ofNat 8)))
      .next (if rest.isEmpty then s.drive 7 true else s)

/-- SPI_STATUS: message waiting, request credit available, field side absent. -/
def execSpiStatus (t : Nat) (s : State) : Res :=
  let s := s.at t
  let k := s.port 4
  let b := (if k.toRead.isEmpty then 0 else 1) + (if k.running.length < 8 then 2 else 0) + (if s.cway.fieldAbsent || !s.sup.fieldUp then 4 else 0)
  .next (if s.sup.hostUp then s.emit (.spi [BitVec.ofNat 8 b]) else s)

/-! ### Console (spec/14 R378) -/

/-- CONSOLE_FRAME: one coded message between 0x7E flags, 0x7D escaping. -/
def execConsoleFrame (t : Nat) (bytes : List (BitVec 8)) (s : State) : Res :=
  let s := s.at t
  match bytes.map BitVec.toNat with
  | 0x7E :: rest =>
    if s.sup.hostUp ∧ s.consoleOn t ∧ rest.getLast? = some 0x7E then .next (s.takeCoded 5 (unescape rest.dropLast) t) else .next s
  | _ => .next s

/-- CONSOLE_TIMEOUT: 3,600 s after it was enabled in SEALED the console is disabled. -/
def execConsoleTimeout (t : Nat) (s : State) : Res :=
  let s := s.at t
  .next (if s.hosts.consoleUntil.any fun u => decide (u ≤ t) then { s with hosts := { s.hosts with consoleUntil := none } } else s)

/-! ### Host lanes (spec/12 R344–R346) -/

/-- HOST_LANE_FRAME: one host message of lane n; a frame of another EtherType, for another address, with a bad FCS, cut or with a lost block
is discarded and counted in frames_lost; of a good one on a 1000BASE-X lane the source address is kept for the replies. Its place in the counters is the number of frames the lane has taken (notes/assumptions/41.md). -/
def execHostLaneFrame (t : Nat) (n : Fin 4) (f : HostFrame) (s : State) : Res :=
  let s := s.at t
  let p := n.val
  if s.hears p t = false then .next s
  else
    let eth := s.get laneHostMode p == 2
    let good := f.whole && (!eth || (f.etherType == some 0x88B5#16 && f.macOk)) && !(BlockResult.lost f.block)
    let s := s.setLane p { s.lane p with frame := ((s.lane p).frame + 1) % 2 ^ 32 }
    let s := s.countBlock (31 + p) f.block (s.lane p).frame t
    let s := if eth && good then s.setPort p { s.port p with peer := f.src.toNat } else s
    let a := s.laneUnit p 0 t
    if good && !a.1 then .next (a.2.takeMessage ⟨p, by omega⟩ f.msg t) else .next (a.2.inc laneStateFramesLost p 1)

end Sys2Proof.Machine
end

