-- ==== Sys2Proof/Machine/LinkRows.lean ====
section
/-! DEFINITION. Meanings of the vehicle's messages, the pilot, the session timers and the link gates (spec/09). Message codes of what is
sent to a vehicle are the model's (notes/assumptions/2.md). -/

namespace Sys2Proof.Machine

/-! ### Pilot (spec/09 R239, R240) -/

/-- The pilot class of an outlet head's block taken (spec/09 R239). -/
def State.takePilot (s : State) (o cls t : Nat) : State :=
  let k := s.sess o
  if k.raw = cls then s else s.setSess o { k with raw := cls, rawAt := t }

/-- What a pilot class that counts does to a session (spec/09 Table 9-2, Table 9-5). -/
def State.pilotMoves (s : State) (o cls t : Nat) : State :=
  let st := (s.sess o).st
  let onB := cls == 1 || cls == 2
  if st = 0 then (if onB ∧ s.get vlOutletKind o ≠ 0 then s.goSess o 1 t else s)
  else if st ≤ 3 then (if onB then s else s.goSess o 0 t)
  else if st ≤ 7 then
    (if cls = 0 then s.beginStop o 3 0 t
     else if 3 ≤ cls then s.beginStop o 4 0 t
     else if cls = 1 ∧ st = 6 then s.beginStop o 1 0 t
     else s)
  else if st = 9 ∧ cls = 0 then s.goSess o 0 t
  else s

/-- PILOT_CLASS (spec/09 R239): unchanged for 100 ms; E, F, invalid, and A in Transfer, at once. -/
def execPilotClass (t : Nat) (o : Fin 12) (s : State) : Res :=
  let s := (s.at t).linkUpTo o t
  let k := s.sess o
  let atOnce := decide (4 ≤ k.raw) || (k.raw == 0 && k.st == 6)
  if k.raw = k.pilot ∨ (atOnce = false ∧ t < k.rawAt + 100000000) then .next s
  else
    let s := (s.setSess o { k with pilot := k.raw }).raise 0x2C t
    .next ((s.pilotMoves o k.raw t).publishLink o)

/-! ### SLAC and the data link (spec/09 R241, R242) -/

/-- Whether SLAC messages are taken: a CCS outlet in Plugged with its oscillator running. -/
def State.slacOpen (s : State) (o : Nat) : Bool :=
  s.get vlOutletKind o == 1 && (s.sess o).st == 1 && (s.sess o).tRetry.isNone && decide ((s.sess o).retries < 3)

/-- CM_SLAC_PARM starts matching. -/
def execCmSlacParm (t : Nat) (o : Fin 12) (runId : Nat) (s : State) : Res :=
  let s := (s.at t).linkUpTo o t
  if s.slacOpen o = false then .next s
  else
    let k := s.sess o
    .next ((s.setSess o { k with slac := { Slac.reset with run := some runId } }).emit (.vehicle o 1 [(runId : Int)]))

/-- CM_START_ATTEN_CHAR starts sounding. -/
def execCmStartAttenChar (t : Nat) (o : Fin 12) (sounds : Nat) (s : State) : Res :=
  let s := (s.at t).linkUpTo o t
  let k := s.sess o
  if s.slacOpen o = false ∨ k.slac.run.isNone then .next s
  else .next (s.setSess o { k with slac := { k.slac with sounds := sounds, got := 0, sum := 0, accepted := false } })

/-- CM_MNBC_SOUND contributes its attenuation, dB. -/
def execCmMnbcSound (t : Nat) (o : Fin 12) (atten : Nat) (s : State) : Res :=
  let s := (s.at t).linkUpTo o t
  let k := s.sess o
  if s.slacOpen o = false ∨ k.slac.sounds ≤ k.slac.got then .next s
  else .next (s.setSess o { k with slac := { k.slac with got := k.slac.got + 1, sum := k.slac.sum + atten } })

/-- CM_ATTEN_CHAR: accepted where the mean attenuation over all sounds is at most atten_max. -/
def execCmAttenChar (t : Nat) (o : Fin 12) (s : State) : Res :=
  let s := (s.at t).linkUpTo o t
  let k := s.sess o
  if s.slacOpen o = false ∨ k.slac.got = 0 then .next s
  else
    let ok := decide (k.slac.sum ≤ s.get vlOutletAttenMax o * k.slac.got)
    .next ((s.setSess o { k with slac := { k.slac with accepted := ok } }).emit (.vehicle o 2 [(k.slac.sum : Int), (k.slac.got : Int)]))

/-- CM_SLAC_MATCH: a fresh NMK from HK's random source, only for an accepted match. -/
def execCmSlacMatch (t : Nat) (o : Fin 12) (s : State) : Res :=
  let s := (s.at t).linkUpTo o t
  let k := s.sess o
  if s.slacOpen o = false ∨ k.slac.accepted = false then .next s
  else
    let f := s.fresh
    .next ((f.2.setSess o { k with slac := { k.slac with nmk := some f.1 } }).emit (.vehicle o 3 [(f.1 : Int)]))

/-- CM_SET_KEY: the outlet head's confirmation leads to Linked. -/
def execCmSetKey (t : Nat) (o : Fin 12) (ok : Bool) (s : State) : Res :=
  let s := (s.at t).linkUpTo o t
  if s.slacOpen o = false ∨ (s.sess o).slac.nmk.isNone ∨ ok = false then .next s else .next (s.goSess o 2 t)

/-- LINK_ESTABLISHED (spec/09 R242): an MCS outlet is Linked. -/
def execLinkEstablished (t : Nat) (o : Fin 12) (s : State) : Res :=
  let s := (s.at t).linkUpTo o t
  let k := s.sess o
  if s.get vlOutletKind o ≠ 2 ∨ k.st ≠ 1 ∨ k.tRetry.isSome ∨ 3 ≤ k.retries then .next s else .next (s.goSess o 2 t)

/-! ### Transport (spec/09 R243, R244) -/

/-- SDP: the port drawn for the session and the TLS offer; TLS also where ISO 15118-2 is asked for without it and tls_req is set. -/
def execSdp (t : Nat) (o : Fin 12) (wantTls : Bool) (v2 : Bool) (s : State) : Res :=
  let s := (s.at t).linkUpTo o t
  let k := s.sess o
  if k.st ≠ 2 then .next s
  else
    let offer := wantTls || (v2 && s.bit vlOutletFlags o 3)
    let f := s.fresh
    let port := if k.port = 0 then 49152 + f.1 % 16384 else k.port
    let s := if k.port = 0 then f.2 else s
    .next ((s.setSess o { k with port := port, tlsDue := offer }).emit (.vehicle o 4 [(port : Int), if offer then 1 else 0]))

/-- TCP_CONNECT: one connection per outlet, on the session's port. -/
def execTcpConnect (t : Nat) (o : Fin 12) (port : Nat) (s : State) : Res :=
  let s := (s.at t).linkUpTo o t
  let k := s.sess o
  if k.st ≠ 2 ∨ k.tcp ∨ k.port ≠ port ∨ port = 0 then .next s else .next (s.setSess o { k with tcp := true })

/-- TLS_HANDSHAKE: complete, or failed, which returns to Plugged. -/
def execTlsHandshake (t : Nat) (o : Fin 12) (ok : Bool) (s : State) : Res :=
  let s := (s.at t).linkUpTo o t
  let k := s.sess o
  if k.st ≠ 2 ∨ k.tcp = false ∨ k.tlsDue = false then .next s
  else if ok then .next ((s.setSess o { k with tls := true }).publishLink o)
  else .next (s.backToPlugged o t)

/-- TCP_LOST: Linked and Negotiating return to Plugged; later it is a protocol error. -/
def execTcpLost (t : Nat) (o : Fin 12) (s : State) : Res :=
  let s := (s.at t).linkUpTo o t
  let k := s.sess o
  let s := s.setSess o { k with tcp := false, tls := false }
  if k.st = 2 ∨ k.st = 3 then .next (s.backToPlugged o t)
  else if 4 ≤ k.st ∧ k.st ≤ 6 then .next (s.beginStop o 12 0 t)
  else .next s

/-! ### Responses (spec/09 R251, R256, R259) -/

/-- The value-and-multiplier form (spec/09 R256): the smallest multiplier from 0 with which the value fits 16 signed bits, rounded toward
zero. -/
def encodeLimit (v : Nat) (m : Nat) : Nat → List Int
  | 0 => [(v : Int), (m : Int)]
  | n + 1 => if v ≤ 32767 then [(v : Int), (m : Int)] else encodeLimit (v / 10) (m + 1) n

/-- The present limits of the page in a response: current in A, power in W, voltage in V, discharge current in A. -/
def State.limitsOf (s : State) (o : Nat) : List Int :=
  let w (off : Nat) : Nat := Memory.read s.mem (pageBase o + off) 4
  encodeLimit (w 0x108 / 1000) 0 10 ++ encodeLimit (w 0x10C) 0 10 ++ encodeLimit (w 0x110 / 1000) 0 10 ++ encodeLimit (w 0x114 / 1000) 0 10

/-- A response sent: t_seq starts from it (spec/09 Table 9-6), the exchange entry is rewritten. -/
def State.respond (s : State) (o msg : Nat) (args : List Int) (t : Nat) : State :=
  let k := s.sess o
  let s := s.emit (.vehicle o msg args)
  let s := if 3 ≤ k.st ∧ k.st ≤ 6 then s.setSess o { k with tSeq := some (t + s.linkTimer vlOutletTSeq o 1000000000) } else s
  s.publishLink o

/-- Answer codes: 0 OK, 1 Ongoing, 2 FAILED, 3 Failed_NoNegotiation, 4 Finished, 5 sequence error. -/
def ansOk : Int := 0

/-! ### Application messages (spec/09 R245–R250, R256) -/

/-- The protocols in the order of `prefer`, as bits of `protocols` (spec/09 R245). -/
def protoOrder (prefer : Nat) : List Nat := if prefer = 1 then [1, 2, 0] else if prefer = 2 then [0, 2, 1] else [2, 1, 0]

/-- SUPPORTED_APP_PROTOCOL (spec/09 R243, R245): the first enabled protocol offered whose transport is as R243 requires. -/
def execSupportedAppProtocol (t : Nat) (o : Fin 12) (offered : BitVec 3) (s : State) : Res :=
  let s := (s.at t).linkUpTo o t
  let k := s.sess o
  if k.st ≠ 2 ∨ k.tcp = false then .next s
  else
    let fits (b : Nat) : Bool :=
      offered.getLsbD b && s.bit vlOutletProtocols o b && (s.get vlOutletKind o != 2 || b == 2)
        && (if b = 2 then k.tls else if b = 0 then !k.tls else k.tls || !(k.tlsDue || s.bit vlOutletFlags o 3))
    match (protoOrder (s.get vlOutletPrefer o)).find? fits with
    | none =>
      let s := (s.put vlSessionReason o 12).put vlSessionDetail o 0
      .next ((s.emit (.vehicle o 5 [3])).backToPlugged o t)
    | some b =>
      let s := s.setSess o { k with proto := b + 1 }
      .next ((s.goSess o 3 t).respond o 5 [ansOk, (b : Int)] t)

/-- A contract chain of a vehicle validates (spec/09 R249). -/
def State.chainOk (s : State) (chain : List Cert) (t : Nat) : Bool :=
  let now := s.legal t
  let links := (chain.zip (chain.drop 1)).all fun p => p.1.issuer == p.2.subject
  let leaf := (chain.head?).any fun c => c.digSig
  let root := (chain.getLast?).any fun c => (List.range 16).any fun n =>
    s.get vlTrustAlg n != 0 && s.get vlTrustSubject n == c.issuer.toNat && decide (now ≤ s.get vlTrustNotAfter n)
  s.legalValid && decide (chain.length ≤ 4) && links && leaf && root
    && chain.all fun c => c.sigOk && decide (c.notBefore ≤ now) && decide (now ≤ c.notAfter)

/-- AUTHORIZATION_REQ (spec/09 R248): the first starts t_auth; PnC by its chain, EIM by auto_auth or a decision; Ongoing until then. -/
def execAuthorizationReq (t : Nat) (o : Fin 12) (pnc : Bool) (chain : List Cert) (contractId : Nat) (s : State) : Res :=
  let s := (s.at t).linkUpTo o t
  let k := s.sess o
  if k.st ≠ 3 then .next (if 3 ≤ k.st ∧ k.st ≤ 6 then s.respond o 6 [5] t else s)
  else
    let mayPnc := pnc && s.bit vlOutletFlags o 1 && k.proto != 1
    let ok := mayPnc && s.chainOk chain t
    let first := k.auth == 0
    let k := { k with auth := max k.auth 1, tAuth := if first then some (t + s.linkTimer vlOutletTAuth o 1000000000) else k.tAuth,
                      pnc := mayPnc, pncOk := k.pncOk || ok, eim := k.eim || s.bit vlOutletFlags o 0 }
    let s := if ok then s.put vlSessionContractId o contractId else s
    let s := (s.setSess o k).settleAuth o
    .next (s.respond o 6 [if (s.sess o).auth = 3 then 0 else 1] t)

/-- The schedule offered (spec/09 R246): entries as written, limited to p_rated; none: p_rated for 24 h. -/
def State.scheduleOf (s : State) (o : Nat) : List Int :=
  let p := s.get allocOutletPRated o
  let n := s.get vlScheduleCount o
  if n = 0 then [0, (p : Int)]
  else (List.range (min n 24)).flatMap fun k => [(s.get (vlScheduleStart k) o : Int), (min p (s.get (vlSchedulePower k) o) : Int)]

/-- PARAMETER_EXCHANGE (spec/09 R246, R247, R250): maxima recorded, service and mode chosen. -/
def execParameterExchange (t : Nat) (o : Fin 12) (p : VehParams) (s : State) : Res :=
  let s := (s.at t).linkUpTo o t
  let k := s.sess o
  if k.st ≠ 3 then .next (if 3 ≤ k.st ∧ k.st ≤ 6 then s.respond o 7 [5] t else s)
  else
    let mcs := s.get vlOutletKind o == 2
    let bpt := p.bpt && s.flag allocOutletBpt o && (mcs || k.proto == 3)
    let sched := p.scheduled && s.bit vlOutletFlags o 4 && k.proto != 1 || k.proto == 2
    let k := { k with params := true, bpt := bpt, service := (if mcs then 3 else 1) + (if bpt then 1 else 0), scheduled := sched,
                      iMax := p.iMax.toNat, vMax := p.vMax.toNat, pMax := p.pMax.toNat, iDis := p.iDis.toNat, departure := p.departure,
                      energy := p.energy.toNat, soc := p.soc.toNat }
    let s := (s.setSess o k).put vlSessionEvccid o p.evccid.toNat
    .next (s.respond o 7 (ansOk :: (s.limitsOf o ++ (if sched then s.scheduleOf o else []))) t)

/-- CABLE_CHECK_REQ (spec/09 R250): into CableCheck when authorised, with parameters and pilot C; then answered by the page's status. -/
def execCableCheckReq (t : Nat) (o : Fin 12) (vTest : Nat) (s : State) : Res :=
  let s := (s.at t).linkUpTo o t
  let s := s.settleAuth o
  let k := s.sess o
  if k.st = 3 then
    if k.auth = 3 ∧ k.params ∧ k.pilot = 2 then
      .next (((s.setSess o { k with vTest := vTest }).goSess o 4 t).respond o 8 [1] t)
    else .next (s.respond o 8 [if k.auth = 3 ∧ k.params then 2 else 1] t)
  else if k.st = 4 then .next (s.respond o 8 [if s.status o 10 then 4 else 1] t)
  else .next (if k.st = 5 ∨ k.st = 6 then s.respond o 8 [5] t else s)

/-- PRE_CHARGE_REQ (spec/09 R250): to Precharge once the cable check has passed. -/
def execPreChargeReq (t : Nat) (o : Fin 12) (vPc : Nat) (s : State) : Res :=
  let s := (s.at t).linkUpTo o t
  let k := s.sess o
  if k.st = 4 ∨ k.st = 5 then
    let s := s.setSess o { k with pcReq := true, vPc := vPc }
    let s := if k.st = 4 ∧ s.status o 10 then s.goSess o 5 t else s
    .next (s.respond o 9 (ansOk :: s.limitsOf o) t)
  else .next (if k.st = 3 ∨ k.st = 6 then s.respond o 9 [5] t else s)

/-- POWER_DELIVERY_REQ (spec/09 R250, R252): start leads to Transfer with the converter within pc_tol and both feedbacks closed; stop is the
vehicle's normal stop, answered first. -/
def execPowerDeliveryReq (t : Nat) (o : Fin 12) (start : Bool) (s : State) : Res :=
  let s := (s.at t).linkUpTo o t
  let k := s.sess o
  if start then
    if k.st = 5 then
      let s := s.setSess o { k with pd := true }
      let s := if s.status o 14 ∧ s.status o 8 then s.goSess o 6 t else s
      .next (s.respond o 10 [if (s.sess o).st = 6 then 0 else 1] t)
    else .next (if 3 ≤ k.st ∧ k.st ≤ 6 then s.respond o 10 [5] t else s)
  else if 3 ≤ k.st ∧ k.st ≤ 6 then .next (((s.respond o 10 [ansOk] t).beginStop o 1 0 t).publishLink o)
  else .next s

/-- CHARGE_LOOP_REQ (spec/09 R247, R256): targets taken, negative ones limited to zero without BPT; answered with the present limits. -/
def execChargeLoopReq (t : Nat) (o : Fin 12) (p : LoopReq) (s : State) : Res :=
  let s := (s.at t).linkUpTo o t
  let k := s.sess o
  if k.st ≠ 6 then .next (if 3 ≤ k.st ∧ k.st ≤ 5 then s.respond o 11 [5] t else s)
  else
    let k := { k with vTarget := p.vTarget.toNat, iTarget := p.iTarget.toInt.toNat, iDisTarget := if k.bpt then p.iDisTarget.toNat else 0,
                      soc := p.soc.toNat }
    let s := s.setSess o k
    let s := s.respond o 11 (ansOk :: s.limitsOf o) t
    .next (if p.stop then (s.beginStop o 1 0 t).publishLink o else s)

/-- WELDING_DETECTION_REQ (spec/09 R257): answered with the connector voltage in force, mV. -/
def execWeldingDetectionReq (t : Nat) (o : Fin 12) (s : State) : Res :=
  let s := (s.at t).linkUpTo o t
  let k := s.sess o
  if k.st < 3 ∨ 8 < k.st then .next s
  else .next (s.respond o 12 [ansOk, toSigned 32 (Memory.read s.mem (0x60000000 + 0x1000 * o + 0x10) 4)] t)

/-- SESSION_STOP_REQ (spec/09 R252): the vehicle's normal stop, answered first. -/
def execSessionStopReq (t : Nat) (o : Fin 12) (s : State) : Res :=
  let s := (s.at t).linkUpTo o t
  let k := s.sess o
  if k.st < 3 ∨ 8 < k.st then .next s else .next (((s.respond o 13 [ansOk] t).beginStop o 1 0 t).publishLink o)

/-- CERTIFICATE_INSTALLATION_REQ (spec/09 Table 9-4): answered FAILED. -/
def execCertificateInstallationReq (t : Nat) (o : Fin 12) (s : State) : Res :=
  let s := (s.at t).linkUpTo o t
  let k := s.sess o
  if k.st < 3 ∨ 6 < k.st then .next s else .next (s.respond o 14 [2] t)

/-- PAUSE_REQ (spec/09 Table 9-4): answered with a stop. -/
def execPauseReq (t : Nat) (o : Fin 12) (s : State) : Res :=
  let s := (s.at t).linkUpTo o t
  let k := s.sess o
  if k.st < 3 ∨ 6 < k.st then .next s else .next (((s.respond o 15 [2] t).beginStop o 1 0 t).publishLink o)

/-! ### Timers (spec/09 R251: settle of 200 µs) -/

/-- Whether a deadline has passed with its settle time. -/
def linkDue (d : Option Nat) (t : Nat) : Bool := d.any fun x => decide (x + 200000 ≤ t)

/-- A timer's row: a deadline passed with its settle time takes effect, after whatever lies before it. -/
def State.timerRow (s : State) (o t : Nat) (d : Sess → Option Nat) : State :=
  let s := s.at t
  match d (s.sess o) with
  | some x => if x + 200000 ≤ t then s.linkUpTo o (x + 1) else s
  | none => s

/-- T_SLAC: the oscillator goes to 100 % for 4 s. -/
def execTSlac (t : Nat) (o : Fin 12) (s : State) : Res := .next (s.timerRow o t Sess.tSlac)

/-- PILOT_RETRY_END: Plugged again, counting a retry. -/
def execPilotRetryEnd (t : Nat) (o : Fin 12) (s : State) : Res := .next (s.timerRow o t Sess.tRetry)

/-- T_SETUP: back to Plugged. -/
def execTSetup (t : Nat) (o : Fin 12) (s : State) : Res := .next (s.timerRow o t Sess.tSetup)

/-- T_SEQ: stop, reason 0x05. -/
def execTSeq (t : Nat) (o : Fin 12) (s : State) : Res := .next (s.timerRow o t Sess.tSeq)

/-- T_AUTH: stop, reason 0x06. -/
def execTAuth (t : Nat) (o : Fin 12) (s : State) : Res := .next (s.timerRow o t Sess.tAuth)

/-- T_CC: stop, reason 0x05. -/
def execTCc (t : Nat) (o : Fin 12) (s : State) : Res := .next (s.timerRow o t Sess.tCc)

/-- T_WELD: welded; the connector stays locked. -/
def execTWeld (t : Nat) (o : Fin 12) (s : State) : Res := .next (s.timerRow o t Sess.tWeld)

/-! ### Gates (spec/09 R258, Table 9-10) -/

/-- A gate handler's answer: where the core that stands for logical core `n` serves the gate, `f` gives from the arguments the new state and
the results, which go to g1 on. -/
def State.gateAnswer (s : State) (n gate : Nat) (f : State → List Word → State × List Nat) : State :=
  let c := s.physical n
  match (s.core c).serving with
  | none => s
  | some (g, r) =>
    if g ≠ gate then s
    else
      let x := f s r.args
      let k := x.2.zipIdx.foldl (fun (k : Core) p => k.setReg (p.2 + 1) (BitVec.ofNat 64 p.1)) (x.1.core c)
      x.1.setCore c k

/-- Argument `i` of a gate request as a number; g1 is argument 0. -/
def gateArg (a : List Word) (i : Nat) : Nat := (a.getD i 0).toNat

/-- GATE_SESSION. -/
def execGateSession (t : Nat) (s : State) : Res :=
  .next ((s.at t).gateAnswer 3 0x00 fun s a =>
    let o := gateArg a 0
    (s, [if 12 ≤ o ∨ (s.sess o).st = 0 then 1 else 0, s.linkSummary o, s.get vlSessionSessionId o,
      (s.sess o).soc % 256 + s.get vlSessionReason o * 256]))

/-- GATE_AUTHORIZE. -/
def execGateAuthorize (t : Nat) (s : State) : Res :=
  .next ((s.at t).gateAnswer 3 0x01 fun s a =>
    match if gateArg a 0 < 12 then s.authorizeSess (gateArg a 0) (gateArg a 1 == 1) t else none with
    | some s' => (s', [0])
    | none => (s, [1]))

/-- GATE_STOP. -/
def execGateStop (t : Nat) (s : State) : Res :=
  .next ((s.at t).gateAnswer 3 0x02 fun s a =>
    let o := gateArg a 0
    let s := if o < 12 then s.linkUpTo o t else s
    let st := (s.sess o).st
    if o < 12 ∧ 3 ≤ st ∧ st ≤ 6 then (s.beginStop o 7 (gateArg a 1 % 256) t, [0]) else (s, [1]))

/-- GAP_STOP_REQUEST (spec/07 R188): 100 ms in GAP while the converter is not OFF. -/
def execGapStopRequest (t : Nat) (o : Fin 12) (s : State) : Res :=
  let s := s.at t
  let r := s.quant o
  if r.gap = false ∨ t < r.gapFrom * 15625 + 100000000 ∨ s.convState o = 0 then .next s
  else .next (s.stopSess o 10 0 t)

end Sys2Proof.Machine
end

