-- ==== Sys2Proof/Machine/LegalRows.lean ====
section
/-! DEFINITION. What the legal partition shows the open one: the exchange region and gates 0x80 to 0x82 (spec/08 R236, Tables 8-3, 8-4). -/

namespace Sys2Proof.Machine

open Sys2Proof

/-- The end of the demand interval in progress, UTC: the first end of a sub-interval after the last boundary crossed (spec/08 R224). -/
def State.intervalEnd (s : State) : Nat := s.gridNext (s.get billStateBLast 0)

/-- The next boundary, UTC. -/
def State.boundaryAhead (s : State) : Nat := s.nextBoundary (s.get billStateBLast 0)

/-- The rate after the next boundary, of the passive calendar where that boundary activates it; unchanged where the calendar does not say
(notes/assumptions/19.md). -/
def State.rateAhead (s : State) : Nat :=
  let u := s.boundaryAhead
  let activates := s.bit billStateFlags 0 1 && decide (s.get billStateActivationUtc 0 = u)
  (s.rateAt (!activates) (s.localReached u)).elim (s.get billStateRate 0) fun x => x.2.2.2

/-- d_max of a quantity at the rate in force. -/
def State.dMaxNow (s : State) (q : Nat) : Nat := s.get (billDemandDMax (s.get billStateRate 0 % 16)) q

/-- One quantity of the exchange region. -/
def State.exchangeQuantity (s : State) (q : Nat) : State :=
  let a := 0x20780020 + 0x10 * q
  let isOpen := decide (q < 12) && (Tab.find s.bill.sessions q).isSome
  ((s.poke a 8 (s.get billNowEInt q)).poke (a + 8) 4 (s.dMaxNow q)).poke (a + 12) 4 (if isOpen then 1 else 0)

/-- LEGAL_EXCHANGE_UPDATE: the region rewritten under the sequence rule (R236, spec/02 R47). -/
def execLegalExchangeUpdate (t : Nat) (s : State) : Res :=
  let s := s.at t
  if s.sup.fieldUp = false then .next s
  else
    let s := s.bumpSeq 0x20780000
    let s := ((s.poke 0x20780008 8 (s.get billStateRate 0)).poke 0x20780010 8 s.boundaryAhead).poke 0x20780018 8 s.intervalEnd
    .next ((List.range 16).foldl State.exchangeQuantity s)

/-- GATE_RATE (0x80). -/
def execGateRate (t : Nat) (s : State) : Res :=
  .next ((s.at t).gateAnswer 4 0x80 fun s _ => (s, [0, s.get billStateRate 0, s.boundaryAhead, s.rateAhead]))

/-- Energy of an open session in one direction over all rates. -/
def sumRates (x : Tab Nat) : Nat := ((List.range 16).map fun r => Tab.get x r 0).foldl (· + ·) 0

/-- GATE_LEGAL_SESSION (0x81). -/
def execGateLegalSession (t : Nat) (s : State) : Res :=
  .next ((s.at t).gateAnswer 4 0x81 fun s a =>
    let o := gateArg a 0
    match if o < 12 then Tab.find s.bill.sessions o else none with
    | some b => (s, [0, sumRates b.deliv, sumRates b.ret, b.startUtc])
    | none => (s, [1, 0, 0, 0]))

/-- GATE_DEMAND (0x82); a quantity there is not answers zero. -/
def execGateDemand (t : Nat) (s : State) : Res :=
  .next ((s.at t).gateAnswer 4 0x82 fun s a =>
    let q := gateArg a 0
    if q < 16 then (s, [0, s.get billNowEInt q, s.dMaxNow q, s.intervalEnd]) else (s, [0, 0, 0, s.intervalEnd]))

end Sys2Proof.Machine
end

