-- ==== Sys2Proof/Machine/LoadStore.lean ====
section
/-! DEFINITION. Loads and stores of a core, to every space, and the loads that have rows of their own (spec/02 R42–R46, R56, spec/03 R80, R81,
R84, spec/13 R359, R372). -/

namespace Sys2Proof.Machine

open Sys2Proof

/-- Core `c` retires a load: rd, next pc. -/
def State.loaded (s : State) (c rd : Nat) (v : Word) (pc : Addr) : State := s.retire c ((s.core c).setReg rd v) pc

/-- A load of `n` bytes at `a` into rd, widened by `f`; `pc` is the next instruction. One from effect space waits until the core's effect
queue is empty (spec/03 R81); effect space takes LW and LD alone, not LWU (spec/02 R44): `eff`. -/
def State.load (s : State) (c rd a n : Nat) (eff : Bool) (f : Nat → Word) (pc : Addr) (ecc : BlockResult) : State :=
  let k := s.core c
  let fault (code : Nat) : State := s.exc c code 0 (BitVec.ofNat 64 a) k.pc s.now
  match k.checkAccess c a n false with
  | some code => fault code
  | none =>
    if isEffect a then
      (if eff = false then fault 0x03
       else if k.eq ≠ [] then s
       else match s.effectRead c a n with
        | none => fault 0x03
        | some (v, s') => s'.loaded c rd (f v) pc)
    else if isMailbox a then s.loaded c rd (f (s.mailRead a n)) pc
    else
      let b := s.block c a ecc
      match b.2 with
      | some r => b.1.exc c 0x06 r (BitVec.ofNat 64 (blockOf a)) k.pc s.now
      | none => b.1.loaded c rd (f (s.loadBytes c a n)) pc

/-- The cause of a store a page refuses beyond rights and alignment: a mailbox takes SW and SD only (spec/12 R343), the legal send page an SD to
offset 0 only (spec/08 R232). -/
def storeRefused (a n : Nat) : Bool :=
  (isMailbox a && decide (n < 4)) || (inRange a 0x40220000 0x4022FFFF && (a != 0x40220000 || n != 8))

/-- A store of the low `n` bytes of rd at `a`. One to effect space or a mailbox takes an entry of the effect queue; with all 32 taken the core
stalls for a number of cycles that the pipeline gives (spec/03 R84, notes/assumptions/11.md). -/
def State.store (s : State) (c rd a n : Nat) (pc : Addr) (ecc : BlockResult) : State :=
  let k := s.core c
  let v := (k.reg rd).toNat % 2 ^ (8 * n)
  let fault (code : Nat) : State := s.exc c code 0 (BitVec.ofNat 64 a) k.pc s.now
  match k.checkAccess c a n true with
  | some code => fault code
  | none =>
    if storeRefused a n then fault 0x04
    else if isEffect a || isMailbox a then
      (if 32 ≤ k.eq.length then
        let f := s.fresh
        let stalls := min ((k.cwd c 19).toNat / 2 ^ 32 + f.1) (2 ^ 32 - 1)
        f.2.setCore c (k.setCwd 19 (BitVec.ofNat 64 (stalls * 2 ^ 32)))
       else s.retire c { k with eq := k.eq ++ [{ addr := a, wide := n == 8, data := BitVec.ofNat 64 v }] } pc)
    else
      let b := s.block c a ecc
      match b.2 with
      | some r => b.1.exc c 0x06 r (BitVec.ofNat 64 (blockOf a)) k.pc s.now
      | none => (b.1.storeBytes c a v n).retire c k pc

/-- A load with its prefixes. -/
def State.loadRow (s : State) (c rd ra : Nat) (imm : BitVec 16) (lim : Lim) (ecc : BlockResult) (n : Nat) (eff : Bool) (f : Nat → Word) :
    State :=
  s.withLim c lim fun k => s.load c rd (k.ea ra imm lim % 2 ^ 64) n eff f (k.pc + BitVec.ofNat 32 (4 * limWords lim)) ecc

/-- A store with its prefixes. -/
def State.storeRow (s : State) (c rd ra : Nat) (imm : BitVec 16) (lim : Lim) (ecc : BlockResult) (n : Nat) : State :=
  s.withLim c lim fun k => s.store c rd (k.ea ra imm lim % 2 ^ 64) n (k.pc + BitVec.ofNat 32 (4 * limWords lim)) ecc

/-- A value of `n` bytes zero-extended. -/
def zextWord (v : Nat) : Word := BitVec.ofNat 64 v
/-- A value of `w` bits sign-extended. -/
def sextBits (w v : Nat) : Word := (BitVec.ofNat w v).signExtend 64

/-- LB (spec/02 R56). -/
def execLb (c : Fin 6) (rd ra : Fin 32) (imm : BitVec 16) (lim : Lim) (ecc : BlockResult) (s : State) : Res :=
  .next (s.loadRow c rd ra imm lim ecc 1 false (sextBits 8))
/-- LBU (spec/02 R56). -/
def execLbu (c : Fin 6) (rd ra : Fin 32) (imm : BitVec 16) (lim : Lim) (ecc : BlockResult) (s : State) : Res :=
  .next (s.loadRow c rd ra imm lim ecc 1 false zextWord)
/-- LH (spec/02 R56). -/
def execLh (c : Fin 6) (rd ra : Fin 32) (imm : BitVec 16) (lim : Lim) (ecc : BlockResult) (s : State) : Res :=
  .next (s.loadRow c rd ra imm lim ecc 2 false (sextBits 16))
/-- LHU (spec/02 R56). -/
def execLhu (c : Fin 6) (rd ra : Fin 32) (imm : BitVec 16) (lim : Lim) (ecc : BlockResult) (s : State) : Res :=
  .next (s.loadRow c rd ra imm lim ecc 2 false zextWord)
/-- LW (spec/02 R56). -/
def execLw (c : Fin 6) (rd ra : Fin 32) (imm : BitVec 16) (lim : Lim) (ecc : BlockResult) (s : State) : Res :=
  .next (s.loadRow c rd ra imm lim ecc 4 true (sextBits 32))
/-- LWU (spec/02 R56). -/
def execLwu (c : Fin 6) (rd ra : Fin 32) (imm : BitVec 16) (lim : Lim) (ecc : BlockResult) (s : State) : Res :=
  .next (s.loadRow c rd ra imm lim ecc 4 false zextWord)
/-- LD (spec/02 R56). -/
def execLd (c : Fin 6) (rd ra : Fin 32) (imm : BitVec 16) (lim : Lim) (ecc : BlockResult) (s : State) : Res :=
  .next (s.loadRow c rd ra imm lim ecc 8 true zextWord)
/-- SB (spec/02 R56). -/
def execSb (c : Fin 6) (rd ra : Fin 32) (imm : BitVec 16) (lim : Lim) (ecc : BlockResult) (s : State) : Res :=
  .next (s.storeRow c rd ra imm lim ecc 1)
/-- SH (spec/02 R56). -/
def execSh (c : Fin 6) (rd ra : Fin 32) (imm : BitVec 16) (lim : Lim) (ecc : BlockResult) (s : State) : Res :=
  .next (s.storeRow c rd ra imm lim ecc 2)
/-- SW (spec/02 R56, spec/03 R80). -/
def execSw (c : Fin 6) (rd ra : Fin 32) (imm : BitVec 16) (lim : Lim) (ecc : BlockResult) (s : State) : Res :=
  .next (s.storeRow c rd ra imm lim ecc 4)
/-- SD (spec/02 R56, spec/03 R80). -/
def execSd (c : Fin 6) (rd ra : Fin 32) (imm : BitVec 16) (lim : Lim) (ecc : BlockResult) (s : State) : Res :=
  .next (s.storeRow c rd ra imm lim ecc 8)

/-- An LD of a word of effect space that has a row of its own; it retires as one instruction word (notes/assumptions/34.md). -/
def State.effectLd (s : State) (c rd a : Nat) : State :=
  s.issue c fun k => s.load c rd a 8 true zextWord (k.pc + 4) .clean

/-- CORE_STATUS_READ_CLEAR (spec/02 R46): a word of the core's own block. -/
def execCoreStatusReadClear (t : Nat) (c : Fin 6) (rd : Fin 32) (word : Fin 4) (s : State) : Res :=
  .next ((s.at t).effectLd c rd (0x40300000 + 0x1000 * c + 8 * word))

/-- CAN_BUFFER_LOCK (spec/13 R359): a load of a buffer's header; buffer 32 + b, the high-priority one for b = 32. -/
def execCanBufferLock (t : Nat) (c : Fin 6) (rd : Fin 32) (ch : Fin 4) (b : Fin 33) (s : State) : Res :=
  .next ((s.at t).effectLd c rd (canBufAddr ch (b + 32)))

/-- CAN_BUFFER_RELEASE (spec/13 R359): a load of its tail. -/
def execCanBufferRelease (t : Nat) (c : Fin 6) (rd : Fin 32) (ch : Fin 4) (b : Fin 33) (s : State) : Res :=
  .next ((s.at t).effectLd c rd (canBufAddr ch (b + 32) + 0x50))

/-- MESH_RX_LOCK (spec/13 R372): a load of a receive slot's header. -/
def execMeshRxLock (t : Nat) (c : Fin 6) (rd : Fin 32) (slot : Fin 16) (s : State) : Res :=
  .next ((s.at t).effectLd c rd (meshRxAddr slot))

/-- MESH_RX_RELEASE (spec/13 R372): a load of its tail. -/
def execMeshRxRelease (t : Nat) (c : Fin 6) (rd : Fin 32) (slot : Fin 16) (s : State) : Res :=
  .next ((s.at t).effectLd c rd (meshRxAddr slot + 0x1A0))

end Sys2Proof.Machine
end

