-- ==== Sys2Proof/Machine/PinRows.lean ====
section
/-! DEFINITION. The rows of the tamper loops and of MPULSE (spec/17 R460, R461). -/

namespace Sys2Proof.Machine

open Sys2Proof

/-- A tamper loop. -/
def State.loop (s : State) (n : Nat) : Loop := Tab.get s.pins.loops n Loop.reset
/-- A tamper loop replaced. -/
def State.setLoop (s : State) (n : Nat) (k : Loop) : State := { s with pins := { s.pins with loops := Tab.set s.pins.loops n k } }

/-- TAMPER_CHECK: a loop checked from VHOST every 10 ms or from VBAT every 1 s; class 0 is closed. An opening found from VBAT is latched in HT
with its legal time, which HT's own clock gives (spec/08 R213): 0 while it is invalid. -/
def execTamperCheck (t : Nat) (loop : Fin 2) (cls : Fin 4) (fromVbat : Bool) (s : State) : Res :=
  let s := s.at t
  let n := loop.val
  let k := s.loop n
  if fromVbat then
    (if cls.val = 0 ∨ k.latched.isSome then .next s else .next (s.setLoop n { k with latched := some (cls.val, if s.clk.legalInvalid then 0 else s.rtcSecond t) }))
  else if cls.val = 0 then .next (s.setLoop n { k with cls := 0, since := none, counted := false })
  else .next (s.setLoop n { k with cls := cls.val, since := some (k.since.getD t) })

/-- TAMPER_LOOP_OPEN: an opening latched from VBAT is counted at the next start with its own legal time; one found from VHOST once it has
lasted 100 ms, event type 0 or 1 with its class, once for each opening. -/
def execTamperLoopOpen (t : Nat) (loop : Fin 2) (s : State) : Res :=
  let s := s.at t
  let n := loop.val
  let k := s.loop n
  match k.latched with
  | some (c, l) =>
    if s.sup.hostServing && s.sup.fieldUp then
      let first := s.get billTamperCount n == 0
      let s := ((s.setLoop n { k with latched := none }).tamper n c t).put billTamperLastUtc n l
      .next (if first then s.put billTamperFirstUtc n l else s)
    else .next s
  | none =>
    if (k.since.any fun a => decide (a + 100000000 ≤ t)) && !k.counted then .next ((s.setLoop n { k with counted := true }).tamper n k.cls t)
    else .next s

/-- MPULSE: one pulse of width ms from the backlog, at least width ms after the last (R461). -/
def execMpulse (t : Nat) (s : State) : Res :=
  let s := s.at t
  let w := s.get meterPulseWidth 0
  if s.flag meterPulseEnable 0 = false ∨ s.get meterPulseBacklog 0 = 0 ∨ t < s.pins.pulseEnd ∨ s.sup.hostUp = false then .next s
  else
    let s := s.put meterPulseBacklog 0 (s.get meterPulseBacklog 0 - 1)
    .next ({ s with pins := { s.pins with pulseEnd := t + 2 * w * 1000000 } }.emit (.pulse w))

end Sys2Proof.Machine
end

