-- ==== Sys2Proof/Machine/PowerRows.lean ====
section
/-! DEFINITION. Supplies, start-up, resets, watchdogs and the device's own mode transitions (spec/16 R427–R443, spec/07 R206, R207). -/

namespace Sys2Proof.Machine

open Sys2Proof

/-- Supplies and start-up replaced. -/
def State.setSup (s : State) (x : Sup) : State := { s with sup := x }

/-! ### Start-up (spec/16 R433, R434) -/

/-- POWER_GOOD: each side that is in reset leaves it; the field side runs steps 1 to 4 with what self-test and recovery found. -/
def execPowerGood (t : Nat) (straps : BitVec 2) (selftestFail : BitVec 14) (coreFail : BitVec 5) (rec : RecoveryIn) (s : State) : Res :=
  let s := s.at t
  let s := if s.sup.hostUp then s else s.startHost straps.toNat t
  .next (if s.sup.fieldUp then s else s.startField true selftestFail.toNat coreFail.toNat rec t)

/-- Whether start-up may leave BOOT: steps 1 to 4 done, no island failed its self-test, no watchdog loop, no host recovery, PFAILF_N high; the
host side present or an image loaded (R432, R433, R435, R442). -/
def State.mayComplete (s : State) : Bool :=
  s.sup.fieldUp && s.sup.bootStep == 4 && s.get modeBootSelftestFail 0 &&& 0x27FF == 0 && !s.sup.wdLoop && !s.sup.recovery
    && s.sup.pfailf.isNone && (!s.cway.hostAbsent || (List.range 6).any fun c => (s.core c).image.isSome)

/-- BOOT_COMPLETE: the start statement is signed, and BOOT is left for SAFE-HOLD, MAINTENANCE or STANDBY (Table 16-2). -/
def execBootComplete (t : Nat) (s : State) : Res :=
  let s := s.at t
  if s.mayComplete = false then .next s
  else
    let s := (s.setSup { s.sup with bootStep := 5 }).put (modeBootTStep 4) 0 (s.sinceGood t)
    let s := if s.keys.identity && s.sup.hostServing then s.attest 2 0 t else s
    if s.get modeStateMode 0 ≠ 0 then .next s
    else if s.get modeStateHold 0 ≠ 0 then .next (s.moveMode 4 2 0xFF 0 t)
    else if s.get modeStateStraps 0 = 1 then .next (s.moveMode 5 3 0xFF 0 t)
    else .next (s.moveMode 1 4 0xFF 0 t)

/-- AUTO_SERVICE (R427, R434): STANDBY is left once the device is ready and auto_service is 1. -/
def execAutoService (t : Nat) (s : State) : Res :=
  let s := s.at t
  if s.get modeStateMode 0 = 1 ∧ s.flag modeConfigAutoService 0 ∧ s.ready then .next (s.toService 0xFF 0 t) else .next s.refreshReady

/-- MAINTENANCE_TIMEOUT: maint_s after entry. -/
def execMaintenanceTimeout (t : Nat) (s : State) : Res :=
  let s := s.at t
  if s.get modeStateMode 0 = 5 ∧ s.get modeStateSince 0 + s.get modeConfigMaintS 0 * 1000000000 ≤ t then .next (s.moveMode 1 11 0xFF 0 t)
  else .next s

/-! ### Supplies (spec/16 R438) -/

/-- SUPPLY_WARNING: source 0x9A, counted. -/
def execSupplyWarning (t : Nat) (field : Bool) (s : State) : Res :=
  let s := s.at t
  let s := s.setSup (if field then { s.sup with fieldWarn := true } else { s.sup with hostWarn := true })
  .next (((s.inc modeSupplyWarnings 0 1).raise 0x9A t).refreshLands t)

/-- SUPPLY_WARNING_CLEAR. -/
def execSupplyWarningClear (t : Nat) (field : Bool) (s : State) : Res :=
  let s := s.at t
  .next ((s.setSup (if field then { s.sup with fieldWarn := false } else { s.sup with hostWarn := false })).refreshLands t)

/-- VBAT_LOW: time.now status [2]. -/
def execVbatLow (t : Nat) (s : State) : Res :=
  let s := s.at t
  .next ((s.setSup { s.sup with vbatLow := true }).refreshLands t)

/-- VBAT_LOW_CLEAR. -/
def execVbatLowClear (t : Nat) (s : State) : Res :=
  let s := s.at t
  .next ((s.setSup { s.sup with vbatLow := false }).refreshLands t)

/-! ### Power-fail warnings of the field side (spec/16 R439, spec/07 R206, R207, spec/15 R414) -/

/-- A power-fail warning begins: the registers freeze at `tf`; the commit follows once every index up to it has been processed. -/
def State.beginWarning (s : State) (tf : Nat) (internal : Bool) : State :=
  let s := s.setSup { s.sup with warn := some (tf, internal), warnHeld := false }
  (((s.inc modeSupplyPfailf 0 1).freeze tf tf).freezeCommit).refreshReady.refreshLands tf

/-- A power-fail warning ends without a reset. -/
def State.endWarning (s : State) (t : Nat) : State :=
  let s := s.setSup { s.sup with warn := none, warnHeld := false }
  ((s.resume t t).refreshReady).refreshLands t

/-- PFAILF_N_FALL: t is the stamp of an edge after which the land stayed low for 2 µs; ignored while the internal warning is in force. -/
def execPfailfNFall (t : Nat) (s : State) : Res :=
  let s := s.at t
  let s := s.setSup { s.sup with pfailf := some t }
  .next (if s.sup.warn.isSome then s.refreshReady else s.beginWarning t false)

/-- PFAILF_N_RISE: ends the warning that its fall began. -/
def execPfailfNRise (t : Nat) (s : State) : Res :=
  let s := s.at t
  let s := s.setSup { s.sup with pfailf := none }
  match s.sup.warn with
  | some (_, false) => .next (s.endWarning t)
  | _ => .next s.refreshReady

/-- INTERNAL_POWER_FAIL_WARNING: VFLD fell while PFAILF_N is still high. -/
def execInternalPowerFailWarning (t : Nat) (s : State) : Res :=
  let s := s.at t
  .next (if s.sup.warn.isSome || s.sup.pfailf.isSome then s else s.beginWarning t true)

/-- INTERNAL_POWER_FAIL_WARNING_END: counts as the rise of R207. -/
def execInternalPowerFailWarningEnd (t : Nat) (s : State) : Res :=
  let s := s.at t
  match s.sup.warn with
  | some (_, true) => .next (s.endWarning t)
  | _ => .next s

/-- POWER_FAIL_HOLD: the warning has lasted 100 ms with VFLD healthy: STANDBY under R429 and source 0x9A. -/
def execPowerFailHold (t : Nat) (s : State) : Res :=
  let s := s.at t
  match s.sup.warn with
  | some (tf, _) =>
    if t < tf + 100000000 ∨ s.sup.warnHeld ∨ s.sup.fieldWarn then .next s
    else
      let s := s.setSup { s.sup with warnHeld := true }
      .next (if s.get modeStateMode 0 = 2 ∨ s.get modeStateMode 0 = 3 then (s.moveMode 1 9 0xFF 0 t).raise 0x9A t else s)
  | none => .next s

/-! ### PFAILH_N (spec/16 R441) -/

/-- PFAILH_N_FALL: counted; PFAIL is sent; later requests get 0x0007. -/
def execPfailhNFall (t : Nat) (s : State) : Res :=
  let s := s.at t
  if s.sup.pfailhLow then .next s
  else
    let s := (s.setSup { s.sup with pfailhLow := true }).inc modeSupplyPfailh 0 1
    .next ((if s.sup.hostUp then s.cwSend .host 0x08 1 0 noPayload t else s).refreshLands t)

/-- PFAILH_N_RISE: the host side resumes. -/
def execPfailhNRise (t : Nat) (s : State) : Res :=
  let s := s.at t
  .next ((s.setSup { s.sup with pfailhLow := false }).refreshLands t)

/-! ### Resets (spec/16 Table 16-5, R436, R437) -/

/-- The field side restarts with its hot tier preserved: reset, then steps 1 to 4 (R436). A cold one retrains the lanes and releases a
watchdog loop (R442). -/
def State.restartField (s : State) (cold : Bool) (code port role t : Nat) : State :=
  let s := s.fieldReset cold code port role t
  let s := if cold then s.setSup { s.sup with wdLoop := false, wdResets := [] } else s
  s.startField cold 0 0 wholeCopies 0

/-- RESET_WARM: a warm RESET message has arrived whole and in sequence. -/
def execResetWarm (t : Nat) (port role : BitVec 8) (s : State) : Res :=
  let s := s.at t
  if s.sup.fieldUp then .next (s.restartField false 6 port.toNat role.toNat t) else .next s

/-- RESET_COLD: a cold RESET message has arrived whole and in sequence. -/
def execResetCold (t : Nat) (port role : BitVec 8) (s : State) : Res :=
  let s := s.at t
  if s.sup.fieldUp then .next (s.restartField true 7 port.toNat role.toNat t) else .next s

/-- RST_N: a low of 1 µs or more resets the host side only (spec/01 R20), one below 200 ns is ignored (spec/17 R459); of one in between the
spec says neither: whether it resets is a free value (notes/assumptions/47.md). -/
def execRstN (t : Nat) (lowNs : Nat) (s : State) : Res :=
  let s := s.at t
  if lowNs < 200 then .next s
  else if 1000 ≤ lowNs then .next (s.hostReset 3 0 0 t)
  else .next (if s.fresh.1 % 2 = 1 then s.fresh.2.hostReset 3 0 0 t else s.fresh.2)

/-- The Causeway over a cold reset of one side by its supply: the link in service stays (spec/01 R17, R18) until both sides are in a cold reset
at once, which starts it anew with link A; what the field side queued for the host side lies in the journal and stays (R13). -/
def Causeway.powerReset (c : Causeway) (side : Side) : Causeway :=
  let c := match side with
    | .host => { c with hostCold := true }
    | .field => { c with fieldCold := true, toHost := { c.toHost with kept := [] }, hostAbsent := false, counts := [],
                         bulk := c.bulk.filter fun e => e.1 % 2 == 1 }
  if c.hostCold && c.fieldCold then { Causeway.reset with resetAsk := c.resetAsk, queued := c.queued, hostCold := true, fieldCold := true } else c

/-- A cold reset of a side by its supply or rail: the side stays in reset until power is good. -/
def State.powerReset (s : State) (side : Side) (code t : Nat) : State :=
  let s := match side with
    | .host => s.hostReset code 0 0 t
    | .field => s.fieldReset true code 0 0 t
  { s with cway := s.cway.powerReset side }

/-- SUPERVISOR_RESET: power-on, or a supply below its reset threshold. -/
def execSupervisorReset (t : Nat) (side : Side) (powerOn : Bool) (s : State) : Res :=
  .next ((s.at t).powerReset side (if powerOn then 1 else 2) t)

/-- RAIL_FAULT: an internal rail outside ±5 % for 10 µs. -/
def execRailFault (t : Nat) (side : Side) (s : State) : Res := .next ((s.at t).powerReset side 8 t)

/-- HOST_PLL_LOCK_LOST. -/
def execHostPllLockLost (t : Nat) (s : State) : Res := .next ((s.at t).hostReset 10 0 0 t)

/-- HOST_RESET_END: the host side leaves reset, samples BOOT0 and BOOT1 and serves. -/
def execHostResetEnd (t : Nat) (straps : BitVec 2) (s : State) : Res :=
  let s := s.at t
  if s.sup.hostUp then .next s else .next (s.startHost straps.toNat t)

/-! ### Watchdogs (spec/16 R442) -/

/-- The number of a kick's source: 0 the port partition, 1 to 5 the field engines. -/
def kickNo : WdSource → Nat
  | .hostPort => 0 | .fc => 1 | .fm => 2 | .fx => 3 | .fn => 4 | .fj => 5

/-- WATCHDOG_KICK. -/
def execWatchdogKick (t : Nat) (src : WdSource) (s : State) : Res :=
  let s := s.at t
  .next (s.setSup { s.sup with kicks := Tab.set s.sup.kicks (kickNo src) t })

/-- HOST_WATCHDOG: 100 ms without a kick. -/
def execHostWatchdog (t : Nat) (s : State) : Res :=
  let s := s.at t
  if s.sup.hostServing ∧ Tab.get s.sup.kicks 0 s.sup.hostUpAt + 100000000 ≤ t then .next (s.hostReset 4 0 0 t) else .next s

/-- FIELD_WATCHDOG: 50 ms without one of the heartbeats: a warm reset; the fourth within 1 h holds the field side in BOOT. -/
def execFieldWatchdog (t : Nat) (s : State) : Res :=
  let s := s.at t
  let late := [1, 2, 3, 4, 5].any fun n => decide (Tab.get s.sup.kicks n s.sup.goodAt + 50000000 ≤ t)
  if s.sup.fieldUp = false ∨ late = false then .next s
  else
    let up := s.sup.upBase + t
    let recent := up :: s.sup.wdResets.filter fun x => decide (up < x + 3600000000000)
    let s := s.setSup { s.sup with wdResets := recent, wdLoop := s.sup.wdLoop || decide (4 ≤ recent.length) }
    let s := s.restartField false 5 0 0 t
    .next ((s.setSup { s.sup with wdoUntil := 100000000 }).refreshReady.refreshLands 0)

end Sys2Proof.Machine
end

