-- ==== Sys2Proof/Machine/SampleRow.lean ====
section
/-! DEFINITION. SAMPLE_BLOCK: what the frame of one upstream slot brought from one head, given to each engine that uses it
(spec/12 R328, R331, spec/05 R149–R162, spec/06 R168, spec/07 R187, spec/09 R239, spec/11 R293). -/

namespace Sys2Proof.Machine

/-- The pending bit of a head's block: it has upstream service content (spec/12 R328). -/
def State.setPending (s : State) (h : Nat) (b : Bool) : State :=
  let k := s.avn (h / 8)
  s.setAvn (h / 8) { k with pend := withBit k.pend (h % 8) b }

/-- The highest temperature a head reported (spec/18 Table 18-3). -/
def State.headTemp (s : State) (h : Nat) (x : Int) : State := s.countHead h fun c => { c with temp := max c.temp x }

/-- The valid temperatures of an outlet head's block. -/
def outletTemps (b : OutletBlk) : List Int :=
  [(5, b.tIn), (6, b.tOut), (8, b.tDcp), (9, b.tDcn)].filterMap fun (p : Nat × BitVec 16) =>
    if b.invalid.getLsbD p.1 then none else some p.2.toInt

/-- An outlet head's block taken for one outlet: voltage, insulation monitor, coolant, metrology, pilot. -/
def State.outletSample (s : State) (o : Nat) (b : OutletBlk) (t : Nat) : State :=
  let s := s.setConv o { s.conv o with insulation := b.insulation.toNat }
  let s := s.takeVolts o (if b.invalid.getLsbD 4 then none else some (50 * b.vCtl.toInt)) t
  let s := (s.cableCheck o t).precheckDone o t
  ((s.coolBlock o b t).meterBlock o b t).takePilot o b.pilot.toNat t

/-- No block of head `h` in a frame: phases without samples, an outlet's voltage sample and coolant readings absent (spec/05 R149, R158,
spec/06 Table 6-1). -/
def State.noBlock (s : State) (h t : Nat) : State :=
  let s := (s.stageOf h).foldl (fun s (p : Nat × Nat) => s.stageAbsent p.1 p.2 h) s
  (s.outletOf h).foldl (fun s (o : Nat) => (s.takeVolts o none t).coolAbsent o t) s

/-- SAMPLE_BLOCK (spec/12 R331). -/
def execSampleBlock (t : Nat) (head : Fin 48) (blk : UpBlock) (s : State) : Res :=
  let s := s.at t
  let h := head.val
  match blk with
  | .stage b =>
    let s := (s.setPending h b.pending).headTemp h (if b.tempInv then 0 else b.hsTemp.toInt)
    .next ((s.stageOf h).foldl (fun s (p : Nat × Nat) => (s.stageBlock p.1 p.2 h b t).precheckDone p.1 t) s)
  | .battery b => .next ((s.setPending h b.pending).battBlock h b)
  | .outlet b =>
    let s := (outletTemps b).foldl (fun s (x : Int) => s.headTemp h x) (s.setPending h b.pending)
    .next ((s.outletOf h).foldl (fun s (o : Nat) => s.outletSample o b t) s)
  | .incomer b => .next ((s.setPending h b.pending).incomerBlock b)
  | .mesh p => .next (s.setPending h p)
  | .bad r =>
    let l := 2 * (h / 8) + (1 - s.cmdLane (h / 8) (h % 8))
    let s := s.countBlock (19 + l) r (s.lane (4 + l)).back t
    .next (if BlockResult.lost r then s.noBlock h t else s)
  | .absent => .next ((s.countHead h fun c => { c with absent := c.absent + 1 }).noBlock h t)

end Sys2Proof.Machine
end

