-- ==== Sys2Proof/Machine/StatusRow.lean ====
section
/-! DEFINITION. STATUS: the other side is heard again and what waited for it goes out (spec/01 R13, R18, spec/16 R432, R441). -/

namespace Sys2Proof.Machine

/-- What the journal's queue holds goes out in its original order (spec/01 R13). -/
def State.sendQueued (s : State) (q : Queued) (t : Nat) : State :=
  match q with
  | .notify p obj idx ack payload => s.enqueueNtf p { obj := obj, idx := idx, ack := ack, payload := payload }
  | .receipt no => s.sendReceipt no
  | .key tag core =>
    match s.keys.pend.find? fun x => x.tag == tag && x.core == core with
    | some x => (s.keyCross x.ref x.op x.core x.tag x.data t).2
    | none => s

/-- The absent state of the host side ends: KEY_REQs that had crossed without an answer are sent again (spec/16 R441), then the queue follows. -/
def State.hostBack (s : State) (t : Nat) : State :=
  let q := s.cway.queued
  let s := { s with cway := { s.cway with queued := [] } }
  let again := s.keys.pend.filter fun x => !q.contains (.key x.tag x.core)
  let s := again.foldl (fun s x => (s.keyCross x.ref x.op x.core x.tag x.data t).2) s
  q.foldl (fun s x => s.sendQueued x t) s

/-- STATUS at `side`: the absent state ends, what is kept and queued is sent in order; the first one from the host side brings the straps
(spec/16 R432). -/
def execStatus (t : Nat) (side : Side) (straps : BitVec 2) (s : State) : Res :=
  let s := s.at t
  match side with
  | .field =>
    let was := s.cway.hostAbsent
    let s := { s with cway := { s.cway with hostAbsent := false, hostHeard := t } }
    let s := if s.get modeStateMode 0 = 0 then s.put modeStateStraps 0 straps.toNat else s
    let s := s.refreshCw
    .next ((if was then (s.cwFlush .field (fun _ => true) t).hostBack t else s).refreshLands t)
  | .host =>
    let was := s.cway.fieldAbsent
    let s := { s with cway := { s.cway with fieldAbsent := false, fieldHeard := t } }
    let s := s.refreshCw
    .next ((if was then s.cwFlush .host (fun _ => true) t else s).refreshLands t)

end Sys2Proof.Machine
end

