-- ==== Sys2Proof/Machine/ThermRows.lean ====
section
/-! DEFINITION. The rows of the thermal monitor: rounds, vote-out, orderly stop (spec/06 R177–R184). Temperatures in 0.1 °C. -/

namespace Sys2Proof.Machine

open Sys2Proof

/-! ### Readings (spec/06 R176, R177, R179) -/

/-- Whether sensor `n` is one FJ reads: an on-die sensor, or a TS input that is configured. -/
def State.sensorUsed (s : State) (n : Nat) : Bool := decide (n < 42) || s.get thermTsKind (n - 42) != 0

/-- The natural logarithm of a fraction of [1, 2) in 2^-48, as twice the series of atanh: `n` terms from index `i`, `z` the current odd power. -/
def atanhSum (z2 : Nat) : Nat → Nat → Nat → Nat
  | 0, _, _ => 0
  | n + 1, i, z => z / (2 * i + 1) + atanhSum z2 n (i + 1) (z * z2 / 2 ^ 48)

/-- ln(a ÷ b) in 2^-48 for b ≤ a < 2 b. -/
def lnNear (a b : Nat) : Int :=
  let z := (a - b) * 2 ^ 48 / (a + b)
  2 * (atanhSum (z * z / 2 ^ 48) 24 0 z : Nat)

/-- ln(R ÷ 10 kΩ) in 2^-48 (R176). -/
def lnRatio (r : Nat) : Int :=
  let k := Nat.log2 (64 * r / 10000)
  lnNear (64 * r) (10000 * 2 ^ k) + ((k : Int) - 6) * lnNear 2 1

/-- A temperature of num ÷ den in 0.1 K as 0.1 °C, nearest, within the field. -/
def fromKelvin (num den : Int) : Int := limitTo (-32768) 32767 (roundHalf (2 * num - 5463 * den) (2 * den))

/-- What a TS input's measurement gives (R176): none where it makes the input absent; no value where the formula has none. A diode's ΔVbe is in
µV, between 30 and 90 mV: T = (ΔVbe − 90 µA × R) ÷ (n × (k ÷ q) × ln 10); a thermistor's resistance is in Ω, between 200 Ω and 400 kΩ. -/
def tsTemp (kind ideality rSeries beta : Nat) (raw : Int) : Option (Option Int) :=
  if kind = 1 then
    if raw < 30000 ∨ 90000 < raw then none
    else if ideality = 0 then some none
    else some (some (fromKelvin ((raw - 9 * rSeries) * 10 ^ 18) (ideality * 1984214311077724)))
  else if raw < 200 ∨ 400000 < raw then none
  else
    let den := 100 * (beta : Int) * 2 ^ 48 + 29815 * lnRatio raw.toNat
    if den ≤ 0 ∨ beta = 0 then some none else some (some (fromKelvin (298150 * (beta : Int) * 2 ^ 48) den))

/-- A reading of sensor `n` in 0.1 °C: as read on-die; a TS input's measurement converted, a free value where no result is stated
(notes/assumptions/44.md). -/
def State.converted (s : State) (n : Nat) (r : Option Int) : State × Option Int :=
  if n < 42 then (s, r)
  else
    let i := n - 42
    match r.map fun x => tsTemp (s.get thermTsKind i) (s.get thermTsIdeality i) (s.get thermTsRSeries i) (s.get thermTsBeta i) x with
    | none => (s, none)
    | some none => (s, none)
    | some (some (some x)) => (s, some x)
    | some (some none) =>
      let f := s.fresh
      (f.2, some (toSigned 16 (f.1 % 2 ^ 16)))

/-- One reading taken: absent or not configured shown, an absent sensor that reads again in service; a voted-out one stays out. -/
def State.takeReading (s : State) (n : Nat) (raw : Option Int) : State :=
  let c := s.converted n raw
  let s := c.1
  if s.get thermSensorStatus n = 2 then c.2.elim s fun x => s.puti thermSensorTemp n x
  else if s.sensorUsed n = false then (s.put thermSensorStatus n 4).put thermSensorSuspectRounds n 0
  else
    match c.2 with
    | none => (s.put thermSensorStatus n 3).put thermSensorSuspectRounds n 0
    | some x =>
      let s := s.puti thermSensorTemp n x
      if s.get thermSensorStatus n = 1 then s else s.put thermSensorStatus n 0

/-- The readings of the other in-service sensors that sensor `n` is compared with. -/
def State.neighbours (s : State) (n : Nat) : List Int :=
  let others := if n < 42 then [0, 1, 2].map (n / 3 * 3 + ·)
    else ([42, 43, 44, 45] : List Nat).filter fun m => s.get thermTsGroup (m - 42) == s.get thermTsGroup (n - 42)
  ((others.filter fun m => m != n && s.inService m)).map fun m => s.geti thermSensorTemp m

/-- Twice the median of two or three readings. -/
def twiceMedian : List Int → Int
  | [a, b] => a + b
  | [a, b, c] => 2 * middle a b c
  | _ => 0

/-- Whether a reading fails its check: more than 8 K off the median of two or more neighbours, else outside an on-die sensor's range
(R175, R177). -/
def State.deviates (s : State) (n : Nat) : Bool :=
  let x := s.geti thermSensorTemp n
  let nb := s.neighbours n
  if 2 ≤ nb.length then decide (160 < 2 * x - twiceMedian nb) || decide (160 < twiceMedian nb - 2 * x)
  else decide (n < 42) && (decide (x < -400) || decide (1250 < x))

/-- A round of sensor `n` judged: rounds in a row beyond 8 K; suspect from the third. -/
def State.judgeSensor (s : State) (bad : Bool) (n : Nat) : State :=
  if 2 ≤ s.get thermSensorStatus n then s
  else if bad then
    let k := s.get thermSensorSuspectRounds n + 1
    (s.put thermSensorSuspectRounds n (min k (2 ^ 32 - 1))).put thermSensorStatus n (if 3 ≤ k then 1 else 0)
  else (s.put thermSensorSuspectRounds n 0).put thermSensorStatus n 0

/-- The lowest limit that applies to a sensor (R179). -/
def State.lowestLimit (s : State) (n : Nat) : Int :=
  if n < 42 then 1000 else min (s.num thermTsWarnT (n - 42)) (s.num thermTsStopT (n - 42))

/-- The rate a sensor is read at next: fast from 5 K below a limit, slow again more than 7 K below every one. -/
def State.chooseRound (s : State) (n : Nat) : State :=
  let x := s.geti thermSensorTemp n
  let l := s.lowestLimit n
  if l - 50 ≤ x then s.put thermSensorRound n 1 else if x < l - 70 then s.put thermSensorRound n 0 else s

/-- Whether a TS input in service has crossed its warn_t. -/
def State.warnCrossed (s s' : State) (n : Nat) : Bool :=
  let w := s'.num thermTsWarnT (n - 42)
  decide (42 ≤ n) && s'.inService n && decide ((s.geti thermSensorTemp n < w) ≠ (s'.geti thermSensorTemp n < w))

/-- The sensors of a list read at `t`; those that `counts` names judged. -/
def State.readSensors (s : State) (ns : List Nat) (counts : Nat → Bool) (readings : List (Option Int)) (t : Nat) : State :=
  let s' := ns.foldl (fun s n => s.takeReading n (readings.getD n none)) s
  let bad := ns.filter fun n => s'.deviates n
  let s'' := (ns.filter counts).foldl (fun s n => s.judgeSensor (bad.contains n) n) s'
  let s'' := ns.foldl State.chooseRound s''
  (ns.filter fun n => State.warnCrossed s s'' n).foldl (fun s _ => s.raise 0x98 t) s''

/-! ### Bands and throttling (spec/06 R180–R182) -/

/-- The band boundaries. -/
def bandEdges : List Int := [-200, 400, 850, 1050]

/-- The band of a temperature, coming from band `b`: the higher at its boundary, the lower 2 K below it. -/
def bandFrom (b : Nat) (x : Int) : Nat :=
  let up := (bandEdges.filter fun e => decide (e ≤ x)).length
  let down := (bandEdges.filter fun e => decide (e - 20 < x)).length
  if b < up then up else min b down

/-- The throttle levels' entry temperatures. -/
def throttleEdges : List Int := [1000, 1040, 1080, 1120]

/-- The throttle level of a temperature, coming from level `b`: each left 3 K below its entry. -/
def throttleFrom (b : Nat) (x : Int) : Nat :=
  let up := (throttleEdges.filter fun e => decide (e ≤ x)).length
  let down := (throttleEdges.filter fun e => decide (e - 30 < x)).length
  if b < up then up else min b down

/-- skip_n and div of a level (Table 6-4). -/
def throttleSetting (l : Nat) : Nat × Nat :=
  if l = 0 then (0, 1) else if l = 1 then (8, 1) else if l = 2 then (0, 2) else if l = 3 then (0, 4) else (0, 8)

/-- A source raised a number of times. -/
def State.raiseTimes (s : State) (n src t : Nat) : State := (List.range n).foldl (fun s _ => s.raise src t) s

/-- Bands brought up to the islands' temperatures: source 0x98 at every change. -/
def State.setBands (s : State) (temp : Nat → Int) (t : Nat) : State :=
  let old := s.get thermStateBands 0
  let was (i : Nat) : Nat := old / 2 ^ (4 * i) % 16
  let now (i : Nat) : Nat := bandFrom (was i) (temp i)
  let new := (islands.map fun i => now i * 2 ^ (4 * i)).foldl (· + ·) 0
  if new = old then s else (s.put thermStateBands 0 new).raiseTimes ((islands.filter fun i => now i ≠ was i).length) 0x98 t

/-- Throttle levels brought up to the hottest islands of either side: source 0x99 at every change. -/
def State.setThrottle (s : State) (site host : Int) (t : Nat) : State :=
  let a := throttleFrom s.cool.siteLevel site
  let b := throttleFrom s.cool.hostLevel host
  let n := (if a = s.cool.siteLevel then 0 else 1) + (if b = s.cool.hostLevel then 0 else 1)
  let q := throttleSetting a
  let s := ({ s with cool := { s.cool with siteLevel := a, hostLevel := b } }.put thermStateSkipN 0 q.1).put thermStateDiv 0 q.2
  s.raiseTimes n 0x99 t

/-! ### Shutdown (spec/06 R183, R184) -/

/-- Whether a TS input with action 1 has reached its stop_t. -/
def State.tsStops (s : State) : Bool :=
  [0, 1, 2, 3].any fun i => s.get thermTsAction i == 1 && s.inService (42 + i) && decide (s.num thermTsStopT i ≤ s.geti thermSensorTemp (42 + i))

/-- The orderly stop begins: source 0x9D, retraction with caps of zero and controlled stops, sessions to Stopping, accumulators frozen and
the hot tier committed. -/
def State.beginShutdown (s : State) (t : Nat) : State :=
  let s := (s.put thermStateThermal 0 1).raise 0x9D t
  let s := { s with cool := { s.cool with stopAt := some t } }
  let s := s.retractAll t
  let s := (List.range 13).foldl (fun s c => s.controlledStop c t) s
  let s := outlets.foldl (fun s o => s.stopSess o 0x0D 0 t) s
  ((s.freeze t t).freezeCommit).refreshReady

/-- SAFE-HOLD for temperature. -/
def State.thermalHold (s : State) (t : Nat) : State := (s.put thermStateThermal 0 2).enterSafeHold 3 t

/-- R184's first condition: every in-service on-die sensor and every TS input with action 1 reads below 100 °C; an input that is off is none. -/
def State.cooledDown (s : State) : Bool :=
  let low (n : Nat) : Bool := decide (s.geti thermSensorTemp n < 1000)
  ((List.range 42).all fun n => !(s.inService n) || low n)
    && [0, 1, 2, 3].all fun i => s.get thermTsAction i != 1 || s.get thermTsKind i == 0 || (low (42 + i) && s.get thermSensorStatus (42 + i) != 3)

/-- The precondition of leaving SAFE-HOLD's thermal cause kept up to date (R184): stamped when it is met, forgotten when it fails. -/
def State.noteCooled (s : State) (t : Nat) : State :=
  if s.bit modeStateHold 0 3 = false then s
  else if s.cooledDown then
    (if (Tab.find s.safe.clearAt 3).isSome then s else { s with safe := { s.safe with clearAt := Tab.set s.safe.clearAt 3 t } })
  else { s with safe := { s.safe with clearAt := Tab.del s.safe.clearAt 3 } }

/-- What follows the sensors of a round: spares, temperatures, bands, throttling, shutdown. -/
def State.afterRound (s : State) (t : Nat) : State :=
  let f := s.fresh
  let s := f.2.refreshSensors t
  let open_ : Int := toSigned 16 (f.1 % 2 ^ 16)
  let temp := fun i => s.islandTemp open_ i
  let hot (l : List Nat) : Int := (greatest (l.map temp)).getD 0
  let most := hot islands
  let which := (islands.find? fun i => temp i == most).getD 0
  let s := (s.put thermStateHottest 0 which).puti thermStateTHot 0 most
  let s := (s.setBands temp t).setThrottle (hot (sideOf 5)) (hot (sideOf 0)) t
  let s := if s.get thermStateThermal 0 = 0 ∧ (1150 ≤ most ∨ s.tsStops) then s.beginShutdown t else s
  let s := if s.get thermStateThermal 0 = 1 ∧ 1200 ≤ most then s.thermalHold t else s
  s.noteCooled t

/-! ### Rows -/

/-- SLOW_ROUND: every 100 ms FJ reads every sensor, the supplies and the crystal-drift channels (R179). A sensor in the fast round is not judged by it (R177). -/
def execSlowRound (t : Nat) (readings : SlowReadings) (vfld vhost vbat : Nat) (s : State) : Res :=
  let s := s.at t
  let s := { s with cool := { s.cool with drift := readings.drift } }
  let slow (n : Nat) : Bool := s.get thermSensorRound n == 0
  let s' := (s.readSensors (List.range 46) slow readings.inputs t).afterRound t
  let low := s'.get modeSupplyVfldMin 0
  let s' := ((s'.put modeSupplyVfld 0 vfld).put modeSupplyVhost 0 vhost).put modeSupplyVbat 0 vbat
  .next (if low = 0 ∨ vfld < low then s'.put modeSupplyVfldMin 0 vfld else s')

/-- FAST_ROUND: every 1 ms FJ reads the sensors near a limit (R179). -/
def execFastRound (t : Nat) (readings : List (Option Int)) (s : State) : Res :=
  let s := s.at t
  let fast := (List.range 46).filter fun n => s.get thermSensorRound n == 1
  .next (if fast.isEmpty then s else (s.readSensors fast (fun _ => true) readings t).afterRound t)

/-- SENSOR_VOTE_OUT: a suspect sensor is voted out, recorded in the hot tier; source 0x9C (R177). -/
def execSensorVoteOut (t : Nat) (sensor : Fin 46) (s : State) : Res :=
  let s := s.at t
  let n := sensor.val
  if s.get thermSensorStatus n ≠ 1 then .next s
  else
    let s := (s.put thermSensorStatus n 2).put thermSensorOutStamp n t
    .next (((s.event 0x0D n 0 0 t).refreshSensors t).raise 0x9C t)

/-- ORDERLY_STOP_END: every converter has stopped and the commit is made, or 200 ms have passed (R183). -/
def execOrderlyStopEnd (t : Nat) (s : State) : Res :=
  let s := s.at t
  let stopped := (List.range 13).all fun c => [0, 6].contains (s.convState c)
  let late := s.cool.stopAt.any fun a => decide (a + 200000000 ≤ t)
  if s.get thermStateThermal 0 = 1 ∧ ((stopped ∧ s.dur.frozenDone) ∨ late) then .next (s.thermalHold t) else .next s

end Sys2Proof.Machine
end

