-- ==== Sys2Proof/Machine/Dispatch.lean ====
section
/-! DEFINITION. The dispatch: one arm per command, each a direct call of its meaning. -/

namespace Sys2Proof.Machine

open Sys2Proof

/-- A command's effect on everything but the queue. -/
def exec (i : Instr) (s : State) : Host.Outcome State Fault Refusal :=
  match i with
  | .causewayMessageReceived t side link msg block => Sys2Proof.Machine.execCausewayMessageReceived t side link msg block s
  | .lack t side upto => Sys2Proof.Machine.execLack t side upto s
  | .lnak t side named => Sys2Proof.Machine.execLnak t side named s
  | .lackTimeout t side => Sys2Proof.Machine.execLackTimeout t side s
  | .linkSwitchover t => Sys2Proof.Machine.execLinkSwitchover t s
  | .bitLockLoss t link => Sys2Proof.Machine.execBitLockLoss t link s
  | .linkBDown t => Sys2Proof.Machine.execLinkBDown t s
  | .linkBRetrain t locked => Sys2Proof.Machine.execLinkBRetrain t locked s
  | .status t side straps => Sys2Proof.Machine.execStatus t side straps s
  | .statusSend t side => Sys2Proof.Machine.execStatusSend t side s
  | .hostAbsent t => Sys2Proof.Machine.execHostAbsent t s
  | .time t utc rtcLost rtcMark vbatLow => Sys2Proof.Machine.execTime t utc rtcLost rtcMark vbatLow s
  | .mark t source delayCycles => Sys2Proof.Machine.execMark t source delayCycles s
  | .hsyncEdge t waitCycles => Sys2Proof.Machine.execHsyncEdge t waitCycles s
  | .rtcSecondMark t waitCycles => Sys2Proof.Machine.execRtcSecondMark t waitCycles s
  | .siteTimeHoldover t => Sys2Proof.Machine.execSiteTimeHoldover t s
  | .fieldClockFallback t => Sys2Proof.Machine.execFieldClockFallback t s
  | .resetWarm t port role => Sys2Proof.Machine.execResetWarm t port role s
  | .resetCold t port role => Sys2Proof.Machine.execResetCold t port role s
  | .rstN t lowNs => Sys2Proof.Machine.execRstN t lowNs s
  | .pfail t side => Sys2Proof.Machine.execPfail t side s
  | .bulk t side transfer chunk last data => Sys2Proof.Machine.execBulk t side transfer chunk last data s
  | .keyReq t ref op core tag data => Sys2Proof.Machine.execKeyReq t ref op core tag data s
  | .keyRsp t tag status result => Sys2Proof.Machine.execKeyRsp t tag status result s
  | .eccCounterCheckpoint t => Sys2Proof.Machine.execEccCounterCheckpoint t s
  | .add c rd ra rb => Sys2Proof.Machine.execAdd c rd ra rb s
  | .sub c rd ra rb => Sys2Proof.Machine.execSub c rd ra rb s
  | .addw c rd ra rb => Sys2Proof.Machine.execAddw c rd ra rb s
  | .subw c rd ra rb => Sys2Proof.Machine.execSubw c rd ra rb s
  | .and c rd ra rb => Sys2Proof.Machine.execAnd c rd ra rb s
  | .or c rd ra rb => Sys2Proof.Machine.execOr c rd ra rb s
  | .xor c rd ra rb => Sys2Proof.Machine.execXor c rd ra rb s
  | .andn c rd ra rb => Sys2Proof.Machine.execAndn c rd ra rb s
  | .orn c rd ra rb => Sys2Proof.Machine.execOrn c rd ra rb s
  | .xnor c rd ra rb => Sys2Proof.Machine.execXnor c rd ra rb s
  | .sll c rd ra rb => Sys2Proof.Machine.execSll c rd ra rb s
  | .srl c rd ra rb => Sys2Proof.Machine.execSrl c rd ra rb s
  | .sra c rd ra rb => Sys2Proof.Machine.execSra c rd ra rb s
  | .ror c rd ra rb => Sys2Proof.Machine.execRor c rd ra rb s
  | .slt c rd ra rb => Sys2Proof.Machine.execSlt c rd ra rb s
  | .sltu c rd ra rb => Sys2Proof.Machine.execSltu c rd ra rb s
  | .min c rd ra rb => Sys2Proof.Machine.execMin c rd ra rb s
  | .max c rd ra rb => Sys2Proof.Machine.execMax c rd ra rb s
  | .minu c rd ra rb => Sys2Proof.Machine.execMinu c rd ra rb s
  | .maxu c rd ra rb => Sys2Proof.Machine.execMaxu c rd ra rb s
  | .clz c rd ra => Sys2Proof.Machine.execClz c rd ra s
  | .ctz c rd ra => Sys2Proof.Machine.execCtz c rd ra s
  | .popc c rd ra => Sys2Proof.Machine.execPopc c rd ra s
  | .sextb c rd ra => Sys2Proof.Machine.execSextb c rd ra s
  | .sexth c rd ra => Sys2Proof.Machine.execSexth c rd ra s
  | .sextw c rd ra => Sys2Proof.Machine.execSextw c rd ra s
  | .zextw c rd ra => Sys2Proof.Machine.execZextw c rd ra s
  | .addi c rd ra imm lim => Sys2Proof.Machine.execAddi c rd ra imm lim s
  | .slti c rd ra imm lim => Sys2Proof.Machine.execSlti c rd ra imm lim s
  | .sltiu c rd ra imm lim => Sys2Proof.Machine.execSltiu c rd ra imm lim s
  | .andi c rd ra imm lim => Sys2Proof.Machine.execAndi c rd ra imm lim s
  | .ori c rd ra imm lim => Sys2Proof.Machine.execOri c rd ra imm lim s
  | .xori c rd ra imm lim => Sys2Proof.Machine.execXori c rd ra imm lim s
  | .slli c rd ra sh => Sys2Proof.Machine.execSlli c rd ra sh s
  | .srli c rd ra sh => Sys2Proof.Machine.execSrli c rd ra sh s
  | .srai c rd ra sh => Sys2Proof.Machine.execSrai c rd ra sh s
  | .mul c rd ra rb => Sys2Proof.Machine.execMul c rd ra rb s
  | .mulhi c rd ra rb => Sys2Proof.Machine.execMulhi c rd ra rb s
  | .mulhiu c rd ra rb => Sys2Proof.Machine.execMulhiu c rd ra rb s
  | .muls32 c rd ra rb => Sys2Proof.Machine.execMuls32 c rd ra rb s
  | .mulu32 c rd ra rb => Sys2Proof.Machine.execMulu32 c rd ra rb s
  | .dvs c rd ra rb => Sys2Proof.Machine.execDvs c rd ra rb s
  | .dvu c rd ra rb => Sys2Proof.Machine.execDvu c rd ra rb s
  | .mds c rd ra rb => Sys2Proof.Machine.execMds c rd ra rb s
  | .mdu c rd ra rb => Sys2Proof.Machine.execMdu c rd ra rb s
  | .aclr c a => Sys2Proof.Machine.execAclr c a s
  | .amul c a ra rb => Sys2Proof.Machine.execAmul c a ra rb s
  | .amac c a ra rb => Sys2Proof.Machine.execAmac c a ra rb s
  | .amsu c a ra rb => Sys2Proof.Machine.execAmsu c a ra rb s
  | .amul2 c a ra rb => Sys2Proof.Machine.execAmul2 c a ra rb s
  | .amac2 c a ra rb => Sys2Proof.Machine.execAmac2 c a ra rb s
  | .ashl c a q => Sys2Proof.Machine.execAshl c a q s
  | .ashr c a q => Sys2Proof.Machine.execAshr c a q s
  | .aext c rd a q m => Sys2Proof.Machine.execAext c rd a q m s
  | .aextd c rd a q m => Sys2Proof.Machine.execAextd c rd a q m s
  | .agetl c rd a => Sys2Proof.Machine.execAgetl c rd a s
  | .ageth c rd a => Sys2Proof.Machine.execAgeth c rd a s
  | .aput c a ra rb => Sys2Proof.Machine.execAput c a ra rb s
  | .qadd c rd ra rb => Sys2Proof.Machine.execQadd c rd ra rb s
  | .qsub c rd ra rb => Sys2Proof.Machine.execQsub c rd ra rb s
  | .qmul c rd ra rb => Sys2Proof.Machine.execQmul c rd ra rb s
  | .qneg c rd ra => Sys2Proof.Machine.execQneg c rd ra s
  | .qabs c rd ra => Sys2Proof.Machine.execQabs c rd ra s
  | .beq c ra rb off mp => Sys2Proof.Machine.execBeq c ra rb off mp s
  | .bne c ra rb off mp => Sys2Proof.Machine.execBne c ra rb off mp s
  | .blt c ra rb off mp => Sys2Proof.Machine.execBlt c ra rb off mp s
  | .bge c ra rb off mp => Sys2Proof.Machine.execBge c ra rb off mp s
  | .bltu c ra rb off mp => Sys2Proof.Machine.execBltu c ra rb off mp s
  | .bgeu c ra rb off mp => Sys2Proof.Machine.execBgeu c ra rb off mp s
  | .bbs c ra b off mp => Sys2Proof.Machine.execBbs c ra b off mp s
  | .bbc c ra b off mp => Sys2Proof.Machine.execBbc c ra b off mp s
  | .j c off => Sys2Proof.Machine.execJ c off s
  | .jal c off => Sys2Proof.Machine.execJal c off s
  | .jalr c rd ra imm lim => Sys2Proof.Machine.execJalr c rd ra imm lim s
  | .lb c rd ra imm lim ecc => Sys2Proof.Machine.execLb c rd ra imm lim ecc s
  | .lbu c rd ra imm lim ecc => Sys2Proof.Machine.execLbu c rd ra imm lim ecc s
  | .lh c rd ra imm lim ecc => Sys2Proof.Machine.execLh c rd ra imm lim ecc s
  | .lhu c rd ra imm lim ecc => Sys2Proof.Machine.execLhu c rd ra imm lim ecc s
  | .lw c rd ra imm lim ecc => Sys2Proof.Machine.execLw c rd ra imm lim ecc s
  | .lwu c rd ra imm lim ecc => Sys2Proof.Machine.execLwu c rd ra imm lim ecc s
  | .ld c rd ra imm lim ecc => Sys2Proof.Machine.execLd c rd ra imm lim ecc s
  | .sb c rd ra imm lim ecc => Sys2Proof.Machine.execSb c rd ra imm lim ecc s
  | .sh c rd ra imm lim ecc => Sys2Proof.Machine.execSh c rd ra imm lim ecc s
  | .sw c rd ra imm lim ecc => Sys2Proof.Machine.execSw c rd ra imm lim ecc s
  | .sd c rd ra imm lim ecc => Sys2Proof.Machine.execSd c rd ra imm lim ecc s
  | .casd c rd ra rb ecc => Sys2Proof.Machine.execCasd c rd ra rb ecc s
  | .swpd c rd ra rb ecc => Sys2Proof.Machine.execSwpd c rd ra rb ecc s
  | .faddd c rd ra rb ecc => Sys2Proof.Machine.execFaddd c rd ra rb ecc s
  | .fsatd c rd ra rb ecc => Sys2Proof.Machine.execFsatd c rd ra rb ecc s
  | .fandd c rd ra rb ecc => Sys2Proof.Machine.execFandd c rd ra rb ecc s
  | .ford c rd ra rb ecc => Sys2Proof.Machine.execFord c rd ra rb ecc s
  | .fmaxd c rd ra rb ecc => Sys2Proof.Machine.execFmaxd c rd ra rb ecc s
  | .fmind c rd ra rb ecc => Sys2Proof.Machine.execFmind c rd ra rb ecc s
  | .xsend t c rd ra ch => Sys2Proof.Machine.execXsend t c rd ra ch s
  | .xrecv t c rd ra rb ch => Sys2Proof.Machine.execXrecv t c rd ra rb ch s
  | .xrecvReturn t c => Sys2Proof.Machine.execXrecvReturn t c s
  | .xpoll t c rd ra ch => Sys2Proof.Machine.execXpoll t c rd ra ch s
  | .xcall t c rd ra gate => Sys2Proof.Machine.execXcall t c rd ra gate s
  | .xcallAccept t gate => Sys2Proof.Machine.execXcallAccept t gate s
  | .xcallDeadline t c => Sys2Proof.Machine.execXcallDeadline t c s
  | .xcallResult t c => Sys2Proof.Machine.execXcallResult t c s
  | .xret t c gate => Sys2Proof.Machine.execXret t c gate s
  | .eprop t c rd ra rb => Sys2Proof.Machine.execEprop t c rd ra rb s
  | .eretr t c rd ra => Sys2Proof.Machine.execEretr t c rd ra s
  | .eqry c rd ra rb => Sys2Proof.Machine.execEqry c rd ra rb s
  | .rdst t c rd => Sys2Proof.Machine.execRdst t c rd s
  | .waitd t c rd ra => Sys2Proof.Machine.execWaitd t c rd ra s
  | .waitdReturn t c => Sys2Proof.Machine.execWaitdReturn t c s
  | .darm t c ra => Sys2Proof.Machine.execDarm t c ra s
  | .ddis t c rd => Sys2Proof.Machine.execDdis t c rd s
  | .deadlineInterrupt t c => Sys2Proof.Machine.execDeadlineInterrupt t c s
  | .gdis c rd => Sys2Proof.Machine.execGdis c rd s
  | .gen c => Sys2Proof.Machine.execGen c s
  | .reti c => Sys2Proof.Machine.execReti c s
  | .setpri c ra => Sys2Proof.Machine.execSetpri c ra s
  | .cwr c rd n => Sys2Proof.Machine.execCwr c rd n s
  | .cww c rd ra n => Sys2Proof.Machine.execCww c rd ra n s
  | .nop c => Sys2Proof.Machine.execNop c s
  | .trap c code => Sys2Proof.Machine.execTrap c code s
  | .fence c => Sys2Proof.Machine.execFence c s
  | .fencee c => Sys2Proof.Machine.execFencee c s
  | .halt t c => Sys2Proof.Machine.execHalt t c s
  | .haltWake t c => Sys2Proof.Machine.execHaltWake t c s
  | .brk c => Sys2Proof.Machine.execBrk c s
  | .effectQueueDrain t c => Sys2Proof.Machine.execEffectQueueDrain t c s
  | .coreStatusReadClear t c rd word => Sys2Proof.Machine.execCoreStatusReadClear t c rd word s
  | .interruptEntry t c => Sys2Proof.Machine.execInterruptEntry t c s
  | .gateEntry t c => Sys2Proof.Machine.execGateEntry t c s
  | .roundaboutEdge t src => Sys2Proof.Machine.execRoundaboutEdge t src s
  | .levelSourceChange t src asserted => Sys2Proof.Machine.execLevelSourceChange t src asserted s
  | .irqConfigWrite r => Sys2Proof.Machine.execIrqConfigWrite r s
  | .imageLoad t core img => Sys2Proof.Machine.execImageLoad t core img s
  | .illegalInstruction c word => Sys2Proof.Machine.execIllegalInstruction c word s
  | .kerbStart t => Sys2Proof.Machine.execKerbStart t s
  | .epochStart t => Sys2Proof.Machine.execEpochStart t s
  | .activationInstant t => Sys2Proof.Machine.execActivationInstant t s
  | .vNowRefresh t => Sys2Proof.Machine.execVNowRefresh t s
  | .closingPoint t => Sys2Proof.Machine.execClosingPoint t s
  | .inputChangeReclamp t => Sys2Proof.Machine.execInputChangeReclamp t s
  | .allocConfigWrite r => Sys2Proof.Machine.execAllocConfigWrite r s
  | .allocSiteWrite r => Sys2Proof.Machine.execAllocSiteWrite r s
  | .availFallback t => Sys2Proof.Machine.execAvailFallback t s
  | .fastPathEngage t => Sys2Proof.Machine.execFastPathEngage t s
  | .sampleBlock t head blk => Sys2Proof.Machine.execSampleBlock t head blk s
  | .slotUpdate t conv blk slotBad => Sys2Proof.Machine.execSlotUpdate t conv blk slotBad s
  | .phaseShed t conv => Sys2Proof.Machine.execPhaseShed t conv s
  | .ctlSlotWrite r => Sys2Proof.Machine.execCtlSlotWrite r s
  | .precheckTimeout t conv => Sys2Proof.Machine.execPrecheckTimeout t conv s
  | .softStartHalfCheck t conv => Sys2Proof.Machine.execSoftStartHalfCheck t conv s
  | .backoffElapsed t conv => Sys2Proof.Machine.execBackoffElapsed t conv s
  | .prechargeTimeout t conv => Sys2Proof.Machine.execPrechargeTimeout t conv s
  | .controlledStopTimeout t conv => Sys2Proof.Machine.execControlledStopTimeout t conv s
  | .dischargeTimeout t conv => Sys2Proof.Machine.execDischargeTimeout t conv s
  | .heatsinkTempTimeout t head => Sys2Proof.Machine.execHeatsinkTempTimeout t head s
  | .releaseHeld r => Sys2Proof.Machine.execReleaseHeld r s
  | .releaseFailedPhase r => Sys2Proof.Machine.execReleaseFailedPhase r s
  | .cableModelStep t o => Sys2Proof.Machine.execCableModelStep t o s
  | .deratePublish t o => Sys2Proof.Machine.execDeratePublish t o s
  | .postRunEnd t o => Sys2Proof.Machine.execPostRunEnd t o s
  | .chillHold t o => Sys2Proof.Machine.execChillHold t o s
  | .lossOfFlow t o => Sys2Proof.Machine.execLossOfFlow t o s
  | .modelDisagrees t o => Sys2Proof.Machine.execModelDisagrees t o s
  | .coolantSensorLost t o => Sys2Proof.Machine.execCoolantSensorLost t o s
  | .contactSensorLost t o => Sys2Proof.Machine.execContactSensorLost t o s
  | .outletHeadLost t o => Sys2Proof.Machine.execOutletHeadLost t o s
  | .fallbackEnd t o => Sys2Proof.Machine.execFallbackEnd t o s
  | .coolOutletWrite r => Sys2Proof.Machine.execCoolOutletWrite r s
  | .slowRound t readings vfld vhost vbat => Sys2Proof.Machine.execSlowRound t readings vfld vhost vbat s
  | .fastRound t readings => Sys2Proof.Machine.execFastRound t readings s
  | .sensorVoteOut t sensor => Sys2Proof.Machine.execSensorVoteOut t sensor s
  | .orderlyStopEnd t => Sys2Proof.Machine.execOrderlyStopEnd t s
  | .sensorRestore r => Sys2Proof.Machine.execSensorRestore r s
  | .sampleIndex t => Sys2Proof.Machine.execSampleIndex t s
  | .gapBegin t q => Sys2Proof.Machine.execGapBegin t q s
  | .gapEnd t q => Sys2Proof.Machine.execGapEnd t q s
  | .gapStopRequest t o => Sys2Proof.Machine.execGapStopRequest t o s
  | .shuntTempStale t o => Sys2Proof.Machine.execShuntTempStale t o s
  | .lineCycleEnd t => Sys2Proof.Machine.execLineCycleEnd t s
  | .syntheticBoundary t => Sys2Proof.Machine.execSyntheticBoundary t s
  | .outletTick t => Sys2Proof.Machine.execOutletTick t s
  | .compatLatch t incomer => Sys2Proof.Machine.execCompatLatch t incomer s
  | .reversePowerOutlet t o => Sys2Proof.Machine.execReversePowerOutlet t o s
  | .reversePowerIncomer t => Sys2Proof.Machine.execReversePowerIncomer t s
  | .wrongPhaseSequence t => Sys2Proof.Machine.execWrongPhaseSequence t s
  | .missingNeutral t => Sys2Proof.Machine.execMissingNeutral t s
  | .phaseLoss t => Sys2Proof.Machine.execPhaseLoss t s
  | .feederTrip t => Sys2Proof.Machine.execFeederTrip t s
  | .feederTripClear t => Sys2Proof.Machine.execFeederTripClear t s
  | .metrologyEventEnd t ev => Sys2Proof.Machine.execMetrologyEventEnd t ev s
  | .pfailfNFall t => Sys2Proof.Machine.execPfailfNFall t s
  | .residualRecord t => Sys2Proof.Machine.execResidualRecord t s
  | .pfailfNRise t => Sys2Proof.Machine.execPfailfNRise t s
  | .powerFailHold t => Sys2Proof.Machine.execPowerFailHold t s
  | .internalPowerFailWarning t => Sys2Proof.Machine.execInternalPowerFailWarning t s
  | .sealBreak r => Sys2Proof.Machine.execSealBreak r s
  | .reseal r => Sys2Proof.Machine.execReseal r s
  | .sealTimeout t => Sys2Proof.Machine.execSealTimeout t s
  | .calibrationWrite r target => Sys2Proof.Machine.execCalibrationWrite r target s
  | .calibrationApply t ch => Sys2Proof.Machine.execCalibrationApply t ch s
  | .mpulse t => Sys2Proof.Machine.execMpulse t s
  | .meterPulseWrite r => Sys2Proof.Machine.execMeterPulseWrite r s
  | .timeSet r => Sys2Proof.Machine.execTimeSet r s
  | .timeOffsetWrite r => Sys2Proof.Machine.execTimeOffsetWrite r s
  | .timeConfigWrite r => Sys2Proof.Machine.execTimeConfigWrite r s
  | .rtcTrim t => Sys2Proof.Machine.execRtcTrim t s
  | .activate r => Sys2Proof.Machine.execActivate r s
  | .closePeriod r => Sys2Proof.Machine.execClosePeriod r s
  | .resend r => Sys2Proof.Machine.execResend r s
  | .receiptSend t c => Sys2Proof.Machine.execReceiptSend t c s
  | .legalExchangeUpdate t => Sys2Proof.Machine.execLegalExchangeUpdate t s
  | .gateRate t => Sys2Proof.Machine.execGateRate t s
  | .gateLegalSession t => Sys2Proof.Machine.execGateLegalSession t s
  | .gateDemand t => Sys2Proof.Machine.execGateDemand t s
  | .tamperCheck t loop cls fromVbat => Sys2Proof.Machine.execTamperCheck t loop cls fromVbat s
  | .tamperLoopOpen t loop => Sys2Proof.Machine.execTamperLoopOpen t loop s
  | .pilotClass t o => Sys2Proof.Machine.execPilotClass t o s
  | .cmSlacParm t o runId => Sys2Proof.Machine.execCmSlacParm t o runId s
  | .cmStartAttenChar t o sounds => Sys2Proof.Machine.execCmStartAttenChar t o sounds s
  | .cmMnbcSound t o atten => Sys2Proof.Machine.execCmMnbcSound t o atten s
  | .cmAttenChar t o => Sys2Proof.Machine.execCmAttenChar t o s
  | .cmSlacMatch t o => Sys2Proof.Machine.execCmSlacMatch t o s
  | .cmSetKey t o ok => Sys2Proof.Machine.execCmSetKey t o ok s
  | .linkEstablished t o => Sys2Proof.Machine.execLinkEstablished t o s
  | .sdp t o wantTls v2 => Sys2Proof.Machine.execSdp t o wantTls v2 s
  | .tcpConnect t o port => Sys2Proof.Machine.execTcpConnect t o port s
  | .tlsHandshake t o ok => Sys2Proof.Machine.execTlsHandshake t o ok s
  | .tcpLost t o => Sys2Proof.Machine.execTcpLost t o s
  | .supportedAppProtocol t o offered => Sys2Proof.Machine.execSupportedAppProtocol t o offered s
  | .authorizationReq t o pnc chain contractId => Sys2Proof.Machine.execAuthorizationReq t o pnc chain contractId s
  | .parameterExchange t o p => Sys2Proof.Machine.execParameterExchange t o p s
  | .cableCheckReq t o vTest => Sys2Proof.Machine.execCableCheckReq t o vTest s
  | .preChargeReq t o vPc => Sys2Proof.Machine.execPreChargeReq t o vPc s
  | .powerDeliveryReq t o start => Sys2Proof.Machine.execPowerDeliveryReq t o start s
  | .chargeLoopReq t o p => Sys2Proof.Machine.execChargeLoopReq t o p s
  | .weldingDetectionReq t o => Sys2Proof.Machine.execWeldingDetectionReq t o s
  | .sessionStopReq t o => Sys2Proof.Machine.execSessionStopReq t o s
  | .certificateInstallationReq t o => Sys2Proof.Machine.execCertificateInstallationReq t o s
  | .pauseReq t o => Sys2Proof.Machine.execPauseReq t o s
  | .tSlac t o => Sys2Proof.Machine.execTSlac t o s
  | .pilotRetryEnd t o => Sys2Proof.Machine.execPilotRetryEnd t o s
  | .tSetup t o => Sys2Proof.Machine.execTSetup t o s
  | .tSeq t o => Sys2Proof.Machine.execTSeq t o s
  | .tAuth t o => Sys2Proof.Machine.execTAuth t o s
  | .tCc t o => Sys2Proof.Machine.execTCc t o s
  | .tWeld t o => Sys2Proof.Machine.execTWeld t o s
  | .authorize r => Sys2Proof.Machine.execAuthorize r s
  | .deny r => Sys2Proof.Machine.execDeny r s
  | .stop r => Sys2Proof.Machine.execStop r s
  | .releaseWelded r => Sys2Proof.Machine.execReleaseWelded r s
  | .gateSession t => Sys2Proof.Machine.execGateSession t s
  | .gateAuthorize t => Sys2Proof.Machine.execGateAuthorize t s
  | .gateStop t => Sys2Proof.Machine.execGateStop t s
  | .hold t c => Sys2Proof.Machine.execHold t c s
  | .energise t c => Sys2Proof.Machine.execEnergise t c s
  | .precharge t c => Sys2Proof.Machine.execPrecharge t c s
  | .contactorsClosed t c => Sys2Proof.Machine.execContactorsClosed t c s
  | .controlledStop t c => Sys2Proof.Machine.execControlledStop t c s
  | .immediateStop t c => Sys2Proof.Machine.execImmediateStop t c s
  | .openContactors t c => Sys2Proof.Machine.execOpenContactors t c s
  | .unlock t c => Sys2Proof.Machine.execUnlock t c s
  | .heartbeatLapse t o => Sys2Proof.Machine.execHeartbeatLapse t o s
  | .safetyCycle t ch lands sramBad paramBad => Sys2Proof.Machine.execSafetyCycle t ch lands sramBad paramBad s
  | .partnerRecordTimeout t ch => Sys2Proof.Machine.execPartnerRecordTimeout t ch s
  | .discrepancy t guard => Sys2Proof.Machine.execDiscrepancy t guard s
  | .sresetStuck t => Sys2Proof.Machine.execSresetStuck t s
  | .soSwitchOnCheck t g hfb lfb => Sys2Proof.Machine.execSoSwitchOnCheck t g hfb lfb s
  | .darkTest t g high hfb lfb => Sys2Proof.Machine.execDarkTest t g high hfb lfb s
  | .safeDataItem t net item => Sys2Proof.Machine.execSafeDataItem t net item s
  | .safeDataAbsence t o => Sys2Proof.Machine.execSafeDataAbsence t o s
  | .safeDataWatchdog t stream => Sys2Proof.Machine.execSafeDataWatchdog t stream s
  | .safeDataSend t ch => Sys2Proof.Machine.execSafeDataSend t ch s
  | .contactorClosingWithdrawn t o => Sys2Proof.Machine.execContactorClosingWithdrawn t o s
  | .weldVerdict t o => Sys2Proof.Machine.execWeldVerdict t o s
  | .contactorDiscrepancy t o => Sys2Proof.Machine.execContactorDiscrepancy t o s
  | .sf6DischargeTimeout t o => Sys2Proof.Machine.execSf6DischargeTimeout t o s
  | .commit r => Sys2Proof.Machine.execCommit r s
  | .safetyStop r => Sys2Proof.Machine.execSafetyStop r s
  | .safetyRelease r => Sys2Proof.Machine.execSafetyRelease r s
  | .clearGroup r => Sys2Proof.Machine.execClearGroup r s
  | .clearChan r => Sys2Proof.Machine.execClearChan r s
  | .st t q counter closed fault chgA disA => Sys2Proof.Machine.execSt t q counter closed fault chgA disA s
  | .mv t q g v => Sys2Proof.Machine.execMv t q g v s
  | .mt t q g temps => Sys2Proof.Machine.execMt t q g temps s
  | .sn t q serial => Sys2Proof.Machine.execSn t q serial s
  | .estimatorStep t => Sys2Proof.Machine.execEstimatorStep t s
  | .currentGap t q => Sys2Proof.Machine.execCurrentGap t q s
  | .stringOut t q => Sys2Proof.Machine.execStringOut t q s
  | .restPoint t q => Sys2Proof.Machine.execRestPoint t q s
  | .polarisationFit t q => Sys2Proof.Machine.execPolarisationFit t q s
  | .idleCheck t q => Sys2Proof.Machine.execIdleCheck t q s
  | .limitPublish t => Sys2Proof.Machine.execLimitPublish t s
  | .estStateWrite r => Sys2Proof.Machine.execEstStateWrite r s
  | .battStringWrite r => Sys2Proof.Machine.execBattStringWrite r s
  | .terminationDetected t l => Sys2Proof.Machine.execTerminationDetected t l s
  | .ta t l gen preset => Sys2Proof.Machine.execTa t l gen preset s
  | .tb t l gen preset => Sys2Proof.Machine.execTb t l gen preset s
  | .trainTimeout t l => Sys2Proof.Machine.execTrainTimeout t l s
  | .lockAchieved t l complemented => Sys2Proof.Machine.execLockAchieved t l complemented s
  | .lockTimeout t l => Sys2Proof.Machine.execLockTimeout t l s
  | .hopRecord t l rec => Sys2Proof.Machine.execHopRecord t l rec s
  | .parleyTimeout t l => Sys2Proof.Machine.execParleyTimeout t l s
  | .lossOfLock t l codeErrors => Sys2Proof.Machine.execLossOfLock t l codeErrors s
  | .retrainTimeout t l => Sys2Proof.Machine.execRetrainTimeout t l s
  | .genchg t l gen => Sys2Proof.Machine.execGenchg t l gen s
  | .genchgTimeout t l => Sys2Proof.Machine.execGenchgTimeout t l s
  | .avenueFormation t a => Sys2Proof.Machine.execAvenueFormation t a s
  | .discover t a count => Sys2Proof.Machine.execDiscover t a count s
  | .echo t a pos ccw roundTripNs => Sys2Proof.Machine.execEcho t a pos ccw roundTripNs s
  | .headRecord t a pos rec => Sys2Proof.Machine.execHeadRecord t a pos rec s
  | .frame t l => Sys2Proof.Machine.execFrame t l s
  | .frameReturn t l f => Sys2Proof.Machine.execFrameReturn t l f s
  | .hopBroken t a hop => Sys2Proof.Machine.execHopBroken t a hop s
  | .split t a hop => Sys2Proof.Machine.execSplit t a hop s
  | .heal t a hop => Sys2Proof.Machine.execHeal t a hop s
  | .avenueDegraded t a => Sys2Proof.Machine.execAvenueDegraded t a s
  | .mailboxMessage t head typ body whole => Sys2Proof.Machine.execMailboxMessage t head typ body whole s
  | .mailboxDoorbell t c => Sys2Proof.Machine.execMailboxDoorbell t c s
  | .hostLaneFrame t n f => Sys2Proof.Machine.execHostLaneFrame t n f s
  | .laneRetrain r => Sys2Proof.Machine.execLaneRetrain r s
  | .reformAvenue r => Sys2Proof.Machine.execReformAvenue r s
  | .avenueConfigWrite r => Sys2Proof.Machine.execAvenueConfigWrite r s
  | .nodeEntryWrite r => Sys2Proof.Machine.execNodeEntryWrite r s
  | .nodeBlobWrite r => Sys2Proof.Machine.execNodeBlobWrite r s
  | .nodeHeartbeat t h => Sys2Proof.Machine.execNodeHeartbeat t h s
  | .nodeTimeout t n => Sys2Proof.Machine.execNodeTimeout t n s
  | .reconcileTimeout t n => Sys2Proof.Machine.execReconcileTimeout t n s
  | .reconcile r => Sys2Proof.Machine.execReconcile r s
  | .digestRequest r => Sys2Proof.Machine.execDigestRequest r s
  | .canFrame t ch f => Sys2Proof.Machine.execCanFrame t ch f s
  | .canConfigReply t ch addr code st seg => Sys2Proof.Machine.execCanConfigReply t ch addr code st seg s
  | .canBufferLock t c rd ch b => Sys2Proof.Machine.execCanBufferLock t c rd ch b s
  | .canBufferRelease t c rd ch b => Sys2Proof.Machine.execCanBufferRelease t c rd ch b s
  | .canLockTimeout t ch b => Sys2Proof.Machine.execCanLockTimeout t ch b s
  | .canDoorbell t c => Sys2Proof.Machine.execCanDoorbell t c s
  | .canTransmitEnd t ch acked => Sys2Proof.Machine.execCanTransmitEnd t ch acked s
  | .canDeadline t ch => Sys2Proof.Machine.execCanDeadline t ch s
  | .busOff t ch tec => Sys2Proof.Machine.execBusOff t ch tec s
  | .busRecovery t ch => Sys2Proof.Machine.execBusRecovery t ch s
  | .recover r => Sys2Proof.Machine.execRecover r s
  | .rxInd t m => Sys2Proof.Machine.execRxInd t m s
  | .txConf t result ended => Sys2Proof.Machine.execTxConf t result ended s
  | .busy t sensed => Sys2Proof.Machine.execBusy t sensed s
  | .toneMapRefresh t nbr rx tx lqi => Sys2Proof.Machine.execToneMapRefresh t nbr rx tx lqi s
  | .refreshToneMaps r => Sys2Proof.Machine.execRefreshToneMaps r s
  | .bootstrap t eui authOk => Sys2Proof.Machine.execBootstrap t eui authOk s
  | .gmkRenewal t => Sys2Proof.Machine.execGmkRenewal t s
  | .routeRepair t nbr => Sys2Proof.Machine.execRouteRepair t nbr s
  | .routeWaitTimeout t => Sys2Proof.Machine.execRouteWaitTimeout t s
  | .meshDoorbell t c => Sys2Proof.Machine.execMeshDoorbell t c s
  | .meshRxLock t c rd slot => Sys2Proof.Machine.execMeshRxLock t c rd slot s
  | .meshRxRelease t c rd slot => Sys2Proof.Machine.execMeshRxRelease t c rd slot s
  | .meshConfigWrite r => Sys2Proof.Machine.execMeshConfigWrite r s
  | .read r obj counterOnly => Sys2Proof.Machine.execRead r obj counterOnly s
  | .write r obj => Sys2Proof.Machine.execWrite r obj s
  | .writeif r obj => Sys2Proof.Machine.execWriteif r obj s
  | .subscribe r obj cancel => Sys2Proof.Machine.execSubscribe r obj cancel s
  | .notify t port => Sys2Proof.Machine.execNotify t port s
  | .notifyResend t port seq => Sys2Proof.Machine.execNotifyResend t port seq s
  | .hostAck t port seq obj nak => Sys2Proof.Machine.execHostAck t port seq obj nak s
  | .credit t port credits ackValid seq => Sys2Proof.Machine.execCredit t port credits ackValid seq s
  | .linkUp t port => Sys2Proof.Machine.execLinkUp t port s
  | .spiWrite t bytes => Sys2Proof.Machine.execSpiWrite t bytes s
  | .spiRead t => Sys2Proof.Machine.execSpiRead t s
  | .spiStatus t => Sys2Proof.Machine.execSpiStatus t s
  | .consoleFrame t bytes => Sys2Proof.Machine.execConsoleFrame t bytes s
  | .consoleEnable r => Sys2Proof.Machine.execConsoleEnable r s
  | .consoleDisable r => Sys2Proof.Machine.execConsoleDisable r s
  | .consoleTimeout t => Sys2Proof.Machine.execConsoleTimeout t s
  | .portBindWrite r => Sys2Proof.Machine.execPortBindWrite r s
  | .generate r => Sys2Proof.Machine.execGenerate r s
  | .importPlain r => Sys2Proof.Machine.execImportPlain r s
  | .importWrapped r => Sys2Proof.Machine.execImportWrapped r s
  | .delete r => Sys2Proof.Machine.execDelete r s
  | .publicPoint r => Sys2Proof.Machine.execPublicPoint r s
  | .pralineWrite r => Sys2Proof.Machine.execPralineWrite r s
  | .provision r => Sys2Proof.Machine.execProvision r s
  | .sealDevice r => Sys2Proof.Machine.execSealDevice r s
  | .approve r => Sys2Proof.Machine.execApprove r s
  | .approvalLapse t => Sys2Proof.Machine.execApprovalLapse t s
  | .unsealDevice r => Sys2Proof.Machine.execUnsealDevice r s
  | .returnDevice r => Sys2Proof.Machine.execReturnDevice r s
  | .scrap r => Sys2Proof.Machine.execScrap r s
  | .croquemboucheRecompute t => Sys2Proof.Machine.execCroquemboucheRecompute t s
  | .attestRequest r => Sys2Proof.Machine.execAttestRequest r s
  | .changeStatement t => Sys2Proof.Machine.execChangeStatement t s
  | .checkpoint t badRow => Sys2Proof.Machine.execCheckpoint t badRow s
  | .journalAppend t c => Sys2Proof.Machine.execJournalAppend t c s
  | .journalMigration t readBackOk => Sys2Proof.Machine.execJournalMigration t readBackOk s
  | .hotTierScrub t corrected => Sys2Proof.Machine.execHotTierScrub t corrected s
  | .coldTierScrub t findings => Sys2Proof.Machine.execColdTierScrub t findings s
  | .deepCheckpoint t => Sys2Proof.Machine.execDeepCheckpoint t s
  | .quotaReset t => Sys2Proof.Machine.execQuotaReset t s
  | .sramScrub t region row res => Sys2Proof.Machine.execSramScrub t region row res s
  | .takeover t core => Sys2Proof.Machine.execTakeover t core s
  | .approveTakeover r => Sys2Proof.Machine.execApproveTakeover r s
  | .clearFailureMark r => Sys2Proof.Machine.execClearFailureMark r s
  | .durableRead r => Sys2Proof.Machine.execDurableRead r s
  | .powerGood t straps selftestFail coreFail rec => Sys2Proof.Machine.execPowerGood t straps selftestFail coreFail rec s
  | .bootComplete t => Sys2Proof.Machine.execBootComplete t s
  | .autoService t => Sys2Proof.Machine.execAutoService t s
  | .service r => Sys2Proof.Machine.execService r s
  | .standby r => Sys2Proof.Machine.execStandby r s
  | .maintenance r => Sys2Proof.Machine.execMaintenance r s
  | .leaveMaintenance r => Sys2Proof.Machine.execLeaveMaintenance r s
  | .maintenanceTimeout t => Sys2Proof.Machine.execMaintenanceTimeout t s
  | .leaveSafeHold r => Sys2Proof.Machine.execLeaveSafeHold r s
  | .warmReset r => Sys2Proof.Machine.execWarmReset r s
  | .coldReset r => Sys2Proof.Machine.execColdReset r s
  | .supplyWarning t field => Sys2Proof.Machine.execSupplyWarning t field s
  | .vbatLow t => Sys2Proof.Machine.execVbatLow t s
  | .pfailhNFall t => Sys2Proof.Machine.execPfailhNFall t s
  | .pfailhNRise t => Sys2Proof.Machine.execPfailhNRise t s
  | .watchdogKick t src => Sys2Proof.Machine.execWatchdogKick t src s
  | .hostWatchdog t => Sys2Proof.Machine.execHostWatchdog t s
  | .fieldWatchdog t => Sys2Proof.Machine.execFieldWatchdog t s
  | .supervisorReset t side powerOn => Sys2Proof.Machine.execSupervisorReset t side powerOn s
  | .railFault t side => Sys2Proof.Machine.execRailFault t side s
  | .hostPllLockLost t => Sys2Proof.Machine.execHostPllLockLost t s
  | .stageWrite r => Sys2Proof.Machine.execStageWrite r s
  | .check r => Sys2Proof.Machine.execCheck r s
  | .partitionActivate r => Sys2Proof.Machine.execPartitionActivate r s
  | .injectStart r => Sys2Proof.Machine.execInjectStart r s
  | .injectionStop r => Sys2Proof.Machine.execInjectionStop r s
  | .injectionExpiry t j => Sys2Proof.Machine.execInjectionExpiry t j s
  | .injectionLimit t j => Sys2Proof.Machine.execInjectionLimit t j s
  | .reorderRelease t j => Sys2Proof.Machine.execReorderRelease t j s
  | .internalPowerFailWarningEnd t => Sys2Proof.Machine.execInternalPowerFailWarningEnd t s
  | .supplyWarningClear t field => Sys2Proof.Machine.execSupplyWarningClear t field s
  | .vbatLowClear t => Sys2Proof.Machine.execVbatLowClear t s
  | .hostResetEnd t straps => Sys2Proof.Machine.execHostResetEnd t straps s
  | .fieldSideAbsent t => Sys2Proof.Machine.execFieldSideAbsent t s

end Sys2Proof.Machine
end

