-- ==== Sys2Proof/Safety.lean ====
section
/-! DEFINITION. What counts as a safe state and a safe step, in the terms the claims use. -/

namespace Sys2Proof.Machine

/-- Energy leaves an outlet only while both safety channels permit it: an outlet converter whose gates may switch is permitted (spec/10 R279,
spec/05 R163). -/
def State.permitted (s : State) (o : Nat) : Bool := s.bit safetyStatePermit 0 o

/-- Nothing is energised: every outlet converter and the battery converter is OFF or HELD. -/
def State.deEnergised (s : State) : Bool :=
  (List.range 13).all fun c => s.get ctlStateState c == 0 || s.get ctlStateState c == 8

/-- The mode is one of the six of spec/16 R425. -/
def State.modeLegal (s : State) : Bool := decide (s.get modeStateMode 0 ≤ 5)

/-- A step answers a next state. -/
def goesOn (r : Res) : Bool :=
  match r with
  | .next _ => true
  | _ => false

/-! ### What a step leaves as it was -/

/-- A step that changes one core and nothing else: every other core, every object, every byte, the queue and the clocks stay. -/
def onlyCore (s t : State) (c : Nat) : Prop := t = { s with cores := t.cores } ∧ ∀ d, d ≠ c → t.core d = s.core d

/-- A core that retired one instruction: cw16 counts it, the pc moves, and of the rest only registers, accumulators and the sticky bits of
cw17 may differ. -/
def retiredTo (k k' : Core) (pc : Addr) : Prop :=
  k' = { k with regs := k'.regs, accs := k'.accs, cw := k'.cw, pc := pc }
    ∧ (∀ d, Tab.get k'.cw 16 d = Tab.get k.cw 16 0 + 1) ∧ ∀ n d, n ≠ 16 → n ≠ 17 → Tab.get k'.cw n d = Tab.get k.cw n d

/-- Every register but `rd` as it was, g0 reading as zero. -/
def regsBut (k k' : Core) (rd : Nat) : Prop := (∀ q, q ≠ rd → k'.reg q = k.reg q) ∧ k'.reg 0 = 0

/-- A core that executes, where the `n` words of an instruction and the word behind them can be fetched from instruction SRAM. -/
def canRun (s : State) (c n : Nat) : Prop :=
  (s.core c).running = true ∧ (s.core c).pc.toNat + 4 * n < imemSize
    ∧ ∀ j, j ≤ n → (s.core c).fetchOk ((s.core c).pc + BitVec.ofNat 32 (4 * j)) = true

/-- The whole effect of an instruction whose one result goes to register `rd`: the result there, unless `rd` is g0; every other register, the
accumulators, cw17 and everything outside the core as before. -/
def oneReg (s t : State) (c rd : Nat) (v : Word) (pc : Addr) : Prop :=
  onlyCore s t c ∧ retiredTo (s.core c) (t.core c) pc ∧ regsBut (s.core c) (t.core c) rd ∧ (rd ≠ 0 → (t.core c).reg rd = v)
    ∧ (t.core c).accs = (s.core c).accs ∧ ∀ d, Tab.get (t.core c).cw 17 d = Tab.get (s.core c).cw 17 d

/-- The same with a result that may have saturated: cw17.qsat is set where it has, and cw17 is otherwise as before. -/
def oneSatReg (s t : State) (c rd : Nat) (v : Word) (sat : Bool) (pc : Addr) : Prop :=
  onlyCore s t c ∧ retiredTo (s.core c) (t.core c) pc ∧ regsBut (s.core c) (t.core c) rd ∧ (rd ≠ 0 → (t.core c).reg rd = v)
    ∧ (t.core c).accs = (s.core c).accs ∧ Tab.get (t.core c).cw 17 0 = if sat then Tab.get (s.core c).cw 17 0 ||| 16 else Tab.get (s.core c).cw 17 0

/-- The whole effect of an instruction whose one result goes to accumulator `a`: the result there, cw17.asat's bit set where it saturated,
every register and every other accumulator as before. -/
def oneAcc (s t : State) (c a : Nat) (v : Acc96) (sat : Bool) (pc : Addr) : Prop :=
  onlyCore s t c ∧ retiredTo (s.core c) (t.core c) pc ∧ (∀ q, (t.core c).reg q = (s.core c).reg q) ∧ (t.core c).acc a = v
    ∧ (∀ b, b ≠ a → (t.core c).acc b = (s.core c).acc b)
    ∧ Tab.get (t.core c).cw 17 0 = if sat then Tab.get (s.core c).cw 17 0 ||| BitVec.ofNat 64 (2 ^ a) else Tab.get (s.core c).cw 17 0

/-- The effect of a branch or jump that writes no register: the pc alone, and cw22 where the pipeline had predicted it wrongly. -/
def pcOnly (s t : State) (c : Nat) (mp : Bool) (pc : Addr) : Prop :=
  onlyCore s t c ∧ (t.core c).pc = pc ∧ (∀ q, (t.core c).reg q = (s.core c).reg q) ∧ (t.core c).accs = (s.core c).accs
    ∧ (∀ d, Tab.get (t.core c).cw 16 d = Tab.get (s.core c).cw 16 0 + 1)
    ∧ Tab.get (t.core c).cw 22 0 = (if mp then Tab.get (s.core c).cw 22 0 + 1 else Tab.get (s.core c).cw 22 0)
    ∧ ∀ n d, n ≠ 16 → n ≠ 22 → Tab.get (t.core c).cw n d = Tab.get (s.core c).cw n d

/-- A core that took an exception (spec/02 R65): cw5 holds the old cw0[8:3], ie is clear and in_handler set with the rest of cw0 as it was,
cw1, cw2 and cw3 say what happened and where, the pc is at the handler; everything else of the core as before. -/
def entered (k k' : Core) (code source : Nat) (eval : Word) (epc pc : Addr) : Prop :=
  k' = { k with cw := k'.cw, pc := pc, run := .running } ∧ k'.ie = false ∧ k'.inHandler = true
    ∧ (∀ i, i ≠ 8 → i ≠ 3 → (Tab.get k'.cw 0 0).getLsbD i = (Tab.get k.cw 0 0).getLsbD i)
    ∧ Tab.get k'.cw 5 0 = ((Tab.get k.cw 0 0).extractLsb' 3 6).setWidth 64 ∧ Tab.get k'.cw 1 0 = BitVec.ofNat 64 (source * 256 + code)
    ∧ Tab.get k'.cw 2 0 = (epc &&& ~~~(3 : Addr)).setWidth 64 ∧ Tab.get k'.cw 3 0 = eval
    ∧ ∀ n d, n ≠ 0 → n ≠ 1 → n ≠ 2 → n ≠ 3 → n ≠ 5 → Tab.get k'.cw n d = Tab.get k.cw n d

/-- An exception and nothing else: core `c` entered its handler at cw4. -/
def trapped (s t : State) (c code source : Nat) (eval : Word) : Prop :=
  onlyCore s t c ∧ entered (s.core c) (t.core c) code source eval (s.core c).pc (s.core c).vbase

/-- A word whose low `8 n` bits are the `n` bytes from `a`, the least significant first (spec/00 R5), and whose other bits are copies of the
top one of these where `signed`, else zero. -/
def bytesAt (m : Memory) (a n : Nat) (signed : Bool) (v : Word) : Prop :=
  ∀ i, i < 64 → v.getLsbD i = if i < 8 * n then (Memory.get m (a + i / 8)).getLsbD (i % 8) else signed && (Memory.get m (a + n - 1)).getLsbD 7

/-- Memory that differs only in the `n` bytes from `a`, which now hold the low bytes of `v`. -/
def storedAt (m m' : Memory) (a n : Nat) (v : Word) : Prop :=
  (∀ i, i < n → Memory.get m' (a + i) = v.extractLsb' (8 * i) 8) ∧ ∀ j, j < a ∨ a + n ≤ j → Memory.get m' j = Memory.get m j

/-- A step that changes one core and memory and nothing else. -/
def onlyCoreMem (s t : State) (c : Nat) : Prop := t = { s with cores := t.cores, mem := t.mem } ∧ ∀ d, d ≠ c → t.core d = s.core d

/-- A retired instruction that writes register `rd` (none where it is g0) and the control words `W` names beside cw16, and nothing else. -/
def oneRegCw (s t : State) (c rd : Nat) (v : Word) (pc : Addr) (W : List Nat) : Prop :=
  onlyCore s t c ∧ t.core c = { s.core c with regs := (t.core c).regs, cw := (t.core c).cw, pc := pc, run := .running }
    ∧ regsBut (s.core c) (t.core c) rd ∧ (rd ≠ 0 → (t.core c).reg rd = v) ∧ (∀ d, Tab.get (t.core c).cw 16 d = Tab.get (s.core c).cw 16 0 + 1)
    ∧ ∀ n d, n ≠ 16 → n ∉ W → Tab.get (t.core c).cw n d = Tab.get (s.core c).cw n d

/-- A message moved from the channel's queue into the buffer at `a` of the core's data SRAM: length, stamp and payload there, every other
byte, register and control word but cw16 and cw23 as before, the length in `rd` (spec/02 R68). -/
def tookMessage (s t : State) (c rd ch a : Nat) (m : ChanMsg) (rest : List ChanMsg) : Prop :=
  onlyCoreMem s t c ∧ (t.core c).queue ch = rest ∧ (∀ x, x ≠ ch → (t.core c).queue x = (s.core c).queue x)
    ∧ regsBut (s.core c) (t.core c) rd ∧ (rd ≠ 0 → (t.core c).reg rd = BitVec.ofNat 64 m.payload.len) ∧ (t.core c).run = .running
    ∧ (t.core c).pc = (s.core c).pc + 4 ∧ (t.core c).accs = (s.core c).accs
    ∧ Memory.read t.mem (physAddr c a) 8 = m.payload.len ∧ Memory.read t.mem (physAddr c a + 8) 8 = m.stamp
    ∧ Memory.read t.mem (physAddr c a + 16) m.payload.len = m.payload.data
    ∧ ∀ j, j < physAddr c a ∨ physAddr c a + 16 + m.payload.len ≤ j → Memory.get t.mem j = Memory.get s.mem j

/-- No injection acts on units of a medium, target and direction at `t` (spec/18 R473). -/
def quietOn (s : State) (medium target dir t : Nat) : Prop := ∀ j, j < 8 → s.slotActs j medium target dir t = false

/-- A request that HP takes, whose number is new to its port, on which no injection acts and which the host side does not refuse (spec/14 R380,
R381, R388). -/
def admitted (s : State) (m : HostMsg) (t : Nat) : Prop :=
  s.hears m.req.port t = true ∧ quietOn s 4 m.req.port 0 t
    ∧ ((s.port m.req.port).answered.find? fun a => a.1 == m.req.seq.toNat) = none ∧ (s.port m.req.port).running.contains m.req.seq.toNat = false
    ∧ s.preStatus m = 0 ∧ m.req.payload.len ≤ 256 ∧ m.flags < 16

/-- The state an admitted request acts on: its number among those being executed (spec/14 R380, R381), and across the Causeway where its object
is the field side's (spec/01 R11). -/
def begun (s : State) (m : HostMsg) (t : Nat) : State := (s.at t).beginRequest m t

end Sys2Proof.Machine
end

