-- ==== Sys2Proof/Certificates/Slice0/Obligations.lean ====
section
/-! DEFINITION. The statements about the model, one definition each; OBLIGATIONS.json lists them with the rules they rest on. -/

open Sys2Proof Sys2Proof.Machine

/-- For every command i, queue rest and state s: a step of s with i at the front of the queue is exec of i on s with the queue's rest. The
queue is the model's (notes/assumptions/1.md). With an empty queue a step answers the state as it is. Idling is the model's choice
(notes/assumptions/1.md): whatever the spec lets happen by itself is a command of the table. -/
def Obligations.StepRunsFrontCommand : Prop :=
(∀ (i : Instr) (rest : List Instr) (s : State), step { s with pending := i :: rest } = exec i { s with pending := rest })
  ∧ (∀ s : State, s.pending = [] → step s = .next s)

/-- For ADD, SUB, ADDW, SUBW, AND, OR, XOR, ANDN, ORN, XNOR, SLL, SRL, ROR, SLT, SLTU, MIN, MAX, MINU, MAXU, MUL, MULHI, MULHIU, MULS32 and
MULU32 with any operands: on a core that runs with the next word inside instruction SRAM, exec answers a next state that holds the
operation's result in rd (nothing written where rd is g0), the pc 4 further, cw16 one more, and every other register, accumulator,
control word, core, object and byte as before. -/
def Obligations.AluRegisterForms : Prop :=
∀ p ∈ ([(Instr.add, fun a b => a + b), (Instr.sub, fun a b => a - b), (Instr.addw, fun a b => ((a + b).setWidth 32).signExtend 64),
      (Instr.subw, fun a b => ((a - b).setWidth 32).signExtend 64), (Instr.and, fun a b => a &&& b), (Instr.or, fun a b => a ||| b),
      (Instr.xor, fun a b => a ^^^ b), (Instr.andn, fun a b => a &&& ~~~b), (Instr.orn, fun a b => a ||| ~~~b),
      (Instr.xnor, fun a b => ~~~(a ^^^ b)), (Instr.sll, fun a b => a <<< (b.toNat % 64)), (Instr.srl, fun a b => a >>> (b.toNat % 64)),
      (Instr.ror, fun a b => a.rotateRight (b.toNat % 64)), (Instr.slt, fun a b => if a.toInt < b.toInt then 1 else 0),
      (Instr.sltu, fun a b => if a.toNat < b.toNat then 1 else 0), (Instr.min, fun a b => if a.toInt < b.toInt then a else b),
      (Instr.max, fun a b => if a.toInt < b.toInt then b else a), (Instr.minu, fun a b => if a.toNat < b.toNat then a else b),
      (Instr.maxu, fun a b => if a.toNat < b.toNat then b else a), (Instr.mul, fun a b => a * b),
      (Instr.mulhi, fun a b => BitVec.ofInt 64 (a.toInt * b.toInt / 2 ^ 64)), (Instr.mulhiu, fun a b => BitVec.ofNat 64 (a.toNat * b.toNat / 2 ^ 64)),
      (Instr.muls32, fun a b => (a.setWidth 32).signExtend 64 * (b.setWidth 32).signExtend 64),
      (Instr.mulu32, fun a b => (a.setWidth 32).setWidth 64 * (b.setWidth 32).setWidth 64)] :
        List ((Fin 6 → Fin 32 → Fin 32 → Fin 32 → Instr) × (Word → Word → Word))),
    ∀ (c : Fin 6) (rd ra rb : Fin 32) (s : State), canRun s c 1 →
      ∃ t, exec (p.1 c rd ra rb) s = .next t ∧ oneReg s t c rd (p.2 ((s.core c).reg ra) ((s.core c).reg rb)) ((s.core c).pc + 4)

/-- For CLZ, CTZ, SRA and SRAI with any operands on a core that runs: exec answers a next state with the result in rd alone. CLZ and CTZ of
zero give 64; of another value, CLZ gives the n with 2^(63−n) ≤ value < 2^(64−n), CTZ the place of the lowest 1. Bit i of SRA's and
SRAI's result is bit i + shift of ra below 64 and bit 63 from there on, the shift being rb[5:0] and imm16[5:0]. -/
def Obligations.CountAndShiftRule : Prop :=
∀ (c : Fin 6) (rd ra rb : Fin 32) (sh : BitVec 6) (s : State), canRun s c 1 →
    let a := (s.core c).reg ra
    let pc := (s.core c).pc + 4
    (∃ t v, exec (.clz c rd ra) s = .next t ∧ oneReg s t c rd v pc ∧ (a = 0 → v.toNat = 64)
      ∧ (a ≠ 0 → v.toNat ≤ 63 ∧ 2 ^ (63 - v.toNat) ≤ a.toNat ∧ a.toNat < 2 ^ (64 - v.toNat)))
    ∧ (∃ t v, exec (.ctz c rd ra) s = .next t ∧ oneReg s t c rd v pc ∧ (a = 0 → v.toNat = 64)
      ∧ (a ≠ 0 → a.getLsbD v.toNat = true ∧ ∀ i, i < v.toNat → a.getLsbD i = false))
    ∧ (∃ t v, exec (.sra c rd ra rb) s = .next t ∧ oneReg s t c rd v pc
      ∧ ∀ i, i < 64 → v.getLsbD i = a.getLsbD (min 63 (i + ((s.core c).reg rb).toNat % 64)))
    ∧ (∃ t v, exec (.srai c rd ra sh) s = .next t ∧ oneReg s t c rd v pc
      ∧ ∀ i, i < 64 → v.getLsbD i = a.getLsbD (min 63 (i + sh.toNat)))

/-- For POPC, SEXTB, SEXTH, SEXTW, ZEXTW, SLLI and SRLI: on a core that runs, exec answers a next state with the result in rd alone, by the
frame of the other integer instructions; POPC's result is the number of 1 bits. For these six instructions with any immediate: with no
prefix the immediate is imm16, sign-extended for the first three and zero-extended for the others; with one LIM it is imm26 : imm16
sign-extended from bit 41; with two, the first supplies bits [63:42] from its [21:0], its [25:22] being zero. On a core that runs with
the whole group and the next word inside instruction SRAM exec answers a next state with the result in rd alone and the pc past the
group. -/
def Obligations.UnaryAndImmediateForms : Prop :=
(∀ (c : Fin 6) (rd ra : Fin 32) (sh : BitVec 6) (s : State), canRun s c 1 →
     let a := (s.core c).reg ra
     let pc := (s.core c).pc + 4
     (∃ t, exec (.popc c rd ra) s = .next t ∧ oneReg s t c rd (BitVec.ofNat 64 ((List.range 64).filter fun i => a.getLsbD i).length) pc)
     ∧ (∃ t, exec (.sextb c rd ra) s = .next t ∧ oneReg s t c rd ((a.setWidth 8).signExtend 64) pc)
     ∧ (∃ t, exec (.sexth c rd ra) s = .next t ∧ oneReg s t c rd ((a.setWidth 16).signExtend 64) pc)
     ∧ (∃ t, exec (.sextw c rd ra) s = .next t ∧ oneReg s t c rd ((a.setWidth 32).signExtend 64) pc)
     ∧ (∃ t, exec (.zextw c rd ra) s = .next t ∧ oneReg s t c rd ((a.setWidth 32).setWidth 64) pc)
     ∧ (∃ t, exec (.slli c rd ra sh) s = .next t ∧ oneReg s t c rd (a <<< sh.toNat) pc)
     ∧ ∃ t, exec (.srli c rd ra sh) s = .next t ∧ oneReg s t c rd (a >>> sh.toNat) pc)
  ∧ (∀ p ∈ ([(Instr.addi, true, fun a b => a + b), (Instr.slti, true, fun a b => if a.toInt < b.toInt then 1 else 0),
         (Instr.sltiu, true, fun a b => if a.toNat < b.toNat then 1 else 0), (Instr.andi, false, fun a b => a &&& b),
         (Instr.ori, false, fun a b => a ||| b), (Instr.xori, false, fun a b => a ^^^ b)] :
           List ((Fin 6 → Fin 32 → Fin 32 → BitVec 16 → Lim → Instr) × Bool × (Word → Word → Word))),
       ∀ (c : Fin 6) (rd ra : Fin 32) (imm : BitVec 16) (hi top : BitVec 26) (s : State),
         let a := (s.core c).reg ra
         (canRun s c 1 → ∃ t, exec (p.1 c rd ra imm .none) s = .next t
           ∧ oneReg s t c rd (p.2.2 a (if p.2.1 then imm.signExtend 64 else imm.setWidth 64)) ((s.core c).pc + 4))
         ∧ (canRun s c 2 → ∃ t, exec (p.1 c rd ra imm (.one hi)) s = .next t
           ∧ oneReg s t c rd (p.2.2 a ((hi ++ imm).signExtend 64)) ((s.core c).pc + 8))
         ∧ (canRun s c 3 → top.extractLsb' 22 4 = 0 → ∃ t, exec (p.1 c rd ra imm (.two top hi)) s = .next t
           ∧ oneReg s t c rd (p.2.2 a (top.setWidth 22 ++ hi ++ imm)) ((s.core c).pc + 12)))

/-- For DVS, DVU, MDS and MDU with any operands on a core that runs, exec answers a next state with the result in rd alone: DVS by zero
gives 2^63 − 1 for ra ≥ 0 and −2^63 for ra < 0, DVU by zero 2^64 − 1, both with cw17.qsat set; MDS and MDU by zero give 0 and set it;
DVS of −2^63 by −1 gives 2^63 − 1 and sets it, the matching MDS 0; otherwise DVS rounds toward −∞, MDS is the remainder that goes with
it, of the divisor's sign and smaller than it, and cw17 stays. -/
def Obligations.DivisionRule : Prop :=
∀ (c : Fin 6) (rd ra rb : Fin 32) (s : State), canRun s c 1 →
    let a := (s.core c).reg ra
    let b := (s.core c).reg rb
    let pc := (s.core c).pc + 4
    let corner := a.toInt = -(2 ^ 63) ∧ b.toInt = -1
    (∃ t v sat, exec (.dvs c rd ra rb) s = .next t ∧ oneSatReg s t c rd v sat pc ∧ (b = 0 → sat = true ∧ v.toInt = if 0 ≤ a.toInt then 2 ^ 63 - 1 else -(2 ^ 63))
      ∧ (corner → sat = true ∧ v.toInt = 2 ^ 63 - 1)
      ∧ (b ≠ 0 → ¬ corner → sat = false ∧ (0 < b.toInt → v.toInt * b.toInt ≤ a.toInt ∧ a.toInt < v.toInt * b.toInt + b.toInt)
          ∧ (b.toInt < 0 → a.toInt ≤ v.toInt * b.toInt ∧ v.toInt * b.toInt + b.toInt < a.toInt)))
    ∧ (∃ t v sat, exec (.dvu c rd ra rb) s = .next t ∧ oneSatReg s t c rd v sat pc ∧ (b = 0 → sat = true ∧ v.toNat = 2 ^ 64 - 1)
      ∧ (b ≠ 0 → sat = false ∧ v.toNat = a.toNat / b.toNat))
    ∧ (∃ t v sat, exec (.mds c rd ra rb) s = .next t ∧ oneSatReg s t c rd v sat pc ∧ (b = 0 → sat = true ∧ v = 0) ∧ (corner → sat = false ∧ v = 0)
      ∧ (b ≠ 0 → ¬ corner → sat = false ∧ (∃ q : Int, a.toInt = q * b.toInt + v.toInt) ∧ (0 < b.toInt → 0 ≤ v.toInt ∧ v.toInt < b.toInt)
          ∧ (b.toInt < 0 → v.toInt ≤ 0 ∧ b.toInt < v.toInt)))
    ∧ ∃ t v sat, exec (.mdu c rd ra rb) s = .next t ∧ oneSatReg s t c rd v sat pc ∧ (b = 0 → sat = true ∧ v = 0)
      ∧ (b ≠ 0 → sat = false ∧ v.toNat = a.toNat % b.toNat)

/-- For ACLR, AMUL, AMAC, AMSU, AMUL2, AMAC2, ASHL, ASHR and APUT with any operands on a core that runs: exec answers a next state whose
accumulator holds the exact result limited to −2^95 … 2^95 − 1, with the accumulator's bit of cw17.asat set exactly where the exact
result lay outside that range (and otherwise kept), and every register, every other accumulator and everything outside the core as
before. -/
def Obligations.AccumulatorRule : Prop :=
∀ (c : Fin 6) (x : Fin 4) (ra rb : Fin 32) (sh : BitVec 6) (s : State), canRun s c 1 →
    let a := (s.core c).reg ra
    let b := (s.core c).reg rb
    let old := ((s.core c).acc x).toInt
    let p := (a.setWidth 32).toInt * (b.setWidth 32).toInt
    let q := (a.setWidth 16).toInt * (b.setWidth 16).toInt + ((a >>> 16).setWidth 16).toInt * ((b >>> 16).setWidth 16).toInt
    ∀ e ∈ ([(Instr.aclr c x, 0), (Instr.amul c x ra rb, p), (Instr.amac c x ra rb, old + p), (Instr.amsu c x ra rb, old - p),
        (Instr.amul2 c x ra rb, q), (Instr.amac2 c x ra rb, old + q), (Instr.ashl c x sh, old * 2 ^ sh.toNat),
        (Instr.ashr c x sh, old / 2 ^ sh.toNat), (Instr.aput c x ra rb, (b.setWidth 32 ++ a : Acc96).toInt)] : List (Instr × Int)),
      ∃ t, exec e.1 s = .next t
        ∧ oneAcc s t c x (BitVec.ofInt 96 (max (-(2 ^ 95)) (min (2 ^ 95 - 1) e.2))) (decide (e.2 < -(2 ^ 95) ∨ 2 ^ 95 - 1 < e.2)) ((s.core c).pc + 4)

/-- On a core that runs, for AEXT and AEXTD with any shift and rounding mode and for QADD, QSUB, QMUL, QNEG and QABS: exec answers a next
state with the exact result, rounded and then limited to 32 bits (64 for AEXTD), in rd, cw17.qsat set exactly where it was limited,
everything else as before. Mode 0 rounds toward −∞, 1 half toward +∞, 2 half to even, 3 toward zero; QMUL rounds by mode 1. AGETL and
AGETH give bits [63:0] and the sign-extended bits [95:64]. For every shift and value, with q the result and d = 2^shift: mode 0 gives
the floor; mode 1 the nearest with halves toward +∞; mode 2 the nearest with halves to even; mode 3 truncates toward zero. -/
def Obligations.FixedPointRule : Prop :=
(∀ (c : Fin 6) (rd ra rb : Fin 32) (x m : Fin 4) (sh : BitVec 6) (s : State), canRun s c 1 →
     let a := (((s.core c).reg ra).setWidth 32).toInt
     let b := (((s.core c).reg rb).setWidth 32).toInt
     let acc := (s.core c).acc x
     let pc := (s.core c).pc + 4
     let lim (w : Nat) (v : Int) : Word := BitVec.ofInt 64 (max (-(2 ^ (w - 1))) (min (2 ^ (w - 1) - 1) v))
     let out (w : Nat) (v : Int) : Bool := decide (v < -(2 ^ (w - 1)) ∨ 2 ^ (w - 1) - 1 < v)
     (∀ e ∈ ([(Instr.aext c rd x sh m, 32, roundShift m sh.toNat acc.toInt), (Instr.aextd c rd x sh m, 64, roundShift m sh.toNat acc.toInt),
         (Instr.qadd c rd ra rb, 32, a + b), (Instr.qsub c rd ra rb, 32, a - b), (Instr.qmul c rd ra rb, 32, roundShift 1 31 (a * b)),
         (Instr.qneg c rd ra, 32, -a), (Instr.qabs c rd ra, 32, max a (-a))] : List (Instr × Nat × Int)),
       ∃ t, exec e.1 s = .next t ∧ oneSatReg s t c rd (lim e.2.1 e.2.2) (out e.2.1 e.2.2) pc)
     ∧ (∃ t, exec (.agetl c rd x) s = .next t ∧ oneReg s t c rd (acc.setWidth 64) pc)
     ∧ ∃ t, exec (.ageth c rd x) s = .next t ∧ oneReg s t c rd ((acc.extractLsb' 64 32).signExtend 64) pc)
  ∧ (∀ (n : Nat) (x : Int),
       let d : Int := 2 ^ n
       (roundShift 0 n x * d ≤ x ∧ x < roundShift 0 n x * d + d)
       ∧ (2 * roundShift 1 n x * d - d ≤ 2 * x ∧ 2 * x < 2 * roundShift 1 n x * d + d)
       ∧ (2 * roundShift 2 n x * d - d ≤ 2 * x ∧ 2 * x ≤ 2 * roundShift 2 n x * d + d
           ∧ (2 * x = 2 * roundShift 2 n x * d - d ∨ 2 * x = 2 * roundShift 2 n x * d + d → n = 0 ∨ roundShift 2 n x % 2 = 0))
       ∧ ((0 ≤ x → roundShift 3 n x * d ≤ x ∧ x < roundShift 3 n x * d + d) ∧ (x < 0 → x ≤ roundShift 3 n x * d ∧ roundShift 3 n x * d - d < x)))

/-- On a core that runs, with the branch's own next word and its target where a word can be fetched: BEQ, BNE, BLT, BGE, BLTU, BGEU, BBS and
BBC go to pc + 4 × sext(off16) where their condition holds and to the next word where not, changing nothing else (cw22 counts a
misprediction); J goes to pc + 4 × sext(off26); JAL does too with pc + 4 in g31; JALR, with or without LIM prefixes, goes to (ra + imm)
AND NOT 3 with the address of the word behind the group in rd. NOP only moves on. Outside a handler a J or JALR to a target outside
instruction SRAM enters the handler with fetch fault, epc and eval the target. -/
def Obligations.BranchRule : Prop :=
∀ (c : Fin 6) (rd ra rb : Fin 32) (off imm : BitVec 16) (off26 : BitVec 26) (mp : Bool) (s : State), canRun s c 1 →
    let k := s.core c
    let a := k.reg ra
    let b := k.reg rb
    let dest (n : Int) : Addr := k.pc + BitVec.ofInt 32 (4 * n)
    (k.fetchOk (dest off.toInt) = true →
      ∀ e ∈ ([(Instr.beq c ra rb off mp, decide (a = b)), (Instr.bne c ra rb off mp, decide (a ≠ b)), (Instr.blt c ra rb off mp, decide (a.toInt < b.toInt)),
          (Instr.bge c ra rb off mp, decide (b.toInt ≤ a.toInt)), (Instr.bltu c ra rb off mp, decide (a.toNat < b.toNat)),
          (Instr.bgeu c ra rb off mp, decide (b.toNat ≤ a.toNat)), (Instr.bbs c ra rb off mp, a.getLsbD rb),
          (Instr.bbc c ra rb off mp, !a.getLsbD rb)] : List (Instr × Bool)),
        ∃ t, exec e.1 s = .next t ∧ pcOnly s t c mp (if e.2 then dest off.toInt else k.pc + 4))
    ∧ (k.fetchOk (dest off26.toInt) = true →
        (∃ t, exec (.j c off26) s = .next t ∧ pcOnly s t c false (dest off26.toInt))
        ∧ ∃ t, exec (.jal c off26) s = .next t ∧ oneReg s t c 31 ((k.pc + 4).setWidth 64) (dest off26.toInt))
    ∧ (∀ lim : Lim, canRun s c (limWords lim) → limOk lim = true →
       let g := (a + immediate true lim imm) &&& ~~~(3 : Word)
       (g.toNat < 2 ^ 32 → k.fetchOk (g.setWidth 32) = true → ∃ t, exec (.jalr c rd ra imm lim) s = .next t
         ∧ oneReg s t c rd ((k.pc + BitVec.ofNat 32 (4 * limWords lim)).setWidth 64) (g.setWidth 32))
       ∧ (k.inHandler = false → imemSize ≤ g.toNat → ∃ t, exec (.jalr c rd ra imm lim) s = .next t ∧ (t.core c).pc = k.vbase
         ∧ Tab.get (t.core c).cw 1 0 = 0x02 ∧ Tab.get (t.core c).cw 2 0 = ((g.setWidth 32 : Addr) &&& ~~~3).setWidth 64 ∧ Tab.get (t.core c).cw 3 0 = g))
    ∧ (k.inHandler = false → imemSize ≤ (dest off26.toInt).toNat → ∃ t, exec (.j c off26) s = .next t ∧ (t.core c).pc = k.vbase
        ∧ Tab.get (t.core c).cw 1 0 = 0x02 ∧ Tab.get (t.core c).cw 2 0 = (dest off26.toInt &&& ~~~3).setWidth 64
        ∧ Tab.get (t.core c).cw 3 0 = (dest off26.toInt).setWidth 64)
    ∧ ∃ t, exec (.nop c) s = .next t ∧ pcOnly s t c false (k.pc + 4)

/-- On a core that runs outside a handler, TRAP enters with code 0x08 and eval its code, BRK with code 0x09 and eval 0, a word that is no
instruction with code 0x01 and eval the word: cw5 := cw0[8:3], ie := 0, in_handler := 1, cw1, cw2, cw3 written, the pc at
cw4[31:8]·256, and everything else as before. On a core that runs inside a handler, TRAP, BRK and a word that is no instruction stop
the core: it is failed, everything else of it is as before, its bit of durable.spares.failed is set, and no other core and no byte of
memory changes; with retired entries still in its effect queue it only stops, and fails once they have left. An instruction that cannot
be fetched raises fetch fault outside instruction SRAM and the uncorrectable block (0x06, with its region and address) inside it, and has
no effect of its own. -/
def Obligations.ExceptionAndDoubleFaultRule : Prop :=
(∀ (c : Fin 6) (code : BitVec 8) (word : BitVec 32) (s : State), (s.core c).running = true → (s.core c).fetchOk (s.core c).pc = true →
     (s.core c).inHandler = false →
     (∃ t, exec (.trap c code) s = .next t ∧ trapped s t c 0x08 0 (code.setWidth 64))
     ∧ (∃ t, exec (.brk c) s = .next t ∧ trapped s t c 0x09 0 0)
     ∧ (primelLegal word = false → ∃ t, exec (.illegalInstruction c word) s = .next t ∧ trapped s t c 0x01 0 (word.setWidth 64)))
  ∧ (∀ (c : Fin 6) (code : BitVec 8) (word : BitVec 32) (s : State), (s.core c).running = true → (s.core c).fetchOk (s.core c).pc = true →
       (s.core c).inHandler = true → primelLegal word = false → ∀ i ∈ [Instr.trap c code, Instr.brk c, Instr.illegalInstruction c word],
         ((s.core c).eq = [] → ∃ t, exec i s = .next t ∧ t.core c = { s.core c with run := .failed } ∧ (∀ d, d ≠ (c : Nat) → t.core d = s.core d)
           ∧ t.bit sparesFailed 0 c = true ∧ t.mem = s.mem ∧ t.pending = s.pending)
         ∧ ((s.core c).eq ≠ [] → ∃ t, exec i s = .next t ∧ t.core c = { s.core c with run := .failing } ∧ (∀ d, d ≠ (c : Nat) → t.core d = s.core d)
           ∧ t.mem = s.mem ∧ t.pending = s.pending))
  ∧ ∀ (c : Fin 6) (s : State), (s.core c).running = true → (s.core c).inHandler = false →
      (imemSize ≤ (s.core c).pc.toNat →
        ∃ t, exec (.nop c) s = .next t ∧ trapped s t c 0x02 0 ((s.core c).pc.setWidth 64))
      ∧ ((s.core c).pc.toNat < imemSize → (s.core c).pc.toNat - (s.core c).pc.toNat % 32 ∈ (s.core c).badFetch →
        ∃ t, exec (.nop c) s = .next t ∧ trapped s t c 0x06 c (BitVec.ofNat 64 ((s.core c).pc.toNat - (s.core c).pc.toNat % 32)))

/-- For LB, LBU, LH, LHU, LW, LWU and LD with any prefixes, at an aligned address that the core may load from and that lies outside effect
space and the mailboxes: exec answers a next state with the bytes at ra + imm in rd, the first the least significant, sign- or
zero-extended; nothing else changes but what the decoder counts of the block it read. No byte of memory changes. -/
def Obligations.LoadRule : Prop :=
∀ p ∈ ([(Instr.lb, 1, true), (Instr.lbu, 1, false), (Instr.lh, 2, true), (Instr.lhu, 2, false), (Instr.lw, 4, true), (Instr.lwu, 4, false),
      (Instr.ld, 8, false)] : List ((Fin 6 → Fin 32 → Fin 32 → BitVec 16 → Lim → BlockResult → Instr) × Nat × Bool)),
    ∀ (c : Fin 6) (rd ra : Fin 32) (imm : BitVec 16) (lim : Lim) (ecc : BlockResult) (s : State), canRun s c (limWords lim) → limOk lim = true →
      let a := ((s.core c).reg ra + immediate true lim imm).toNat
      let b := s.block c a ecc
      isEffect a = false → isMailbox a = false → (s.core c).mayLoad c a = true → a % p.2.1 = 0 → b.2 = none →
      ∃ t v, exec (p.1 c rd ra imm lim ecc) s = .next t ∧ oneReg b.1 t c rd v ((s.core c).pc + BitVec.ofNat 32 (4 * limWords lim))
        ∧ bytesAt s.mem (physAddr c a) p.2.1 p.2.2 v ∧ t.mem = s.mem

/-- For SB, SH, SW and SD with any prefixes, at an aligned address that the core may store to and that lies outside effect space and the
mailboxes: exec answers a next state whose memory holds the low bytes of rd from ra + imm on, the least significant first, every other
byte as before; no register, accumulator, control word but cw16, no other core and no object changes but what the decoder counts of the
block. -/
def Obligations.StoreRule : Prop :=
∀ p ∈ ([(Instr.sb, 1), (Instr.sh, 2), (Instr.sw, 4), (Instr.sd, 8)] : List ((Fin 6 → Fin 32 → Fin 32 → BitVec 16 → Lim → BlockResult → Instr) × Nat)),
    ∀ (c : Fin 6) (rd ra : Fin 32) (imm : BitVec 16) (lim : Lim) (ecc : BlockResult) (s : State), canRun s c (limWords lim) → limOk lim = true →
      let a := ((s.core c).reg ra + immediate true lim imm).toNat
      let b := s.block c a ecc
      isEffect a = false → isMailbox a = false → (s.core c).mayStore c a = true → a % p.2 = 0 → b.2 = none →
      ∃ t, exec (p.1 c rd ra imm lim ecc) s = .next t ∧ onlyCoreMem b.1 t c
        ∧ retiredTo (s.core c) (t.core c) ((s.core c).pc + BitVec.ofNat 32 (4 * limWords lim)) ∧ (t.core c).regs = (s.core c).regs
        ∧ (t.core c).accs = (s.core c).accs ∧ storedAt s.mem t.mem (physAddr c a) p.2 ((s.core c).reg rd)

/-- For every load and store on a core that runs outside a handler: a misaligned address raises misaligned access (0x05); an aligned one
without the right raises load (0x03) or store (0x04) access fault, both with eval the address; in effect space so does any load or
store below 32 bits and LWU; an uncorrectable block raises 0x06 with its region in cw1.source and its byte address in eval. Each is an
exec that answers the handler entered and nothing else changed but the block counted, no byte written. That misalignment is judged
first is the model's reading (notes/assumptions/12.md). -/
def Obligations.AccessFaultRule : Prop :=
∀ p ∈ ([(Instr.lb, 1, false), (Instr.lbu, 1, false), (Instr.lh, 2, false), (Instr.lhu, 2, false), (Instr.lw, 4, false), (Instr.lwu, 4, false),
      (Instr.ld, 8, false), (Instr.sb, 1, true), (Instr.sh, 2, true), (Instr.sw, 4, true), (Instr.sd, 8, true)] :
        List ((Fin 6 → Fin 32 → Fin 32 → BitVec 16 → Lim → BlockResult → Instr) × Nat × Bool)),
    ∀ (c : Fin 6) (rd ra : Fin 32) (imm : BitVec 16) (lim : Lim) (ecc : BlockResult) (s : State), canRun s c (limWords lim) → limOk lim = true →
      (s.core c).inHandler = false →
      let k := s.core c
      let i := p.1 c rd ra imm lim ecc
      let a := (k.reg ra + immediate true lim imm).toNat
      let right := if p.2.2 then k.mayStore c a else k.mayLoad c a
      (a % p.2.1 ≠ 0 → ∃ t, exec i s = .next t ∧ trapped s t c 0x05 0 (BitVec.ofNat 64 a))
      ∧ (a % p.2.1 = 0 → right = false ∨ (isEffect a = true ∧ (p.2.1 < 4 ∨ i = .lwu c rd ra imm lim ecc)) →
          ∃ t, exec i s = .next t ∧ trapped s t c (if p.2.2 then 0x04 else 0x03) 0 (BitVec.ofNat 64 a))
      ∧ (a % p.2.1 = 0 → right = true → isEffect a = false → isMailbox a = false → ∀ r, (s.block c a ecc).2 = some r →
          ∃ t, exec i s = .next t ∧ trapped (s.block c a ecc).1 t c 0x06 r (BitVec.ofNat 64 (a - a % 32)))

/-- On a core that runs with an empty effect queue, at an 8-byte aligned address in local data SRAM or the Boulevard that the core may
store to: CASD, SWPD, FADDD, FSATD, FANDD, FORD, FMAXD and FMIND answer a next state with the old 64-bit word in rd and the new word of
Table 2-9 stored (CASD only where the old one equals rd), FSATD setting cw17.qsat exactly where it saturates; nothing else changes but
the block counted. An uncorrectable block raises 0x06 and writes nothing; an address anywhere else raises 0x04. -/
def Obligations.AtomicRule : Prop :=
∀ (c : Fin 6) (rd ra rb : Fin 32) (ecc : BlockResult) (s : State), canRun s c 1 → (s.core c).eq = [] →
    let k := s.core c
    let a := (k.reg ra).toNat
    let b := k.reg rb
    let q := s.block c a ecc
    let old : Word := BitVec.ofNat 64 (Memory.read s.mem (physAddr c a) 8)
    let sum := old.toInt + b.toInt
    ∀ e ∈ ([(Instr.casd c rd ra rb ecc, if old = k.reg rd then b else old, false), (Instr.swpd c rd ra rb ecc, b, false),
        (Instr.faddd c rd ra rb ecc, old + b, false),
        (Instr.fsatd c rd ra rb ecc, BitVec.ofInt 64 (max (-(2 ^ 63)) (min (2 ^ 63 - 1) sum)), decide (sum < -(2 ^ 63) ∨ 2 ^ 63 - 1 < sum)),
        (Instr.fandd c rd ra rb ecc, old &&& b, false), (Instr.ford c rd ra rb ecc, old ||| b, false),
        (Instr.fmaxd c rd ra rb ecc, if old.toInt < b.toInt then b else old, false),
        (Instr.fmind c rd ra rb ecc, if old.toInt < b.toInt then old else b, false)] : List (Instr × Word × Bool)),
      (a % 8 = 0 → (isDataSram a || isBoulevard a) = true → k.mayStore c a = true → q.2 = none →
        ∃ t, exec e.1 s = .next t ∧ storedAt s.mem t.mem (physAddr c a) 8 e.2.1
          ∧ oneSatReg { q.1 with mem := t.mem } t c rd old e.2.2 (k.pc + 4))
      ∧ (a % 8 = 0 → (isDataSram a || isBoulevard a) = true → k.mayStore c a = true → k.inHandler = false → ∀ r, q.2 = some r →
        ∃ t, exec e.1 s = .next t ∧ trapped q.1 t c 0x06 r (BitVec.ofNat 64 (a - a % 32)))
      ∧ (a % 8 = 0 → (isDataSram a || isBoulevard a) = false ∨ k.mayStore c a = false → k.inHandler = false →
        ∃ t, exec e.1 s = .next t ∧ trapped s t c 0x04 0 (k.reg ra))
      ∧ (a % 8 ≠ 0 → k.inHandler = false → ∃ t, exec e.1 s = .next t ∧ trapped s t c 0x05 0 (k.reg ra))

/-- At an aligned address with the right: a load from a mailbox puts what the mailbox shows in rd and changes nothing else; LW and LD from
effect space, with the effect queue empty, put what the page answers in rd and perform the page's effect once; with older entries
waiting the load does not execute. CORE_STATUS_READ_CLEAR of a granted word of the core's own block puts the word in rd and leaves it
zero, the other words, every object and every byte as before. -/
def Obligations.EffectSpaceLoadRule : Prop :=
∀ (c : Fin 6) (rd ra : Fin 32) (imm : BitVec 16) (lim : Lim) (ecc : BlockResult) (s : State), canRun s c (limWords lim) → limOk lim = true →
    let k := s.core c
    let a := (k.reg ra + immediate true lim imm).toNat
    let pc := k.pc + BitVec.ofNat 32 (4 * limWords lim)
    (∀ p ∈ ([(Instr.lw, 4, fun v => (BitVec.ofNat 32 v).signExtend 64), (Instr.ld, 8, fun v => BitVec.ofNat 64 v)] :
        List ((Fin 6 → Fin 32 → Fin 32 → BitVec 16 → Lim → BlockResult → Instr) × Nat × (Nat → Word))),
      a % p.2.1 = 0 → k.mayLoad c a = true →
      (isMailbox a = true → ∃ t, exec (p.1 c rd ra imm lim ecc) s = .next t ∧ oneReg s t c rd (p.2.2 (s.mailRead a p.2.1)) pc)
      ∧ (isEffect a = true → k.eq = [] → ∀ v u, s.effectRead c a p.2.1 = some (v, u) →
          ∃ t, exec (p.1 c rd ra imm lim ecc) s = .next t ∧ oneReg u t c rd (p.2.2 v) pc)
      ∧ (isEffect a = true → k.eq ≠ [] → exec (p.1 c rd ra imm lim ecc) s = .next s))
    ∧ ∀ (n : Nat) (word : Fin 4), k.eq = [] → canRun s c 1 → k.granted (0x40300000 + 0x1000 * c + 8 * word) false = true →
      (∀ w, Tab.get k.rc w 0 < 2 ^ 64) →
      ∃ t, exec (.coreStatusReadClear n c rd word) s = .next t
        ∧ (∃ rc, (∀ w, Tab.get rc w 0 = if w = (word : Nat) then 0 else Tab.get k.rc w 0)
          ∧ oneReg ((s.at n).setCore c { k with rc := rc }) t c rd (BitVec.ofNat 64 (Tab.get k.rc word 0)) (k.pc + 4))

/-- With fewer than 32 entries taken, SW and SD to a page or mailbox that the core may store to append one entry to its queue and do
nothing else, no byte written; with all 32 taken the instruction does not retire. EFFECT_QUEUE_DRAIN takes the oldest entry out and
performs its effect, or where the mailbox is that of a lost head drops and counts it (notes/assumptions/43.md); a page word with none of its own (a send page without layout, the status block) changes nothing but the
queue. With an empty queue nothing happens, and then FENCEE retires; with entries it does not. -/
def Obligations.EffectQueueRule : Prop :=
∀ (c : Fin 6) (rd ra : Fin 32) (imm : BitVec 16) (lim : Lim) (ecc : BlockResult) (n : Nat) (s : State), canRun s c (limWords lim) → limOk lim = true →
    let k := s.core c
    let a := (k.reg ra + immediate true lim imm).toNat
    (∀ p ∈ ([(Instr.sw, false), (Instr.sd, true)] : List ((Fin 6 → Fin 32 → Fin 32 → BitVec 16 → Lim → BlockResult → Instr) × Bool)),
      a % (if p.2 then 8 else 4) = 0 → k.mayStore c a = true → (isEffect a || isMailbox a) = true →
      storeRefused a (if p.2 then 8 else 4) = false →
      let e : EqEntry := { addr := a, wide := p.2, data := if p.2 then k.reg rd else ((k.reg rd).setWidth 32).setWidth 64 }
      (k.eq.length < 32 → ∃ t, exec (p.1 c rd ra imm lim ecc) s = .next t ∧ onlyCore s t c ∧ (t.core c).eq = k.eq ++ [e]
        ∧ (t.core c).regs = k.regs ∧ (t.core c).accs = k.accs ∧ (t.core c).pc = k.pc + BitVec.ofNat 32 (4 * limWords lim)
        ∧ ∀ m d, m ≠ 16 → Tab.get (t.core c).cw m d = Tab.get k.cw m d)
      ∧ (32 ≤ k.eq.length → ∃ t, exec (p.1 c rd ra imm lim ecc) s = .next t ∧ (t.core c).pc = k.pc ∧ (t.core c).eq = k.eq
        ∧ (t.core c).regs = k.regs ∧ t.mem = s.mem ∧ t.objs = s.objs))
    ∧ (k.eq = [] → exec (.effectQueueDrain n c) s = .next (s.at n) ∧ ∃ t, exec (.fencee c) s = .next t ∧ pcOnly s t c false (k.pc + 4))
    ∧ (∀ e rest, k.eq = e :: rest →
      exec (.effectQueueDrain n c) s = .next ((((s.at n).setCore c { k with eq := rest }).effectStore c e n).entryLeft c n)
      ∧ (0x40200000 ≤ e.addr → e.addr < 0x40220000 → exec (.effectQueueDrain n c) s = .next ((s.at n).setCore c { k with eq := rest }))
      ∧ (isMailbox e.addr = true → ((s.at n).setCore c { k with eq := rest }).mailState ((e.addr - 0x50000000) / 0x10000) = 3 →
        ∃ t, exec (.effectQueueDrain n c) s = .next t ∧ (t.core c).eq = rest ∧ Tab.get (t.core c).rc 3 0 = min (Tab.get k.rc 3 0 + 1) (2 ^ 64 - 1)
          ∧ t.mem = s.mem ∧ t.objs = s.objs)
      ∧ exec (.fencee c) s = .next s)

/-- On a core that runs with an empty effect queue, with the channel declared for sending and the buffer aligned and whole in data SRAM: a
message within the limits joins the end of the peer's queue and rd is 0; a host peer's object takes it and rd is 0; above max_len or
256 rd is 2, with the peer not running or not declaring the channel so 3, with its queue full 1, and then nothing is sent. An
undeclared channel raises crossing misuse. The order of the checks is the model's (notes/assumptions/13.md). On a core that runs with
an empty effect queue, with the channel declared for receiving and the buffer aligned and whole in data SRAM: XPOLL takes the oldest
message into the buffer with its length in rd, or gives −2 with none waiting; XRECV takes it where it is stamped at or before the
deadline, gives −1 once the deadline and 40 ns have passed without one, and else waits. A waiting XRECV ends with the oldest message stamped at or before its
deadline, or with −1 once the deadline and 40 ns have passed. An undeclared channel raises crossing misuse, a channel above 63 among
them. -/
def Obligations.ChannelRule : Prop :=
(∀ (n : Nat) (c : Fin 6) (rd ra : Fin 32) (ch8 : BitVec 8) (s : State), canRun s c 1 → (s.core c).eq = [] →
     let ch := ch8.toNat
     let k := s.core c
     let a := (k.reg ra).toNat
     let i := Instr.xsend n c rd ra ch8
     let len := Memory.read s.mem (physAddr c a) 2
     let m : ChanMsg := { stamp := n, payload := { len := len, data := Memory.read s.mem (physAddr c (a + 16)) len } }
     (∀ d, k.chan ch = some d → d.send = true → a % 8 = 0 → 0x20000 ≤ a → a + 271 ≤ 0x3FFFF →
       (d.maxLen.toNat < len ∨ 256 < len → ∃ t, exec i s = .next t ∧ oneReg (s.at n) t c rd 2 (k.pc + 4))
       ∧ (len ≤ d.maxLen.toNat → len ≤ 256 →
           (0x80 ≤ d.peer.toNat → ∃ t, exec i s = .next t ∧ Tab.find t.openChan (d.peer.toNat - 0x80) = some m
             ∧ oneReg { s.at n with openChan := t.openChan } t c rd 0 (k.pc + 4))
           ∧ (d.peer.toNat < 0x80 →
             let p := s.physical d.peer.toNat
             let kp := s.core p
             (kp.chan ch = none ∨ kp.alive = false → ∃ t, exec i s = .next t ∧ oneReg (s.at n) t c rd 3 (k.pc + 4))
             ∧ ∀ dp, kp.chan ch = some dp → kp.alive = true → dp.recv = true → dp.peer.toNat = s.logical c →
               (dp.depth.toNat ≤ (kp.queue ch).length → ∃ t, exec i s = .next t ∧ oneReg (s.at n) t c rd 1 (k.pc + 4))
               ∧ ((kp.queue ch).length < dp.depth.toNat → p ≠ c → ∃ t, exec i s = .next t ∧ (t.core p).queue ch = kp.queue ch ++ [m]
                 ∧ oneReg ((s.at n).setCore p (t.core p)) t c rd 0 (k.pc + 4)))))
     ∧ (k.inHandler = false → (k.chan ch = none ∨ ∃ d, k.chan ch = some d ∧ d.send = false) →
         ∃ t, exec i s = .next t ∧ trapped (s.at n) t c 0x0C ch (crossWord 1 rd ra 0 ch)))
  ∧ (∀ (n : Nat) (c : Fin 6) (rd ra rb : Fin 32) (ch8 : BitVec 8) (s : State),
       let ch := ch8.toNat
       let k := s.core c
       let a := (k.reg ra).toNat
       let dl := (k.reg rb).toNat
       (canRun s c 1 → k.eq = [] → ∀ d, k.chan ch = some d → d.recv = true → a % 8 = 0 → 0x20000 ≤ a → a + 271 ≤ 0x3FFFF →
         (∀ m rest, k.queue ch = m :: rest → m.payload.len ≤ 256 → m.payload.data < 2 ^ (8 * m.payload.len) → m.stamp < 2 ^ 64 →
           (∃ t, exec (.xpoll n c rd ra ch8) s = .next t ∧ tookMessage (s.at n) t c rd ch a m rest)
           ∧ (m.stamp ≤ dl → ∃ t, exec (.xrecv n c rd ra rb ch8) s = .next t ∧ tookMessage (s.at n) t c rd ch a m rest
               ∧ Tab.get (t.core c).cw 23 0 = BitVec.ofNat 64 m.stamp)
           ∧ (dl < m.stamp → dl + 40 ≤ n → ∃ t, exec (.xrecv n c rd ra rb ch8) s = .next t ∧ oneRegCw (s.at n) t c rd (BitVec.allOnes 64) (k.pc + 4) [23])
           ∧ (dl < m.stamp → n < dl + 40 → exec (.xrecv n c rd ra rb ch8) s = .next ((s.at n).setCore c { k with run := .xrecv rd a ch dl })))
         ∧ (k.queue ch = [] →
           (∃ t, exec (.xpoll n c rd ra ch8) s = .next t ∧ oneReg (s.at n) t c rd (BitVec.ofInt 64 (-2)) (k.pc + 4))
           ∧ (dl + 40 ≤ n → ∃ t, exec (.xrecv n c rd ra rb ch8) s = .next t ∧ oneRegCw (s.at n) t c rd (BitVec.allOnes 64) (k.pc + 4) [23]
               ∧ Tab.get (t.core c).cw 23 0 = k.reg rb)
           ∧ (n < dl + 40 → exec (.xrecv n c rd ra rb ch8) s = .next ((s.at n).setCore c { k with run := .xrecv rd a ch dl }))))
       ∧ (64 ≤ ch → k.chan ch = none)
       ∧ (canRun s c 1 → k.eq = [] → k.inHandler = false → (k.chan ch = none ∨ ∃ d, k.chan ch = some d ∧ d.recv = false) →
           (∃ t, exec (.xpoll n c rd ra ch8) s = .next t ∧ trapped (s.at n) t c 0x0C ch (crossWord 3 rd ra 0 ch))
           ∧ ∃ t, exec (.xrecv n c rd ra rb ch8) s = .next t ∧ trapped (s.at n) t c 0x0C ch (crossWord 2 rd ra rb ch))
       ∧ ∀ (b e : Nat), k.run = .xrecv rd b ch e → k.fetchOk (k.pc + 4) = true → 0x20000 ≤ b → b + 271 ≤ 0x3FFFF →
         (∀ m rest, k.queue ch = m :: rest → m.stamp ≤ e → m.payload.len ≤ 256 → m.payload.data < 2 ^ (8 * m.payload.len) → m.stamp < 2 ^ 64 →
           ∃ t, exec (.xrecvReturn n c) s = .next t ∧ tookMessage (s.at n) t c rd ch b m rest ∧ Tab.get (t.core c).cw 23 0 = BitVec.ofNat 64 m.stamp)
         ∧ (k.queue ch = [] → e + 40 ≤ n → ∃ t, exec (.xrecvReturn n c) s = .next t ∧ oneRegCw (s.at n) t c rd (BitVec.allOnes 64) (k.pc + 4) [23])
         ∧ (k.queue ch = [] → n < e + 40 → exec (.xrecvReturn n c) s = .next (s.at n)))

/-- XCALL of an imported gate whose server runs and has room queues g1–g6 with the stamp and the deadline (ra, or the export's maximum wait
where ra is 0) and waits with xcall_out set; rd is 2 with 4 requests queued, 3 with the server not running; a gate not imported raises
0x0B, a call already out 0x0C. The gate's results reach g1–g4, then rd is 0. Past its deadline by 40 ns a call not yet accepted ends
with 1 and its request leaves the queue, one accepted by a non-effecting gate with 4; one accepted by an effecting gate waits on. The
serving core, running outside a handler with delivery enabled and serving no gate, takes the oldest request whose deadline has not
passed and the caller's call is marked accepted. Gate entry writes g1–g6, the calling core and the request stamp into the gate frame
and no other byte, and enters with code 0x11 at the export's handler with in_gate set. XRET of that gate hands the four words of the
frame to the caller's call, or discards and counts them where a non-effecting gate returns past the call's deadline, clears in_gate, and
returns as RETI; without in_gate or naming another gate it raises crossing misuse. -/
def Obligations.GateRule : Prop :=
(∀ (n : Nat) (c : Fin 6) (rd ra : Fin 32) (gate : BitVec 8) (s : State),
     let k := s.core c
     let g := gate.toNat
     let p := s.physical (gateServer g)
     let kp := s.core p
     let i := Instr.xcall n c rd ra gate
     (canRun s c 1 → k.eq = [] → k.xcallOut = false → ∀ img, k.image = some img →
       ((img.imports.any fun x => x.gate.toNat == g) = true →
         (kp.exportOf g = none ∨ kp.alive = false → ∃ t, exec i s = .next t ∧ oneReg (s.at n) t c rd 3 (k.pc + 4))
         ∧ ∀ e, kp.exportOf g = some e → kp.alive = true →
           (4 ≤ (kp.gateReqs g).length → ∃ t, exec i s = .next t ∧ oneReg (s.at n) t c rd 2 (k.pc + 4))
           ∧ ((kp.gateReqs g).length < 4 → ∃ t dl, exec i s = .next t ∧ dl = (if k.reg ra = 0 then n + e.maxWait.toNat * 1000 else (k.reg ra).toNat)
             ∧ (t.core p).gateReqs g = kp.gateReqs g ++ [{ caller := s.logical c, args := [1, 2, 3, 4, 5, 6].map k.reg, stamp := n, deadline := dl }]
             ∧ (t.core c).run = .xcall ∧ (t.core c).xcallOut = true ∧ (t.core c).pc = k.pc ∧ (t.core c).regs = k.regs
             ∧ (t.core c).call = some { pc := k.pc, rd := rd, gate := g, stamp := n, deadline := dl, accepted := false, effecting := e.effecting, result := none }
             ∧ t.mem = s.mem ∧ t.objs = s.objs))
       ∧ ((img.imports.any fun x => x.gate.toNat == g) = false → k.inHandler = false → ∃ t, exec i s = .next t ∧ trapped (s.at n) t c 0x0B g 0))
     ∧ (canRun s c 1 → k.eq = [] → k.xcallOut = true → k.inHandler = false → ∃ t, exec i s = .next t ∧ trapped (s.at n) t c 0x0C g (crossWord 4 rd ra 0 g))
     ∧ ∀ x, k.run = .xcall → k.call = some x → k.fetchOk (x.pc + 4) = true →
       (∀ r1 r2 r3 r4, x.result = some [r1, r2, r3, r4] → ∃ t, exec (.xcallResult n c) s = .next t ∧ onlyCore (s.at n) t c
         ∧ (t.core c).call = none ∧ (t.core c).xcallOut = false ∧ (t.core c).run = .running ∧ (t.core c).pc = x.pc + 4 ∧ (t.core c).reg x.rd = 0
         ∧ ∀ q, q ≠ x.rd → (t.core c).reg q = if q = 1 then r1 else if q = 2 then r2 else if q = 3 then r3 else if q = 4 then r4 else k.reg q)
       ∧ (x.deadline + 40 ≤ n → x.result = none → (x.accepted && x.effecting) = false → ∃ t, exec (.xcallDeadline n c) s = .next t
         ∧ (t.core c).call = none ∧ (t.core c).xcallOut = false ∧ (t.core c).run = .running ∧ (t.core c).pc = x.pc + 4
         ∧ regsBut k (t.core c) x.rd ∧ (x.rd ≠ 0 → (t.core c).reg x.rd = if x.accepted then 4 else 1)
         ∧ (x.accepted = false → ∀ r ∈ (t.core (s.physical (gateServer x.gate))).gateReqs x.gate, ¬ (r.stamp = x.stamp ∧ r.caller = s.logical c)))
       ∧ (x.accepted = true → x.effecting = true → exec (.xcallDeadline n c) s = .next (s.at n)))
  ∧ (∀ (n : Nat) (c : Fin 6) (gate : BitVec 8) (s : State),
       let g := gate.toNat
       let p := s.physical (gateServer g)
       let kp := s.core p
       let k := s.core c
       (∀ r rest, kp.gateReqs g = r :: rest → kp.running = true → kp.serving = none → kp.ie = true → kp.inHandler = false → n ≤ r.deadline →
         ∃ t, exec (.xcallAccept n gate) s = .next t ∧ (t.core p).gateReqs g = rest ∧ (t.core p).serving = some (g, r) ∧ t.mem = s.mem
           ∧ ∀ q x, s.physical r.caller = q → (s.core q).call = some x → x.gate = g → x.stamp = r.stamp → (t.core q).call = some { x with accepted := true })
       ∧ (∀ g' r e, k.serving = some (g', r) → k.exportOf g' = some e → k.running = true → k.inGate = false → k.ie = true → k.inHandler = false →
         g' < 256 → r.caller < 5 → r.stamp < 2 ^ 64 →
         ∃ t, exec (.gateEntry n c) s = .next t ∧ onlyCoreMem (s.at n) t c ∧ (t.core c).pc = e.handler &&& ~~~3 ∧ (t.core c).inGate = true
           ∧ (t.core c).ie = false ∧ (t.core c).inHandler = true ∧ (t.core c).regs = k.regs ∧ Tab.get (t.core c).cw 1 0 = BitVec.ofNat 64 (g' * 256 + 0x11)
           ∧ Tab.get (t.core c).cw 3 0 = BitVec.ofNat 64 r.caller ∧ Tab.get (t.core c).cw 2 0 = (k.pc &&& ~~~(3 : Addr)).setWidth 64
           ∧ (∀ j, j < 6 → Memory.read t.mem (physAddr c (0x3FF00 + 8 * j)) 8 = (r.args.getD j 0).toNat)
           ∧ Memory.read t.mem (physAddr c 0x3FF30) 8 = r.caller ∧ Memory.read t.mem (physAddr c 0x3FF38) 8 = r.stamp
           ∧ ∀ j, j < physAddr c 0x3FF00 ∨ physAddr c 0x3FF40 ≤ j → Memory.get t.mem j = Memory.get s.mem j)
       ∧ (k.running = true → k.fetchOk k.pc = true → k.eq = [] →
         (∀ r, k.serving = some (g, r) → k.inGate = true → k.fetchOk ((Tab.get k.cw 2 0).setWidth 32 &&& 0xFFFFFFFC#32) = true →
           ∃ t, exec (.xret n c gate) s = .next t ∧ (t.core c).serving = none ∧ (t.core c).inGate = false
             ∧ (t.core c).pc = (Tab.get k.cw 2 0).setWidth 32 &&& 0xFFFFFFFC#32 ∧ t.mem = s.mem
             ∧ ∀ q x, s.physical r.caller = q → (s.core q).call = some x → x.gate = g → x.stamp = r.stamp →
               if x.effecting = false ∧ x.deadline < n then (t.core q).call = some x ∧ Tab.get (t.core q).rc 1 0 = min (Tab.get (s.core q).rc 1 0 + 1) (2 ^ 64 - 1)
               else (t.core q).call = some { x with result := some ([0, 1, 2, 3].map fun j => BitVec.ofNat 64 (Memory.read s.mem (physAddr c (0x3FF40 + 8 * j)) 8)) })
         ∧ (k.serving = none ∨ k.inGate = false → k.inHandler = false →
           ∃ t, exec (.xret n c gate) s = .next t ∧ trapped (s.at n) t c 0x0C g (crossWord 5 0 0 0 g))))

/-- On a core that runs with an empty effect queue WAITD with a deadline not passed begins to wait, HALT stops the clock. WAITD ends with
the earliest wake event stamped at or before its deadline, reason 1 for an interrupt and 2 for a channel, cw23 its stamp; with none it
ends with reason 0 and cw23 the deadline once that and 40 ns have passed, and one whose deadline has passed ends at once by the same
rule. HALT ends with a wake event, any source of the core that is pending or latched among them, cw23 its stamp, no register
changed; where delivery is enabled and one source has the priority, its interrupt is taken before the next instruction. Taking the interrupt where both stamps are equal is the model's
choice (notes/assumptions/14.md). On a core that runs with an empty effect queue DARM sets cw8 to ra and arms the deadline; DDIS
disarms it and gives 1 where site time is past an armed deadline or it had expired, else 0. An armed deadline passed by 40 ns is taken
with code 0x0A at cw4, eval cw8, cw2 the next instruction, while delivery is enabled and its priority is above run_pri and no source
beats it; else it is marked expired and stays pending. That taking it disarms it is the model's choice (notes/assumptions/14.md). -/
def Obligations.WaitAndDeadlineRule : Prop :=
(∀ (n : Nat) (c : Fin 6) (rd ra : Fin 32) (s : State),
     let k := s.core c
     (canRun s c 1 → k.eq = [] →
       (n ≤ (k.reg ra).toNat → exec (.waitd n c rd ra) s = .next ((s.at n).setCore c { k with run := .waitd rd (k.reg ra).toNat }))
       ∧ exec (.halt n c) s = .next ((s.at n).setCore c { k with run := .halted }))
     ∧ (∀ dl : Nat, (k.run = .waitd rd dl ∧ k.fetchOk (k.pc + 4) = true) ∨ (canRun s c 1 ∧ k.eq = [] ∧ (k.reg ra).toNat = dl ∧ dl < n) →
       let i := if k.run = .running then Instr.waitd n c rd ra else .waitdReturn n c
       let irqs := (s.irqStamps c).filter (· ≤ dl)
       let msgs := k.chanStamps.filter (· ≤ dl)
       (irqs = [] → msgs = [] → dl + 40 ≤ n ∨ k.run = .running → ∃ t, exec i s = .next t ∧ oneRegCw (s.at n) t c rd 0 (k.pc + 4) [23]
         ∧ Tab.get (t.core c).cw 23 0 = BitVec.ofNat 64 dl)
       ∧ (irqs = [] → msgs = [] → n < dl + 40 → k.run ≠ .running → exec i s = .next (s.at n))
       ∧ (∀ st, st ∈ irqs ++ msgs → (∀ x ∈ irqs ++ msgs, st ≤ x) → ∃ t, exec i s = .next t
         ∧ oneRegCw (s.at n) t c rd (if st ∈ irqs then 1 else 2) (k.pc + 4) [23] ∧ Tab.get (t.core c).cw 23 0 = BitVec.ofNat 64 st))
     ∧ (k.run = .halted → k.fetchOk (k.pc + 4) = true → (k.armed = false ∨ n < k.deadline + 40) →
       let all := s.haltStamps c ++ k.chanStamps
       let src (x : Nat) : Prop := x < 0xA0 ∧ (s.flag irqPending x = true ∨ s.flag irqLatched x = true) ∧ (s.get irqTargets x).testBit (s.logical c) = true
       (all = [] → exec (.haltWake n c) s = .next (s.at n))
       ∧ (∀ x, src x → s.get irqFirstStamp x ∈ all)
       ∧ ∀ st, st ∈ all → (∀ x ∈ all, st ≤ x) →
         (k.ie = false ∨ k.inHandler = true → ∃ t, exec (.haltWake n c) s = .next t ∧ oneRegCw { s.at n with objs := t.objs } t c 0 0 (k.pc + 4) [23]
           ∧ Tab.get (t.core c).cw 23 0 = BitVec.ofNat 64 st)
         ∧ (k.ie = true → k.inHandler = false → (∀ d, d ≠ (c : Nat) → (s.core d).alive = false) → k.expired = false →
             ∀ x, src x → k.runPri < s.get irqPri x → (∀ y, src y → y = x) →
             ∃ t, exec (.haltWake n c) s = .next t ∧ (t.core c).run = .running ∧ (t.core c).pc = k.vbase + 0x100
               ∧ Tab.get (t.core c).cw 1 0 = BitVec.ofNat 64 (x * 256 + 0x10) ∧ Tab.get (t.core c).cw 2 0 = ((k.pc + 4) &&& ~~~3).setWidth 64
               ∧ (t.core c).regs = k.regs ∧ Tab.get (t.core c).cw 23 0 = BitVec.ofNat 64 st ∧ t.flag irqLatched x = false)))
  ∧ (∀ (n : Nat) (c : Fin 6) (rd ra : Fin 32) (s : State),
       let k := s.core c
       (canRun s c 1 → k.eq = [] →
         (∃ t, exec (.darm n c ra) s = .next t ∧ oneRegCw (s.at n) t c 0 0 (k.pc + 4) [8, 9] ∧ Tab.get (t.core c).cw 8 0 = k.reg ra
           ∧ (t.core c).armed = true ∧ (t.core c).expired = false ∧ (t.core c).dpri = k.dpri)
         ∧ ∃ t, exec (.ddis n c rd) s = .next t ∧ oneRegCw (s.at n) t c rd (if (k.armed ∧ k.deadline < n) ∨ k.expired then 1 else 0) (k.pc + 4) [9]
           ∧ (t.core c).armed = false ∧ (t.core c).expired = false ∧ (t.core c).dpri = k.dpri)
       ∧ (k.armed = true → k.deadline + 40 ≤ n → k.running = true →
         (k.ie = true → k.inHandler = false → k.runPri < k.dpri → (∀ src, s.flag irqPending src = false) → ∃ t, exec (.deadlineInterrupt n c) s = .next t
           ∧ onlyCore (s.at n) t c ∧ (t.core c).lastIrq = n ∧ (t.core c).pc = k.vbase ∧ (t.core c).ie = false ∧ (t.core c).inHandler = true ∧ (t.core c).regs = k.regs
           ∧ Tab.get (t.core c).cw 1 0 = 0x0A ∧ Tab.get (t.core c).cw 2 0 = (k.pc &&& ~~~(3 : Addr)).setWidth 64
           ∧ Tab.get (t.core c).cw 3 0 = BitVec.ofNat 64 k.deadline ∧ (t.core c).armed = false)
         ∧ (k.ie = false ∨ k.inHandler = true → ∃ t, exec (.deadlineInterrupt n c) s = .next t ∧ onlyCore (s.at n) t c
           ∧ t.core c = { k with cw := (t.core c).cw } ∧ (t.core c).armed = true ∧ (t.core c).expired = true)))

/-- An edge at an edge source below 0xA0 sets pending with its stamp, or where it is pending already counts (a counting source) or coalesces,
and sets the latch where some target's clock is stopped; while every live target's clock is stopped the latch alone holds it, with the
first edge's stamp. At a level source an edge does nothing, and from 0xA0 on nothing happens. A level source is pending while asserted. A core offered a source enters
with code 0x10 at cw4 + 0x100, cw1.source the source, eval its count for a counting source, delivered one more; pending is cleared
unless the source is level. On a core that runs: GDIS puts ie in rd and clears it, GEN sets it, SETPRI writes run_pri from ra[3:0],
each leaving the rest of cw0 and of the core as it was; RETI goes to cw2 with cw0[8:3] := cw5, resuming the wait where that is the
XCALL that is out. -/
def Obligations.RoundaboutAndInterruptRule : Prop :=
(∀ (n : Nat) (c : Fin 6) (src : BitVec 8) (s : State),
     let x := src.toNat
     (0xA0 ≤ x → exec (.roundaboutEdge n src) s = .next (s.at n) ∧ ∀ b, exec (.levelSourceChange n src b) s = .next (s.at n))
     ∧ (x < 0xA0 → s.flag irqLevel x = true → exec (.roundaboutEdge n src) s = .next (s.at n))
     ∧ (x < 0xA0 → s.flag irqLevel x = false → s.targetHalted x = true → s.targetAwake x = false → s.flag irqPending x = false →
         ∃ t, exec (.roundaboutEdge n src) s = .next t ∧ t = { s.at n with objs := t.objs } ∧ t.flag irqLatched x = true ∧ t.flag irqPending x = false
         ∧ (s.flag irqLatched x = false → t.get irqFirstStamp x = n % 2 ^ 64)
         ∧ (s.flag irqCountEn x = false → s.flag irqLatched x = true → t.get irqFirstStamp x = s.get irqFirstStamp x
             ∧ t.get irqCoalesced x = min (s.get irqCoalesced x + 1) (2 ^ irqCoalesced.width - 1)))
     ∧ (x < 0xA0 → s.flag irqLevel x = false → s.targetHalted x = false ∨ s.targetAwake x = true ∨ s.flag irqPending x = true → ∃ t, exec (.roundaboutEdge n src) s = .next t ∧ t = { s.at n with objs := t.objs }
         ∧ t.flag irqPending x = true ∧ (s.targetHalted x = true → t.flag irqLatched x = true) ∧ (s.flag irqPending x = false → t.get irqFirstStamp x = n % 2 ^ 64)
         ∧ (s.flag irqCountEn x = true → t.get irqCount x = min (s.get irqCount x + 1) (2 ^ irqCount.width - 1))
         ∧ (s.flag irqCountEn x = false → s.flag irqPending x = true → t.get irqCoalesced x = min (s.get irqCoalesced x + 1) (2 ^ irqCoalesced.width - 1)))
     ∧ (x < 0xA0 → s.flag irqLevel x = true →
         (∃ t, exec (.levelSourceChange n src true) s = .next t ∧ t = { s.at n with objs := t.objs } ∧ t.flag irqPending x = true)
         ∧ ∃ t, exec (.levelSourceChange n src false) s = .next t ∧ t = { s.at n with objs := t.objs } ∧ t.flag irqPending x = false)
     ∧ ((s.core c).running = true → (s.at n).nextSource c = some x → x < 0xA0 → (s.core c).deadlineReady = false →
         ∃ t, exec (.interruptEntry n c) s = .next t ∧ (t.core c).lastIrq = n
           ∧ entered (s.core c) { t.core c with lastIrq := (s.core c).lastIrq } 0x10 x
               (BitVec.ofNat 64 (if s.flag irqCountEn x then s.get irqCount x else 0)) (s.core c).pc ((s.core c).vbase + 0x100)
           ∧ t.get irqDelivered x = min (s.get irqDelivered x + 1) (2 ^ irqDelivered.width - 1)
           ∧ t.flag irqPending x = (s.flag irqPending x && s.flag irqLevel x) ∧ (s.flag irqLevel x = false → t.flag irqLatched x = false) ∧ t.mem = s.mem))
  ∧ (∀ (c : Fin 6) (rd ra : Fin 32) (s : State), (s.core c).running = true → (s.core c).fetchOk (s.core c).pc = true →
       let k := s.core c
       let bit (k' : Core) (i : Nat) : Bool := (Tab.get k'.cw 0 0).getLsbD i
       (canRun s c 1 →
         (∃ t, exec (.gdis c rd) s = .next t ∧ oneRegCw s t c rd (if k.ie then 1 else 0) (k.pc + 4) [0] ∧ ∀ i, bit (t.core c) i = (bit k i && i != 8))
         ∧ (∃ t, exec (.gen c) s = .next t ∧ oneRegCw s t c 0 0 (k.pc + 4) [0] ∧ ∀ i, bit (t.core c) i = (bit k i || i == 8))
         ∧ ∃ t, exec (.setpri c ra) s = .next t ∧ oneRegCw s t c 0 0 (k.pc + 4) [0]
             ∧ ∀ i, bit (t.core c) i = if 4 ≤ i ∧ i < 8 then (k.reg ra).getLsbD (i - 4) else bit k i)
       ∧ (k.fetchOk ((Tab.get k.cw 2 0).setWidth 32 &&& ~~~3) = true →
         let pc : Addr := (Tab.get k.cw 2 0).setWidth 32 &&& ~~~3
         ∃ t, exec (.reti c) s = .next t ∧ onlyCore s t c ∧ (t.core c).pc = pc ∧ (t.core c).regs = k.regs ∧ (t.core c).accs = k.accs
           ∧ (∀ i, bit (t.core c) i = if 3 ≤ i ∧ i < 9 then (Tab.get k.cw 5 0).getLsbD (i - 3) else bit k i)
           ∧ (∀ m d, m ≠ 0 → m ≠ 16 → Tab.get (t.core c).cw m d = Tab.get k.cw m d)
           ∧ (t.core c).run = if (k.call.any fun x => decide (x.pc = pc)) then .xcall else .running))

/-- On a core that runs: CWR puts cw[n] in rd: the epoch words from the Kerb, cw19's depth and cw20 from the queues, cw15 a count that only grows, by
a free number (notes/assumptions/11.md), the
others as stored. CWW puts the old word in rd and writes from ra the bits Table 2-1 makes RW, keeping the rest; a word with none raises
privileged with its index. An index outside Table 2-1 raises illegal instruction. RDST puts site time in rd; FENCE only moves on. -/
def Obligations.ControlWordRule : Prop :=
∀ (n : Nat) (c : Fin 6) (rd ra : Fin 32) (i : BitVec 8) (s : State), canRun s c 1 →
    let k := s.core c
    let m := i.toNat
    (m ≤ 23 → ∃ t v, exec (.cwr c rd i) s = .next t ∧ oneReg (if m = 15 then { s with free := s.free + 1 }.setCore c { k with cycles := k.cycles + Config.freeValue s.free } else s) t c rd v (k.pc + 4)
        ∧ (m = 10 → v = BitVec.ofNat 64 s.kerb.cur) ∧ (m = 11 → v = BitVec.ofNat 64 s.kerb.t0) ∧ (m = 12 → v = BitVec.ofNat 64 s.kerb.len)
        ∧ (m = 15 → v = BitVec.ofNat 64 (t.core c).cycles ∧ k.cycles ≤ (t.core c).cycles) ∧ (m = 19 → k.eq.length < 2 ^ 32 → v.setWidth 32 = BitVec.ofNat 32 k.eq.length)
        ∧ (m = 20 → ∀ ch, ch < 64 → v.getLsbD ch = !(k.queue ch).isEmpty) ∧ (m ∉ [10, 11, 12, 15, 18, 19, 20] → v = Tab.get k.cw m (cwReset c m)))
    ∧ (∀ w : Word, (m, w) ∈ ([(0, 0x1F8), (2, 0xFFFFFFFC), (4, 0xFFFFFF00), (5, 0x3F), (6, BitVec.allOnes 64), (7, BitVec.allOnes 64), (9, 0xF),
          (17, 0x1F), (21, BitVec.allOnes 64)] : List (Nat × Word)) →
        ∃ t, exec (.cww c rd ra i) s = .next t ∧ oneRegCw s t c rd (Tab.get k.cw m (cwReset c m)) (k.pc + 4) [m]
          ∧ ∀ d, Tab.get (t.core c).cw m d = (Tab.get k.cw m (cwReset c m) &&& ~~~w) ||| (k.reg ra &&& w))
    ∧ (k.inHandler = false →
        (m ∈ [1, 3, 8, 10, 11, 12, 13, 14, 15, 16, 18, 19, 20, 22, 23] → ∃ t, exec (.cww c rd ra i) s = .next t ∧ trapped s t c 0x07 m (regWord 0x34 rd ra 0 (512 + m)))
        ∧ (23 < m → (∃ t, exec (.cww c rd ra i) s = .next t ∧ trapped s t c 0x01 0 (regWord 0x34 rd ra 0 (512 + m)))
          ∧ ∃ t, exec (.cwr c rd i) s = .next t ∧ trapped s t c 0x01 0 (regWord 0x34 rd 0 0 (256 + m))))
    ∧ (∃ t, exec (.rdst n c rd) s = .next t ∧ oneReg (s.at n) t c rd (BitVec.ofNat 64 n) (k.pc + 4))
    ∧ ∃ t, exec (.fence c) s = .next t ∧ pcOnly s t c false (k.pc + 4)

/-- Starting sets t0 to the least multiple of the epoch length at or after the start, no epoch begun. At t0 of the next epoch the number
rises by one modulo 2^32, t0 by the length of the epoch that ends, the length becomes the configured one, the old record is ended and
the new one, already held, in progress. At t0 + 20 µs, once, each entry of the record that no retraction deleted comes into force with its
bounds, the battery's power likewise, each deleted one gives the previous values limited by its cap; an override set at or before the
record's commit is released. The window refresh rewrites the window's 256 bytes and no other byte,
with n at +0x08. -/
def Obligations.KerbBoundaryRule : Prop :=
∀ (n : Nat) (s : State), n < 2 ^ 64 →
    let k := s.kerb
    (k.started = false → 0 < s.newLen → ∃ t, exec (.kerbStart n) s = .next t ∧ t = { s.at n with kerb := t.kerb } ∧ t.kerb.started = true
      ∧ t.kerb.begun = false ∧ t.kerb.cur = 0 ∧ t.kerb.len = s.newLen ∧ t.kerb.t0 % s.newLen = 0 ∧ n ≤ t.kerb.t0 ∧ t.kerb.t0 < n + s.newLen)
    ∧ (k.started = true → k.begun = true → k.t0 + k.len ≤ n → k.cur < 2 ^ 32 → ∀ r, s.epoch ((k.cur + 1) % 2 ^ 32) = some r →
        ∃ t, exec (.epochStart n) s = .next t ∧ t.kerb.cur = (k.cur + 1) % 2 ^ 32 ∧ t.kerb.t0 = k.t0 + k.len ∧ t.kerb.len = s.newLen
          ∧ t.epoch t.kerb.cur = some { r with state := 2 } ∧ (∀ q ∈ t.kerb.props, q.epoch ≠ k.cur)
          ∧ (∀ old, s.epoch k.cur = some old → t.epoch k.cur = some { old with state := 3 }))
    ∧ (k.begun = true → k.t0 + 20000 ≤ n → k.activated ≠ k.cur + 1 → ∀ r, s.epoch k.cur = some r →
        ∃ t, exec (.activationInstant n) s = .next t ∧ t.kerb.activated = k.cur + 1 ∧ (12 ∉ r.gone → t.kerb.forceBat = r.pBat)
          ∧ (∀ o, o < 12 → o ∉ r.gone → t.kerb.force.getD o Force.zero = (entryOf r.outs o).force)
          ∧ (∀ o c, o < 12 → o ∈ r.gone → s.capOf o k.cur = some c → t.kerb.force.getD o Force.zero = c.limit (k.force.getD o Force.zero))
          ∧ (∀ v, k.override = some v → t.kerb.override = if v.stamp ≤ r.stamp then none else some v))
    ∧ (k.begun = true → k.activated = k.cur + 1 → exec (.activationInstant n) s = .next (s.at n))
    ∧ ∃ t, exec (.vNowRefresh n) s = .next t ∧ t = { s.at n with mem := t.mem, kerb := { k with seq := k.seq + 2 } }
        ∧ Memory.read t.mem 0x6000E008 8 = n ∧ Memory.read t.mem 0x6000E010 4 = k.cur % 2 ^ 32
        ∧ ∀ a, a < 0x6000E000 ∨ 0x6000E100 ≤ a → Memory.get t.mem a = Memory.get s.mem a

/-- On an open core that runs with an empty effect queue and the object aligned and whole in data SRAM, EPROP gives 1 outside the window or
past the closing point, 2 for a malformed object, 3 with 64 held, and else queues the proposal, re-clamps and gives 0. ERETR gives 1
outside the window and else takes out this core's proposals from that epoch to the window's end that have not closed. In another kind
of image both raise illegal instruction. EQRY gives the record's word, or all ones for an epoch not retained or a word beyond 53. The
standing proposal is the latest, at equal stamps the lower core's. -/
def Obligations.ProposalRule : Prop :=
∀ (n : Nat) (c : Fin 6) (rd ra rb : Fin 32) (s : State), canRun s c 1 →
    let k := s.core c
    let e := (k.reg ra).toNat % 2 ^ 32
    let a := (k.reg rb).toNat
    let d := s.ahead e
    let i := Instr.eprop n c rd ra rb
    let q := parseProposal (Memory.read s.mem (physAddr c a) 416) e (s.logical c) n
    let late := s.kerb.begun = false ∨ d = 0 ∨ 8 < d
    (k.eq = [] → k.kind = 0 → a % 8 = 0 → 0x20000 ≤ a → a + 415 ≤ 0x3FFFF →
      (late ∨ s.t0Ahead d < n + 1000000 → ∃ t, exec i s = .next t ∧ oneReg (s.at n) t c rd 1 (k.pc + 4))
      ∧ (¬ late → n + 1000000 ≤ s.t0Ahead d →
        (s.malformed (Memory.read s.mem (physAddr c a) 416) q = true → ∃ t, exec i s = .next t ∧ oneReg (s.at n) t c rd 2 (k.pc + 4))
        ∧ (s.malformed (Memory.read s.mem (physAddr c a) 416) q = false →
          (64 ≤ s.kerb.props.length → ∃ t, exec i s = .next t ∧ oneReg (s.at n) t c rd 3 (k.pc + 4))
          ∧ (s.kerb.props.length < 64 → ∃ t u : State, exec i s = .next t ∧ u.kerb.props = s.kerb.props ++ [q] ∧ u = { s.at n with kerb := u.kerb }
              ∧ (∀ o, o < 12 → q.mask.testBit o = true → Tab.get u.kerb.stale o true = false ∧ Tab.get u.kerb.carries o 1 = 0)
              ∧ let v := u.reclamp (some d) [] n
                t = v.retire c ((v.core c).setReg rd 0) (k.pc + 4)))))
    ∧ (k.eq = [] → k.kind = 0 →
      (late → ∃ t, exec (.eretr n c rd ra) s = .next t ∧ oneReg (s.at n) t c rd 1 (k.pc + 4))
      ∧ (¬ late → ∃ t u : State, exec (.eretr n c rd ra) s = .next t ∧ u = { s.at n with kerb := { s.kerb with props := u.kerb.props } }
          ∧ u.kerb.props = s.kerb.props.filter (fun p => !(p.core == s.logical c && decide (d ≤ s.ahead p.epoch) && decide (s.ahead p.epoch ≤ 8)
              && decide (n + 1000000 ≤ s.t0Ahead (s.ahead p.epoch))))
          ∧ let v := if u.kerb.props.length = s.kerb.props.length then u else u.reclamp none [] n
            t = v.retire c ((v.core c).setReg rd 0) (k.pc + 4)))
    ∧ (k.eq = [] → k.kind ≠ 0 → k.inHandler = false → (∃ t, exec i s = .next t ∧ trapped (s.at n) t c 0x01 0 (regWord 0x31 rd ra rb 0x100))
        ∧ ∃ t, exec (.eretr n c rd ra) s = .next t ∧ trapped (s.at n) t c 0x01 0 (regWord 0x31 rd ra 0 0x200))
    ∧ (∃ t v, exec (.eqry c rd ra rb) s = .next t ∧ oneReg s t c rd v (k.pc + 4)
        ∧ (s.kerb.begun = false ∨ s.epoch e = none ∨ 53 < a ∨ (8 < d ∧ d < 2 ^ 32 - 7) → v = BitVec.allOnes 64)
        ∧ ∀ r, s.epoch e = some r → s.kerb.begun = true → (d ≤ 8 ∨ 2 ^ 32 - 7 ≤ d) →
          (a = 0 → v = BitVec.ofNat 64 (r.num % 2 ^ 32 + r.state % 256 * 2 ^ 32 + r.retractions % 256 * 2 ^ 40)) ∧ (a = 1 → v = BitVec.ofNat 64 r.t0))
    ∧ ∀ (p : Proposal → Bool) b, s.standing e p = some b → b ∈ s.kerb.props ∧ b.epoch = e ∧ p b = true
        ∧ ∀ x ∈ s.kerb.props, x.epoch = e → p x = true → x.stamp < b.stamp ∨ (x.stamp = b.stamp ∧ b.core ≤ x.core)

/-- A closing point acts on the earliest epoch of the window that is not closed and whose t0 lies within 1 ms; with none due, or before the
first epoch, nothing happens. An input change before the first epoch only shows the limits anew; afterwards every unbegun epoch is re-clamped.
With the host side absent for 60 s avail takes the value of avail_fallback. The fast path's row acts only where
availability lies below the epoch's import or rectifier capacity below its bus demand, a feeder trip always; then the values in force, shed
to the new limit with the battery assisting, become the override stamped with the trigger, and every unbegun epoch is re-clamped, with caps
of what was shed. -/
def Obligations.ClosingAndFastPathRule : Prop :=
∀ (n : Nat) (s : State),
    (s.kerb.begun = false → exec (.closingPoint n) s = .next (s.at n) ∧ exec (.inputChangeReclamp n) s = .next ((s.at n).showLimits n))
    ∧ (s.kerb.begun = true → (∀ d, 1 ≤ d → d ≤ 8 → ((s.epoch (s.epochNo d)).any (·.closed)) = true ∨ n + 1000000 < s.t0Ahead d) →
        exec (.closingPoint n) s = .next (s.at n))
    ∧ (∀ d, s.kerb.begun = true → 1 ≤ d → d ≤ 8 → ((s.epoch (s.epochNo d)).any (·.closed)) = false → s.t0Ahead d ≤ n + 1000000 →
        (∀ j, 1 ≤ j → j < d → ((s.epoch (s.epochNo j)).any (·.closed)) = true ∨ n + 1000000 < s.t0Ahead j) →
        exec (.closingPoint n) s = .next ((s.at n).closeEpoch d n))
    ∧ (s.kerb.begun = true → exec (.inputChangeReclamp n) s = .next ((s.at n).reclamp none [] n))
    ∧ (s.cway.hostAbsent = true → s.cway.hostAbsentSince + 60000000000 ≤ n → ∃ t, exec (.availFallback n) s = .next t
        ∧ t.get allocSiteAvail 0 = s.get allocSiteAvailFallback 0 % 2 ^ 32 ∧ t.mem = s.mem ∧ t.cores = s.cores)
    ∧ (s.cway.hostAbsent = false ∨ n < s.cway.hostAbsentSince + 60000000000 → exec (.availFallback n) s = .next (s.at n))
    ∧ (s.fastDue = false → exec (.fastPathEngage n) s = .next (s.at n))
    ∧ (s.fastDue = true → exec (.fastPathEngage n) s = .next ((s.at n).engage n)) ∧ (s.kerb.begun = true → s.fastTrip n = s.engage n)
    ∧ (
        let lims := ((s.epoch s.kerb.cur).getD Epoch.zero).rectLim
        let o := s.shed 12 true (s.num battSummaryDisLim 0) s.forceEntries s.batInForce (s.busInForce - s.bMax lims)
        o.2.2 ≤ 0 → ∃ t u : State, s.engage n = t ∧ t = ((u.reclamp none (s.fastCaps s.forceEntries o.1 s.batInForce o.2.1 n) n).writeWindow n).writeLimits
          ∧ u.kerb.override = some { outs := o.1.map fun e => e.force, pBat := o.2.1, stamp := n })

/-- For every state, preceding epoch, length and set of asked entries with priorities of 0–7: what the clamp order C1–C15 makes of them,
less the pre-transfer steps it ends, has a bus demand of at most B_max, B_max being computed with the inputs of that state, and imports
at most the larger of L and the auxiliary budget. -/
def Obligations.EpochWithinBusLimit : Prop :=
∀ (s : State) (prev : Epoch) (len : Nat) (a : Asked) (e : Epoch), (∀ o, o < 12 → (entryOf a.outs o).prio ≤ 7) →
    let r := (s.clampEpoch prev len a e).1
    r.bus ≤ s.bMax a.rectLim ∧ r.bMax = s.bMax a.rectLim ∧ r.importW ≤ max s.lEff (s.num allocSiteAuxBudget 0)

/-- For every state and asked epoch, each outlet's committed entry obeys C3–C8: i_max and −i_min within rating, phase share, cable derate,
the vehicle's maxima and the contract, i_max at most the preceding i_max plus the ramp, v_max and p_max within theirs. An outlet not
permitted by the safety channels or not in Transfer is committed with i_max and p_max at most 0 and i_min at least 0. The vbus
reference lies at or below vbus_max. -/
def Obligations.OutletClampRule : Prop :=
∀ (s : State) (prev : Epoch) (len : Nat) (a : Asked) (e : Epoch) (o : Nat), o < 12 →
    let r := (s.clampEpoch prev len a e).1
    let x := entryOf r.outs o
    let p := s.page o
    let phases := s.num ctlStateNAvail o * s.num allocOutletIPhase o / 16
    x.iMax ≤ s.num allocOutletIRated o ∧ -x.iMin ≤ s.num allocOutletIRetRated o ∧ x.vMax ≤ s.num allocOutletVRated o ∧ x.pMax ≤ s.num allocOutletPRated o
      ∧ x.iMax ≤ phases ∧ -x.iMin ≤ phases ∧ x.iMax ≤ s.num coolStateIDer o ∧ -x.iMin ≤ s.num coolStateIDer o
      ∧ x.iMax ≤ p.iEvMax ∧ x.vMax ≤ p.vEvMax ∧ x.pMax ≤ p.pEvMax ∧ -x.iMin ≤ p.iEvDis
      ∧ (s.get allocContractPCeil o ≠ 0 → x.pMax ≤ s.num allocContractPCeil o)
      ∧ (s.get allocContractICeil o ≠ 0 → x.iMax ≤ s.num allocContractICeil o ∧ -x.iMin ≤ s.num allocContractICeil o)
      ∧ x.iMax ≤ (entryOf prev.outs o).iMax + s.num allocOutletRamp o ∧ (entryOf prev.outs o).iMin - s.num allocOutletRamp o ≤ x.iMin
      ∧ (s.bit safetyStatePermit 0 o = false ∨ s.inTransfer o = false → x.iMax ≤ 0 ∧ 0 ≤ x.iMin ∧ x.pMax ≤ 0)
      ∧ r.vbus ≤ s.num allocConfigVbusMax 0

/-- No injection acts on the units of a medium and target in a direction (0 received, 1 sent) at `n` (spec/18 R473). -/
def untouched (s : State) (medium target dir n : Nat) : Prop := ∀ j, s.slotActs j medium target dir n = false

/-- Direction `d` with one message more, wherever its class places it. -/
def queuedIn (d d' : CwDir) (m : CwMsg) : Prop :=
  ∃ pre post, d.kept.map (fun z => CwMsg.body z.msg) = pre ++ post ∧ d'.kept.map (fun z => CwMsg.body z.msg) = pre ++ m :: post

/-- With the link up and the block intact: a message of a known type whose lseq is the one expected is delivered (the next number is
expected) and LACK names it; another is not delivered and is answered by LNAK of the expected number, an old one by LACK of the last.
An unknown type or a length above 256 counts as an uncorrectable block whatever the decoder corrected and is not delivered. LACK releases every message up to the one
it names; LNAK sends the window again from the one named and changes no message; 20 µs after the last byte of the oldest without its
acknowledgement the whole window is sent again. A message that an injection drops changes nothing, one it corrupts beyond repair is
answered by LNAK and does not count towards R17. A BULK chunk in order is joined to the transfer, any other changes nothing. -/
def Obligations.CausewayDeliveryRule : Prop :=
∀ (n : Nat) (side : Side) (link : Fin 2) (msg : CwMsg) (s : State), s.cway.down = false →
    let src := otherSide side
    let d := s.dir src
    let k := s.dir side
    let i := Instr.causewayMessageReceived n side link msg .clean
    let x := msg.ctype.toNat
    let ok := 1 ≤ x ∧ x ≤ 0x0C ∧ msg.plen.toNat ≤ 256 ∧ x ≠ 0x0A ∧ x ≠ 0x0B ∧ x ≠ 0x0C
    let ans (t : State) (c m : Nat) : Prop := t.out = .causeway side s.cway.link c 0 false m :: s.out
    let quiet := untouched s 3 link 0 n
    let a := (s.at n).linkUnit side link msg.lseq.toNat n
    (quiet → ok → msg.lseq.toNat = d.expected → ∃ t, exec i s = .next t ∧ (t.dir src).expected = (d.expected + 1) % 256 ∧ (t.dir src).delivered = d.delivered + 1
        ∧ (t.dir src).kept = d.kept ∧ t.dir side = k ∧ ans t 0x0A msg.lseq.toNat ∧ t.objs = s.objs ∧ t.mem = s.mem)
    ∧ (quiet → ok → msg.lseq.toNat ≠ d.expected → ∃ t, exec i s = .next t ∧ t.dir src = d ∧ t.objs = s.objs
        ∧ ((d.expected + 256 - msg.lseq.toNat) % 256 ≤ 128 → ans t 0x0A ((d.expected + 255) % 256))
        ∧ (128 < (d.expected + 256 - msg.lseq.toNat) % 256 → ans t 0x0B d.expected))
    ∧ (∀ j, a.1 = some j → s.get injectAction j = 1 → ∃ t, exec i s = .next t ∧ t.dir src = d ∧ t.out = s.out)
    ∧ (∀ j, a.1 = some j → s.get injectAction j ≠ 1 → 2 < s.get injectBytes j → ok → ∃ t, exec i s = .next t ∧ t.dir src = d ∧ ans t 0x0B d.expected ∧ t.cway.uncorr = s.cway.uncorr)
    ∧ (quiet → x = 0 ∨ 0x0C < x ∨ 256 < msg.plen.toNat → x ≠ 0x0A → x ≠ 0x0B → x ≠ 0x0C → ∀ b, BlockResult.lost b = false →
        ∃ t, exec (.causewayMessageReceived n side link msg b) s = .next t ∧ t.dir src = d ∧ ans t 0x0B d.expected
        ∧ t.get eccUncorr (17 + link) = min (s.get eccUncorr (17 + link) + 1) (2 ^ eccUncorr.width - 1))
    ∧ (∀ (upto : BitVec 8) (j : Nat), (k.kept.findIdx? fun q => q.msg.lseq.toNat == upto.toNat && q.sent) = some j → s.cway.resetAsk = none →
        ∃ t, exec (.lack n side upto) s = .next t ∧ (t.dir side).kept.map (fun z => CwMsg.body z.msg) = (k.kept.drop (j + 1)).map (fun z => CwMsg.body z.msg)
          ∧ ∀ q ∈ (t.dir side).kept.take 16, q.sent = true)
    ∧ (let again (j m : Nat) (r : Kept) (t : State) : Prop := ∃ q, (t.dir side).kept[m]? = some q ∧ CwMsg.body q.msg = CwMsg.body r.msg
          ∧ (r.sent = true → q.msg = r.msg) ∧ q.sends = (if j ≤ m ∧ m < 16 then r.sends + 1 else r.sends) ∧ (j ≤ m → m < 16 → q.sent = true)
      (∀ named : BitVec 8, ∃ t, exec (.lnak n side named) s = .next t ∧ (t.dir side).kept.map (fun z => CwMsg.body z.msg) = k.kept.map (fun z => CwMsg.body z.msg)
        ∧ (∀ j q, k.kept[j]? = some q → j < 16 → q.sent = true → q.msg.lseq = named →
            (∀ m r, k.kept[m]? = some r → m < j → r.sent = true → r.msg.lseq ≠ named) →
            (∀ m r, k.kept[m]? = some r → again j m r t) ∧ t.out.length = s.out.length + (min 16 k.kept.length - j)))
      ∧ (∀ q rest, k.kept = q :: rest → q.sent = true → q.lastAt + 20000 ≤ n → ∃ t, exec (.lackTimeout n side) s = .next t
        ∧ (∀ m r, k.kept[m]? = some r → again 0 m r t) ∧ t.out.length = s.out.length + min 16 k.kept.length))
    ∧ ∀ (num chunk : Nat) (last : Bool) (data : Payload),
        let key := 2 * num + (if side = .host then 0 else 1)
        let b := if chunk = 0 then (0, 0, (⟨0, 0⟩ : Payload)) else Tab.get s.cway.bulk key (0, 0, ⟨0, 0⟩)
        (chunk = b.1 → b.2.1 ≠ 1 → data.len ≤ 256 → ∃ t p, exec (.bulk n side num chunk last data) s = .next t
            ∧ t = { s.at n with cway := { s.cway with bulk := Tab.set s.cway.bulk key (chunk + 1, if last then 1 else 0, p) } }
            ∧ p.len = b.2.2.len + data.len ∧ p.data = b.2.2.data + data.data % 2 ^ (8 * data.len) * 2 ^ (8 * b.2.2.len))
        ∧ (chunk ≠ b.1 → exec (.bulk n side num chunk last data) s = .next (s.at n))

/-- With link A in service, a message sent three times without acknowledgement, more than 16 lost blocks in 1 s, or a lost bit lock takes
it out of service for good: link B serves and its exhausted bit is set. The same on link B takes it down: both sides are absent and it
retrains 100 µs later, again 10 ms after each try without lock. STATUS ends the other side's absence; 10 ms without it, or PFAIL,
begins it. A side that is up sends STATUS as a class-1 message with the mode and the spare counts. -/
def Obligations.CausewayLossRule : Prop :=
∀ (n : Nat) (s : State),
    (∀ tr, (s.at n).cwTrigger n = some tr →
      (s.cway.link = 0 → ∃ t, exec (.linkSwitchover n) s = .next t ∧ t.cway.link = 1 ∧ t.cway.retiredAt = n ∧ t.bit sparesExhausted 0 2 = true)
      ∧ (s.cway.link = 1 → s.cway.down = false → ∃ t, exec (.linkBDown n) s = .next t ∧ t.cway.down = true ∧ t.cway.retrainAt = n + 100000
          ∧ t.cway.hostAbsent = true ∧ t.cway.fieldAbsent = true))
    ∧ ((s.at n).cwTrigger n = none → exec (.linkSwitchover n) s = .next (s.at n) ∧ exec (.linkBDown n) s = .next (s.at n))
    ∧ (s.cway.link = 0 → ∃ t, exec (.bitLockLoss n 0) s = .next t ∧ t.cway.link = 1 ∧ t.cway.retiredAt = n ∧ t.bit sparesExhausted 0 2 = true)
    ∧ (s.cway.link = 1 → exec (.bitLockLoss n 0) s = .next (s.at n))
    ∧ (s.cway.link = 1 → s.cway.down = false → ∃ t, exec (.bitLockLoss n 1) s = .next t ∧ t.cway.down = true ∧ t.cway.retrainAt = n + 100000)
    ∧ (s.cway.down = true → s.cway.retrainAt ≤ n → ∀ locked, exec (.linkBRetrain n locked) s = .next { s.at n with cway :=
        if locked then { s.cway with down := false } else { s.cway with retrainAt := n + 10000000 } })
    ∧ (∀ straps, ∃ t, exec (.status n .field straps) s = .next t ∧ t.cway.hostAbsent = false ∧ t.cway.hostHeard = n ∧ t.cway.fieldAbsent = s.cway.fieldAbsent)
    ∧ (∀ straps, ∃ t, exec (.status n .host straps) s = .next t ∧ t.cway.fieldAbsent = false ∧ t.cway.fieldHeard = n ∧ t.cway.hostAbsent = s.cway.hostAbsent)
    ∧ (s.sup.fieldUp = true → ∃ t m, exec (.statusSend n .field) s = .next t ∧ queuedIn (s.dir .field) (t.dir .field) m ∧ m.ctype = 0x07 ∧ m.cls = 1
        ∧ (s.cway.down = false → (s.dir .field).kept.length < 16 → (∀ q ∈ (s.dir .field).kept, q.sent = true) →
            (t.dir .field).nextSeq = ((s.dir .field).nextSeq + 1) % 256
            ∧ ∃ q, (t.dir .field).kept.getLast? = some q ∧ q.sent = true ∧ q.msg = { m with lseq := BitVec.ofNat 8 (s.dir .field).nextSeq })
        ∧ m.desc = BitVec.ofNat 96 (s.get modeStateMode 0 + 2 ^ 8 * s.get sparesExhausted 0 + 2 ^ 16 * s.get sparesLost 0 + 2 ^ 24 * s.get sparesWarn 0))
    ∧ (s.cway.hostHeard + 10000000 ≤ n → ∃ t, exec (.hostAbsent n) s = .next t ∧ t.cway.hostAbsent = true
        ∧ t.cway.hostAbsentSince = if s.cway.hostAbsent then s.cway.hostAbsentSince else n)
    ∧ (n < s.cway.hostHeard + 10000000 → exec (.hostAbsent n) s = .next (s.at n))
    ∧ (s.cway.fieldHeard + 10000000 ≤ n → ∃ t, exec (.fieldSideAbsent n) s = .next t ∧ t.cway.fieldAbsent = true)
    ∧ (∃ t, exec (.pfail n .field) s = .next t ∧ t.cway.hostAbsent = true) ∧ ∃ t, exec (.pfail n .host) s = .next t ∧ t.cway.fieldAbsent = true

/-- A mark 1 s ± 50 µs after the last accepted one of its source, or the first of a series, is accepted and labels the next TIME; any other
is rejected, counted, and changes nothing else. The increment moves by at most 0.1 ppm and stays within 20 ppm of the calibrated nominal. HSYNC and, while no HSYNC
mark has come for 2 s, the RTC's second leave as MARK with their source and the cycles counted. TIME pairs the last mark with its UTC
second. Without a mark for 2 s a disciplined site time is in holdover; the field clock fallback degrades it for good and exhausts its
spare. -/
def Obligations.SiteTimeRule : Prop :=
∀ (n : Nat) (s : State),
    (∀ (src : MarkSource) (cycles : Nat),
      let m := n - (cycles * 5 / 2 + Config.crossingDelay)
      let prev := match src with | .hsync => s.clk.lastHsync | .rtc => s.clk.lastRtc
      let inRange (k : Clock) : Prop := k.nominal - k.nominal / 50000 ≤ k.inc ∧ k.inc ≤ k.nominal + k.nominal / 50000
      ((∃ p, prev = some p ∧ p + 999950000 ≤ m ∧ m ≤ p + 1000050000) ∨ prev = none ∨ s.clk.series ≠ some src → s.bill.step = none →
        ∃ t, exec (.mark n src cycles) s = .next t ∧ t.clk.mark = some m ∧ t.clk.accepted = s.clk.accepted + 1 ∧ t.clk.rejected = s.clk.rejected
          ∧ t.clk.series = some src ∧ t.clk.nominal = s.clk.nominal ∧ (inRange s.clk → inRange t.clk) ∧ t.mem = s.mem
          ∧ s.clk.inc - s.clk.inc / 10000000 ≤ t.clk.inc ∧ t.clk.inc ≤ s.clk.inc + s.clk.inc / 10000000)
      ∧ (∀ p, prev = some p → s.clk.series = some src → m ≤ p + 2000000000 → m < p + 999950000 ∨ p + 1000050000 < m →
        exec (.mark n src cycles) s = .next { s.at n with clk := { s.clk with rejected := s.clk.rejected + 1 } }))
    ∧ (∀ w : Nat, s.sup.hostUp = true → s.sup.pfailhLow = false → s.cway.down = false →
        (∃ t, exec (.hsyncEdge n w) s = .next t ∧ t.out = .causeway .host s.cway.link 0x0C 0 false (w * 2 ^ 8) :: s.out ∧ t.objs = s.objs)
        ∧ ((s.clk.lastHsync.all fun m => decide (m + 2000000000 ≤ n)) = true → ∃ t, exec (.rtcSecondMark n w) s = .next t
            ∧ t.out = .causeway .host s.cway.link 0x0C 0 false (1 + w * 2 ^ 8) :: s.out ∧ t.objs = s.objs)
        ∧ ((s.clk.lastHsync.all fun m => decide (m + 2000000000 ≤ n)) = false → exec (.rtcSecondMark n w) s = .next (s.at n)))
    ∧ (∀ (utc : Nat) (rtcMark vbatLow : Bool) (m : Nat), s.clk.mark = some m → ∃ t, exec (.time n utc false rtcMark vbatLow) s = .next t
        ∧ t.clk = { s.clk with pair := some (m, utc), rtcMark := rtcMark, rtc := s.clk.rtc.shows utc m } ∧ t.sup = { s.sup with vbatLow := vbatLow } ∧ t.mem = s.mem)
    ∧ (s.clk.fallback = false → 16 ≤ s.clk.accepted → max (s.clk.lastHsync.getD 0) (s.clk.lastRtc.getD 0) + 2000000000 ≤ n →
        ∃ t, exec (.siteTimeHoldover n) s = .next t ∧ t.clk = { s.clk with base := .holdover } ∧ t.get meterStatusTimeBase 0 = 2)
    ∧ (s.clk.fallback = false → ∃ t, exec (.fieldClockFallback n) s = .next t ∧ t.clk = { s.clk with fallback := true, fallbackAt := n, base := .degraded }
        ∧ t.bit sparesExhausted 0 7 = true)
    ∧ (s.clk.fallback = true → exec (.fieldClockFallback n) s = .next (s.at n))
    ∧ (s.clk.trimmedAt + 32000000000 ≤ n → ∃ t, exec (.rtcTrim n) s = .next t ∧ t.clk.trimmedAt = n ∧ t.clk.pair = s.clk.pair ∧ t.objs = s.objs
        ∧ 0 ≤ t.clk.rtc.frac ∧ t.clk.rtc.frac < 100000000
        ∧ t.clk.rtc.cycles * 100000000 + t.clk.rtc.frac = s.clk.rtc.cycles * 100000000 + s.clk.rtc.frac + s.geti timeConfigRtcTrim 0 * (32 * 32768))
    ∧ (n < s.clk.trimmedAt + 32000000000 → exec (.rtcTrim n) s = .next (s.at n))

/-- A supply warning is shown until it clears and counted. PFAILF_N falling, or the internal warning while PFAILF_N is high and no warning
in force, begins a power-fail warning at its stamp, counted; the rise, or the internal warning's end, ends the warning that its own
fall began. A warning of 100 ms with VFLD healthy takes SERVICE or DEGRADED to STANDBY under row 9. PFAILH_N falling is counted and
PFAIL is sent; its rise lifts it. A kick is stamped; 100 ms without the host's resets the host side with code 4, 50 ms without one of
the field side's resets that warm. -/
def Obligations.SupplyAndWatchdogRule : Prop :=
∀ (n : Nat) (s : State),
    (∀ f, ∃ t, exec (.supplyWarning n f) s = .next t ∧ (if f then t.sup.fieldWarn else t.sup.hostWarn) = true
      ∧ t.get modeSupplyWarnings 0 = min (s.get modeSupplyWarnings 0 + 1) (2 ^ modeSupplyWarnings.width - 1) ∧ t.mem = s.mem)
    ∧ (∀ f, ∃ t, exec (.supplyWarningClear n f) s = .next t ∧ (if f then t.sup.fieldWarn else t.sup.hostWarn) = false ∧ t.objs = s.objs)
    ∧ (∃ t, exec (.vbatLow n) s = .next t ∧ t.sup.vbatLow = true ∧ t.objs = s.objs) ∧ (∃ t, exec (.vbatLowClear n) s = .next t ∧ t.sup.vbatLow = false ∧ t.objs = s.objs)
    ∧ (s.sup.warn = none → ∃ t, exec (.pfailfNFall n) s = .next t ∧ t.sup.warn = some (n, false) ∧ t.sup.pfailf = some n
        ∧ t.met.frozen = some ((if s.met.thaw.isSome then none else s.met.frozen).getD n) ∧ t.get modeSupplyPfailf 0 = min (s.get modeSupplyPfailf 0 + 1) (2 ^ modeSupplyPfailf.width - 1))
    ∧ (s.sup.warn ≠ none → ∃ t, exec (.pfailfNFall n) s = .next t ∧ t.sup = { s.sup with pfailf := some n } ∧ t.met = s.met)
    ∧ (s.sup.warn = none → s.sup.pfailf = none → ∃ t, exec (.internalPowerFailWarning n) s = .next t ∧ t.sup.warn = some (n, true)
        ∧ t.met.frozen = some ((if s.met.thaw.isSome then none else s.met.frozen).getD n))
    ∧ (s.sup.warn ≠ none ∨ s.sup.pfailf ≠ none → exec (.internalPowerFailWarning n) s = .next (s.at n))
    ∧ (∀ tf internal, s.sup.warn = some (tf, internal) →
        (∃ t, exec (.pfailfNRise n) s = .next t ∧ t.sup.pfailf = none ∧ t.sup.warn = (if internal then s.sup.warn else none)
          ∧ (internal = false → (s.met.frozen ≠ none → s.met.thaw = none → if n < s.met.next * 15625 then t.met.frozen = none else t.met.thaw = some n)))
        ∧ (∃ t, exec (.internalPowerFailWarningEnd n) s = .next t ∧ t.sup.warn = (if internal then none else s.sup.warn) 
            ∧ (internal = true → (s.met.frozen ≠ none → s.met.thaw = none → if n < s.met.next * 15625 then t.met.frozen = none else t.met.thaw = some n)))
        ∧ (tf + 100000000 ≤ n → s.sup.warnHeld = false → s.sup.fieldWarn = false → s.get modeStateMode 0 = 2 ∨ s.get modeStateMode 0 = 3 →
            exec (.powerFailHold n) s = .next ((({ s.at n with sup := { s.sup with warnHeld := true } }).moveMode 1 9 0xFF 0 n).raise 0x9A n)))
    ∧ (s.sup.pfailhLow = false → ∃ t, exec (.pfailhNFall n) s = .next t ∧ t.sup.pfailhLow = true
        ∧ t.get modeSupplyPfailh 0 = min (s.get modeSupplyPfailh 0 + 1) (2 ^ modeSupplyPfailh.width - 1)
        ∧ (s.sup.hostUp = true → ∃ m, queuedIn (s.dir .host) (t.dir .host) m ∧ m.ctype = 0x08 ∧ m.cls = 0))
    ∧ (∃ t, exec (.pfailhNRise n) s = .next t ∧ t.sup.pfailhLow = false ∧ t.objs = s.objs)
    ∧ (∀ src, exec (.watchdogKick n src) s = .next { s.at n with sup := { s.sup with kicks := Tab.set s.sup.kicks (kickNo src) n } })
    ∧ (s.sup.hostServing = true → Tab.get s.sup.kicks 0 s.sup.hostUpAt + 100000000 ≤ n → exec (.hostWatchdog n) s = .next ((s.at n).hostReset 4 0 0 n))
    ∧ (n < Tab.get s.sup.kicks 0 s.sup.hostUpAt + 100000000 → exec (.hostWatchdog n) s = .next (s.at n))
    ∧ (s.sup.fieldUp = true → ∀ j, 1 ≤ j → j ≤ 5 → Tab.get s.sup.kicks j s.sup.goodAt + 50000000 ≤ n → ∃ (t u : State) (w : State), exec (.fieldWatchdog n) s = .next t
        ∧ u.sup.wdResets = (s.sup.upBase + n) :: s.sup.wdResets.filter (fun x => decide (s.sup.upBase + n < x + 3600000000000))
        ∧ (3 ≤ (s.sup.wdResets.filter fun x => decide (s.sup.upBase + n < x + 3600000000000)).length → u.sup.wdLoop = true)
        ∧ w = u.restartField false 5 0 0 n ∧ t = (State.refreshReady { w with sup := { w.sup with wdoUntil := 100000000 } }).refreshLands 0)

/-- RESET messages reach a field side that is up, warm with code 6 and cold with 7; supply and rail resets hold a side until power is good;
RST_N below 200 ns does nothing, from 1 µs on resets the host side, as do the PLL and its watchdog. A field-side reset leaves no core, no
session, no byte of memory and no epoch, the mode BOOT, site time from 0, and the journaled configuration as it was; a host-side reset
drops the host ports' queues, the key slots and the keep list, and leaves cores, memory, Kerb and billing as they were. POWER_GOOD and
the host reset's end start the sides that are in reset. -/
def Obligations.ResetRule : Prop :=
∀ (n : Nat) (s : State),
    (s.sup.fieldUp = true → ∀ port role : BitVec 8, exec (.resetWarm n port role) s = .next ((s.at n).restartField false 6 port.toNat role.toNat n)
      ∧ exec (.resetCold n port role) s = .next ((s.at n).restartField true 7 port.toNat role.toNat n))
    ∧ (∀ w, w < 200 → exec (.rstN n w) s = .next (s.at n)) ∧ (∀ w, ∃ t, exec (.rstN n w) s = .next t) ∧ (∀ w, 1000 ≤ w → exec (.rstN n w) s = .next ((s.at n).hostReset 3 0 0 n))
    ∧ (∀ side on, exec (.supervisorReset n side on) s = .next ((s.at n).powerReset side (if on then 1 else 2) n))
    ∧ (∀ side, exec (.railFault n side) s = .next ((s.at n).powerReset side 8 n))
    ∧ exec (.hostPllLockLost n) s = .next ((s.at n).hostReset 10 0 0 n)
    ∧ (∀ straps, s.sup.hostUp = false → ∃ t, exec (.hostResetEnd n straps) s = .next t ∧ t.sup.hostUp = true ∧ t.sup.hostServing = true
        ∧ t.sup.straps = straps.toNat ∧ (t.sup.recovery = true ↔ straps = 2) ∧ t.sup.hostUpAt = n ∧ t.cores = s.cores ∧ t.mem = s.mem)
    ∧ (∀ straps f c r, s.sup.hostUp = true → s.sup.fieldUp = false →
        exec (.powerGood n straps f c r) s = .next ((s.at n).startField true f.toNat c.toNat r n))
    ∧ (∀ straps f c r, s.sup.hostUp = false → s.sup.fieldUp = true → exec (.powerGood n straps f c r) s = .next ((s.at n).startHost straps.toNat n))
    ∧ (∀ (cold : Bool) (code port role : Nat), let u := s.fieldReset cold code port role n
        let s := if cold then s else [0, 1, 2, 3, 4, 5].foldl (fun (z : State) c => z.drainCore c n) s
        u.now = 0 ∧ u.cores = [] ∧ u.mem = [] ∧ u.link = [] ∧ u.kerb = Kerb.reset ∧ u.clk.base = (if s.clk.fallback && !cold then .degraded else .free) ∧ u.clk.fallback = (s.clk.fallback && !cold) ∧ u.clk.pair = none ∧ u.sup.fieldUp = false
          ∧ u.get modeStateMode 0 = 0 ∧ u.get modeStateCause 0 = 1 ∧ u.get allocConfigEpochLenMs 0 = s.get allocConfigEpochLenMs 0
          ∧ u.jr.flash = s.jr.flash ∧ u.keys.slots = s.keys.slots)
    ∧ ∀ code port role : Nat, let u := s.hostReset code port role n
        u.hosts = Hosts.reset ∧ u.keys.slots = [] ∧ u.cway.toField.kept = [] ∧ u.sup.hostUp = false ∧ u.cores = s.cores ∧ u.mem = s.mem ∧ u.kerb = s.kerb
          ∧ u.bill = s.bill ∧ u.met = s.met ∧ u.link = s.link ∧ u.get modeStateMode 0 = s.get modeStateMode 0

/-- Once steps 1 to 4 are done and nothing holds it, BOOT is left: with a cause of SAFE-HOLD for that, else with straps 1 for MAINTENANCE,
else for STANDBY. STANDBY with auto_service and a ready device goes to SERVICE, or with anything exhausted or lost to DEGRADED;
MAINTENANCE ends maint_s after entry. Each transition shows the new and the old mode, its stamp, its row and who asked; a legal mode
stays legal. -/
def Obligations.ModeRule : Prop :=
∀ (n : Nat) (s : State),
    (s.mayComplete = false → exec (.bootComplete n) s = .next (s.at n))
    ∧ (s.mayComplete = true → s.get modeStateMode 0 = 0 → (s.keys.identity && s.sup.hostServing) = false →
        let u := State.put { s.at n with sup := { s.sup with bootStep := 5 } } (modeBootTStep 4) 0 (s.sinceGood n)
        exec (.bootComplete n) s = .next (if s.get modeStateHold 0 ≠ 0 then u.moveMode 4 2 0xFF 0 n
          else if s.get modeStateStraps 0 = 1 then u.moveMode 5 3 0xFF 0 n else u.moveMode 1 4 0xFF 0 n))
    ∧ (s.get modeStateMode 0 = 1 → s.flag modeConfigAutoService 0 = true → s.ready = true →
        exec (.autoService n) s = .next (if s.reduced then (s.at n).moveMode 3 6 0xFF 0 n else (s.at n).moveMode 2 5 0xFF 0 n))
    ∧ (s.get modeStateMode 0 = 5 → s.get modeStateSince 0 + s.get modeConfigMaintS 0 * 1000000000 ≤ n →
        exec (.maintenanceTimeout n) s = .next ((s.at n).moveMode 1 11 0xFF 0 n))
    ∧ (s.get modeStateMode 0 ≠ 5 → exec (.maintenanceTimeout n) s = .next (s.at n))
    ∧ ∀ m row port role, m ≤ 5 → row < 256 → port < 256 → role < 256 → n < 2 ^ 64 → let u := s.setMode m row port role n
        u.get modeStateMode 0 = m ∧ (s.get modeStateMode 0 ≤ 5 → u.get modeStatePrev 0 = s.get modeStateMode 0) ∧ u.get modeStateSince 0 = n ∧ u.get modeStateCause 0 = row
          ∧ u.get modeStatePort 0 = port ∧ u.get modeStateRole 0 = role ∧ u.modeLegal = true ∧ u.mem = s.mem ∧ u.cores = s.cores

/-- A KEY_REQ is kept under its tag. With the host side present HK answers by a KEY_RSP of the same tag: with the result, or with status
0x000C and event 0x0A where it refuses; absent, the request waits in the journal. An operation with an occupied slot is performed exactly where Table
14-10 permits it for the key's algorithm and attribute, and counts as a use. KEY_RSP ends the wait of its tag; a signature with slot 1
completes the oldest unsigned receipt. -/
def Obligations.KeyRule : Prop :=
∀ (n : Nat) (ref : BitVec 16) (op : KeyOp) (core : Fin 6) (tag : Nat) (data : Payload) (s : State),
    let p : KeyPend := { tag := tag, ref := ref.toNat, op := op, core := core, data := data }
    let u : State := { s.at n with keys := { s.keys with pend := s.keys.pend ++ [p] } }
    ((s.keys.pend.any fun x => x.tag == tag && x.core == core.val) = false →
      (s.cway.hostAbsent = true → s.cway.queued.contains (.key tag core) = false →
        exec (.keyReq n ref op core tag data) s = .next { u with cway := { s.cway with queued := s.cway.queued ++ [.key tag core] } })
      ∧ (s.cway.hostAbsent = false → s.sup.hostUp = true → s.sup.pfailhLow = false → ∃ t m, exec (.keyReq n ref op core tag data) s = .next t
        ∧ queuedIn (s.dir .host) (t.dir .host) m ∧ m.ctype = 0x04 ∧ (∃ r, queuedIn (s.dir .field) (t.dir .field) r ∧ r.ctype = 0x03 ∧ r.payload = data)
        ∧ (∀ x, (u.hkOperate ref.toNat op data).1 = some x → m.payload = x ∧ m.desc = BitVec.ofNat 96 (tag % 2 ^ 32))
        ∧ ((u.hkOperate ref.toNat op data).1 = none → m.desc = BitVec.ofNat 96 (tag % 2 ^ 32 + 0xC * 2 ^ 32)
            ∧ t.get diagEventsCount 0x0A = min (s.get diagEventsCount 0x0A + 1) (2 ^ diagEventsCount.width - 1))))
    ∧ (∀ sl, 8 ≤ ref.toNat → ref.toNat < 60 → Tab.find s.keys.slots ref.toNat = some sl →
        let ok : Bool := match op with
          | .gcmEncrypt => sl.attr == 1 && sl.alg == 1 | .cmac => sl.attr == 1 && sl.alg == 1 | .gcmDecrypt => sl.attr == 2 && sl.alg == 1
          | .ecdh => sl.attr == 4 && (sl.alg == 3 || sl.alg == 4 || sl.alg == 6) | .eapPsk => sl.attr == 4 && sl.alg == 2 | .hkdf => sl.attr == 4 && sl.alg == 1
          | .ecdsaP256 => sl.attr == 5 && sl.alg == 3 | .ecdsaP521 => sl.attr == 5 && sl.alg == 4 | .ed448 => sl.attr == 5 && sl.alg == 5 | .rsaPss => false
        ((s.hkOperate ref.toNat op data).1.isSome = ok) ∧ (ok = false → (s.hkOperate ref.toNat op data).2 = s)
          ∧ (ok = true → (s.hkOperate ref.toNat op data).2.keys.uses = s.keys.uses + 1))
    ∧ (∀ (status : BitVec 16) (res : Payload),
        ((∀ x ∈ s.keys.pend, x.tag ≠ tag) → exec (.keyRsp n tag status res) s = .next (s.at n))
        ∧ ∀ x, s.keys.pend.find? (fun y => y.tag == tag) = some x →
          let v : State := { s.at n with keys := { s.keys with pend := s.keys.pend.filter fun y => y.tag != tag } }
          (x.ref ≠ 1 → exec (.keyRsp n tag status res) s = .next v)
          ∧ (x.ref = 1 → status = 0 → ∀ no body rest, s.bill.unsigned = (no, body) :: rest →
            exec (.keyRsp n tag status res) s = .next (State.storeReceipt { v with bill := { s.bill with unsigned := rest } } no body res.data n)))

/-- A checkpoint of the last index of a whole second goes into the copy that does not hold the newest, with the next number; a deep one keeps the
newest as LEGAL record; the counters of every region are kept each second. Migration moves the oldest record of the ring to its area once
read back whole, and no record that must be kept leaves flash; the next segment written is the erased one with the lowest erase count. A scrub whose interval has not passed does nothing. At a new UTC day the quotas start from 0. A row that qualifies is
repaired from a spare row of its region, one fewer left; with none it is counted as unrepaired. Two wrong bytes in a region of mode C1D3
are uncorrectable. An uncorrectable block of instruction SRAM waits for the fetch that meets it; one of host NV makes its key unusable. P5 takes over a failed core it may
stand for. -/
def Obligations.DurableRule : Prop :=
∀ (n : Nat) (s : State),
    (∀ k, s.dur.ready = some k → s.met.frozen = none → 3 ≤ s.sup.bootStep →
      ∃ t c, exec (.checkpoint n false) s = .next t ∧ newest t.dur.a t.dur.b = some c ∧ c = { k with seq := (newest s.dur.a s.dur.b).elim 1 (fun o => o.seq + 1) }
        ∧ t.dur.ready = none ∧ t.objs = s.objs ∧ (∀ o, newest s.dur.a s.dur.b = some o → t.dur.a = some o ∨ t.dur.b = some o))
    ∧ (s.dur.ready = none ∨ s.met.frozen ≠ none → exec (.checkpoint n false) s = .next (s.at n))
    ∧ ((s.met.next - 1) % 64000 = 0 → s.met.frozen = none → ∃ c, s.readyCheckpoint = { s with dur := { s.dur with ready := some c } } ∧ c.k = s.met.next - 1 ∧ c.frozen = false
        ∧ c.fields = s.objs.filter fun e => ckObj (keyObj e.1))
    ∧ (∀ c, newest s.dur.a s.dur.b = some c → s.dur.deepAt + 600000000000 ≤ n → ∃ t, exec (.deepCheckpoint n) s = .next t ∧ t.dur.deep = some c
        ∧ t.dur.deepAt = n ∧ (∃ r, t.jr.ring = s.jr.ring ++ [r] ∧ r.cls = 0))
    ∧ (s.dur.eccAt + 1000000000 ≤ n → exec (.eccCounterCheckpoint n) s = .next { s.at n with dur := { s.dur with ecc := s.objs.filter (fun e => keyObj e.1 == 0x1820), eccAt := n } })
    ∧ (∀ r rest, s.jr.ring = r :: rest → s.met.frozen = none →
        (∃ t, exec (.journalMigration n true) s = .next t ∧ t.jr.ring.take rest.length = rest ∧ (∃ g, { r with seg := g } ∈ t.jr.flash)
          ∧ ((s.headSeg r.cls).any (fun h => decide (blocksAfter (s.seg h).blocks (r.coded / 36) ≤ segBlocks)) = true →
              t.jr.flash = s.jr.flash ++ [{ r with seg := (s.headSeg r.cls).getD 512 }])
          ∧ ∀ x ∈ s.jr.flash, s.keepsRec x n = true → ∃ y ∈ t.jr.flash, y.cls = x.cls ∧ y.seq = x.seq ∧ y.typ = x.typ ∧ y.len = x.len ∧ y.data = x.data)
        ∧ ∃ t, exec (.journalMigration n false) s = .next t ∧ t.jr.ring.take (rest.length + 1) = r :: rest
          ∧ t.get sparesFlashLeft 0 = (s.get sparesFlashLeft 0 - 1) % 2 ^ 16)
    ∧ (∀ k, s.nextErased = some k → (s.seg k).area = 6 ∧ ∀ m, m < 512 → (s.seg m).area = 6 → (s.seg k).erases ≤ (s.seg m).erases)
    ∧ (∀ k, ((s.eraseSeg k).seg k).erases = (s.seg k).erases + 1 ∧ ((s.eraseSeg k).seg k).area = 6)
    ∧ (∀ rows, s.dur.hotAt + 86400000000000 ≤ n → ∃ t, exec (.hotTierScrub n rows) s = .next t ∧ t.dur.hotAt = n
        ∧ t.dur.hotRows = rows.filter fun r => !(rows.filter fun r => s.dur.hotRows.contains r).contains r)
    ∧ (∀ rows, n < s.dur.hotAt + 86400000000000 → exec (.hotTierScrub n rows) s = .next (s.at n))
    ∧ (s.legalValid = false ∨ s.get wearLastScrub 0 + s.scrubDays * 86400 ≤ s.legal n → ∃ t, exec (.coldTierScrub n []) s = .next t
        ∧ t = { s.at n with objs := t.objs } ∧ t.get wearLastScrub 0 = s.legal n % 2 ^ wearLastScrub.width)
    ∧ (s.legalValid = true → s.legal n / 86400 ≠ s.dur.day → ∃ t, exec (.quotaReset n) s = .next t ∧ t.dur.day = s.legal n / 86400 ∧ t.get wearOpenToday 0 = 0
        ∧ t.get wearLinkToday 0 = 0)
    ∧ (∀ (region : Fin 39) (row : Nat) (b : Fin 32), region.val ≤ 13 ∨ 35 ≤ region.val → 0 < s.get repairSpareLeft region → s.get repairSpareLeft region < 256 →
        ∃ t, exec (.sramScrub n region ⟨row, b⟩ .uncorrectable) s = .next t ∧ t.get repairSpareLeft region = s.get repairSpareLeft region - 1
          ∧ t.get eccUncorr region = min (s.get eccUncorr region + 1) (2 ^ eccUncorr.width - 1)
          ∧ (region.val ≤ 13 → t.mem = s.mem) ∧ (∀ c : Fin 6, region.val = c.val → (t.core c).badFetch = (row * 1024 + 32 * b.val) :: (s.core c).badFetch))
    ∧ (∀ b : Fin 32, ∃ t, exec (.sramScrub n 38 ⟨0, b⟩ (.corrected 2)) s = .next t ∧ t.get eccCorrBlocks 38 = s.get eccCorrBlocks 38
        ∧ t.get eccUncorr 38 = min (s.get eccUncorr 38 + 1) (2 ^ eccUncorr.width - 1))
    ∧ (∀ row : Nat, row < 64 → ∀ b : Fin 32, ∃ t, exec (.sramScrub n 16 ⟨row, b⟩ .uncorrectable) s = .next t ∧ row ∈ t.keys.unusable
        ∧ ∀ op data, (t.hkOperate row op data).1 = none)
    ∧ (∀ core : Fin 5, s.mayTakeOver core = true → Tab.find s.imgs.active core = none → ∃ t, exec (.takeover n core) s = .next t
        ∧ t.get sparesStandsFor 0 = core ∧ t.bit sparesExhausted 0 0 = true ∧ t.logical 5 = core)
    ∧ ∀ core : Fin 5, s.mayTakeOver core = false → exec (.takeover n core) s = .next (s.at n)

/-- Each of these acts only in its state and once its time and the settle time of 100 ns have passed: PRECHECK after 20 ms goes OFF with
cause 0x02; BACKOFF ends in PRECHECK while the session requests energising, else OFF; PRECHARGE outside pc_tol goes to DISCHARGE with
cause 0x04; a controlled stop past its ramp and 10 ms stops at once with 0x12; DISCHARGE at 60 V or more after 1 s is HELD with 0x0B.
The half-way check passes, or backs off 1, 5 and 30 s and then discharges with 0x05. A phase is shed after shed_hold, never below
n_min. A stage head's temperature gone for 100 ms counts as 105 °C. -/
def Obligations.ConverterTimeoutRule : Prop :=
∀ (n : Nat) (c : Fin 13) (s : State),
    let k := s.conv c
    let st := s.convState c
    (st = 1 → k.since + 20000100 ≤ n → ∃ u : State, exec (.precheckTimeout n c) s = .next (u.gatesOff c 0 n)
        ∧ u = { (s.at n).faultRecord c 0x02 0 n true with ctl := u.ctl } ∧ (u.conv c).cause = 2)
    ∧ (st ≠ 1 ∨ n < k.since + 20000100 → exec (.precheckTimeout n c) s = .next (s.at n))
    ∧ (st = 7 → s.get ctlStateBackoffUntil c + 100 ≤ n → exec (.backoffElapsed n c) s = .next (if (s.page c).request = 1
          then ((s.at n).enterState c 1 n).sendCommands c else (s.at n).enterState c 0 n))
    ∧ (st ≠ 7 ∨ n < s.get ctlStateBackoffUntil c + 100 → exec (.backoffElapsed n c) s = .next (s.at n))
    ∧ (st = 3 → k.since + s.get ctlOutletPcTimeout c * 1000000 + 100 ≤ n →
        let v := s.voltsAt c (k.since + s.get ctlOutletPcTimeout c * 1000000)
        exec (.prechargeTimeout n c) s = .next (if s.num ctlOutletPcTol c < mag (v - (s.page c).vPc)
          then ((s.at n).faultRecord c 0x04 0 n true).toDischarge c 0x04 n else s.at n))
    ∧ (st ≠ 3 → exec (.prechargeTimeout n c) s = .next (s.at n))
    ∧ (∀ t0 i0, k.stopFrom = some (t0, i0) → st = 5 →
        let due := t0 + (ceilDiv (i0 * 1000) (max 1 (s.num ctlOutletStopRate c))).toNat + 10000100
        exec (.controlledStopTimeout n c) s = .next (if due ≤ n then (s.at n).immediateStop c 0x12 0 n else s.at n))
    ∧ (k.stopFrom = none ∨ st ≠ 5 → exec (.controlledStopTimeout n c) s = .next (s.at n))
    ∧ (∀ t0, k.gatesOff = some t0 → st = 6 → t0 + 1000000100 ≤ n →
        exec (.dischargeTimeout n c) s = .next (if s.voltsAt c (t0 + 1000000000) < 60000 then s.at n
          else ((s.at n).faultRecord c 0x0B 0 n true).toHeld c 0x0B n))
    ∧ (k.gatesOff = none ∨ st ≠ 6 → exec (.dischargeTimeout n c) s = .next (s.at n))
    ∧ (∀ r, k.ramp = some r → r.checked = false → c.val < 12 → st = 2 ∨ st = 3 →
        let half := r.tStart + ((r.vTarget - r.vStart) * 1000000 / max 1 (s.num ctlOutletSsRate c) / 2).toNat
        let low := s.voltsAt c half * 10 ≤ r.vTarget ∧ (lastAt k.updates half).getD false = true
        let m := min 15 (s.get ctlStateAborts c + 1)
        let u := State.put (((s.at n).setConv c { k with ramp := some { r with checked := true } }).faultRecord c 0x05 0 n true) ctlStateAborts c m
        (n < half + 100 → exec (.softStartHalfCheck n c) s = .next (s.at n))
        ∧ (half + 100 ≤ n → ¬ low → exec (.softStartHalfCheck n c) s = .next ((s.at n).setConv c { k with ramp := some { r with checked := true } }))
        ∧ (half + 100 ≤ n → low → exec (.softStartHalfCheck n c) s = .next (if m ≤ 3 then
            (u.gatesOff c 7 n).put ctlStateBackoffUntil c (n + if m = 1 then 1000000000 else if m = 2 then 5000000000 else 30000000000)
            else u.toDischarge c 0x05 n)))
    ∧ (∀ t0 p, k.lowSince = some t0 → s.phaseToShed c = some p → c.val < 12 → s.convActive c = true → t0 + s.get ctlOutletShedHold c * 1000 ≤ n →
        (s.inUse c).length ≤ s.get ctlOutletNMin c → exec (.phaseShed n c) s = .next (s.at n))
    ∧ (∀ t0 p, k.lowSince = some t0 → s.phaseToShed c = some p → c.val < 12 → s.convActive c = true → t0 + s.get ctlOutletShedHold c * 1000 ≤ n →
        s.get ctlOutletNMin c < (s.inUse c).length → exec (.phaseShed n c) s =
          .next ((((s.at n).setConv c { k with shed := withBit k.shed p true, lowSince := some n }).reportPhases c).sendCommands c))
    ∧ (∀ h : Fin 48, (∀ p ∈ s.stageOf h, n < (Tab.get (s.conv p.1).stages p.2 StageRec.zero).at_ + 100000000) → exec (.heatsinkTempTimeout n h) s = .next (s.at n))
    ∧ ∀ (h : Fin 48) (j : Nat), s.stageOf h = [(c.val, j)] → (Tab.get k.stages j StageRec.zero).at_ + 100000000 ≤ n →
        ∃ t, exec (.heatsinkTempTimeout n h) s = .next t ∧ (Tab.get (t.conv c).stages j StageRec.zero).temp = 1050
          ∧ (Tab.get (t.conv c).stages j StageRec.zero).derate = true ∧ (Tab.get (t.conv c).stages j StageRec.zero).k = 200

/-- Entering a state of Table 5-4 shows it and stamps it. Turning the gates off stamps that, drives the discharge path and sets current
reference and duty to zero. DISCHARGE and HELD are entered with their cause. An immediate stop takes a converter whose gates may
switch, or in PRECHECK, to DISCHARGE; in OFF, DISCHARGE, BACKOFF or HELD it changes no state. A controlled stop takes RUN to STOPPING
with the current then flowing and changes no other state but CABLECHECK and PRECHARGE, which discharge. -/
def Obligations.ConverterStateRule : Prop :=
∀ (c st cause detail n : Nat) (s : State), c < 13 → st < 16 → cause < 256 →
    ((s.enterState c st n).convState c = st ∧ ((s.enterState c st n).conv c).since = n ∧ ((s.enterState c st n).conv c).ramp = none)
    ∧ (st ≠ 1 → let u := s.gatesOff c st n
        u.convState c = st ∧ (u.conv c).gatesOff = some n ∧ (u.conv c).discharge = true ∧ (u.conv c).iRef = 0 ∧ (u.conv c).duty = 0)
    ∧ ((s.toDischarge c cause n).convState c = 6 ∧ ((s.toDischarge c cause n).conv c).cause = cause)
    ∧ ((s.toHeld c cause n).convState c = 8 ∧ (s.toHeld c cause n).get ctlStateHeldCause c = cause)
    ∧ (s.convState c ∈ [1, 2, 3, 4, 5] → (s.immediateStop c cause detail n).convState c = 6 ∧ ((s.immediateStop c cause detail n).conv c).gatesOff = some n)
    ∧ (s.convState c ∈ [0, 6, 7, 8] → (s.immediateStop c cause detail n).convState c = s.convState c)
    ∧ (s.convState c = 4 → (s.controlledStop c n).convState c = 5 ∧ ((s.controlledStop c n).conv c).stopFrom = some (n, mag (s.geti ctlStateIOut c)))
    ∧ (s.convState c = 2 ∨ s.convState c = 3 → s.controlledStop c n = s.toDischarge c 0 n)
    ∧ (s.convState c ∈ [0, 1, 5, 6, 7, 8] → s.controlledStop c n = s)

/-- An update of a slot answers an output within its clamps, shifts its histories with an error of zero where it would wind up further,
counts, and shows the clamp it reached. SLOT_UPDATE of an outlet converter, with the values in force at its stamp, counts its trigger blocks
and, where its gates may switch, updates the slots that fall due; with the voltage slot alone that forms the bounds, updates it and ends a
controlled stop below i_open. A sample block sets its head's pending bit; a stage head's gives each phase its
sample, none where invalid; an absent block is counted for its head. -/
def Obligations.SlotRule : Prop :=
∀ (n : Nat) (s : State),
    (∀ (j : Nat) (e lo hi : Int), lo ≤ hi → let r := s.slotStep j e lo hi
        let h := s.slotHist j
        let h' := r.1.slotHist j
        let f := s.flag ctlSlotPol j
        lo ≤ r.2 ∧ r.2 ≤ hi ∧ h'.u1 = r.2 ∧ h'.u2 = h.u1 ∧ h'.u3 = h.u2 ∧ h'.e2 = h.e1 ∧ h'.e3 = h.e2
          ∧ ((r.2 = hi ∧ (if f then e < 0 else 0 < e)) ∨ (r.2 = lo ∧ (if f then 0 < e else e < 0)) → h'.e1 = 0)
          ∧ (lo < r.2 → r.2 < hi → h'.e1 = e ∧ r.1.get ctlSlotState j = 2) ∧ (r.2 = hi → r.1.get ctlSlotState j = 3)
          ∧ (r.2 = lo → lo < hi → r.1.get ctlSlotState j = 4))
    ∧ (∀ (c : Fin 13) (st ol : Bool), c.val < 12 →
        let s0 := ((s.at n).activate n).ctlDue c n
        let u := ((s0.asOf n).takeCurrent c).reportPhases c
        let rv := u.dueSlot ol (u.slotOf c 1) (u.get ctlSlotDivisor)
        let rc := rv.1.dueSlot st (rv.1.slotOf c 0) (rv.1.get ctlSlotDivisor)
        s0.slotOf c 2 = none →
        (s0.convActive c = true → exec (.slotUpdate n c ⟨st, ol, .clean⟩ none) s = .next ((rc.1.converterUpdate c n rv.2 rc.2).putForce s0.inForceNow))
        ∧ (s0.convActive c = false → exec (.slotUpdate n c ⟨st, ol, .clean⟩ none) s = .next (u.putForce s0.inForceNow)))
    ∧ (∀ (c : Fin 13) (rv rc : Option Nat), c.val < 12 → s.convActive c = true → rc = none →
        let v := (if rv.isSome then s.formBounds c n else s).voltUpdate c n rv
        s.converterUpdate c n rv rc = if v.convState c = 5 ∧ mag (v.geti ctlStateIOut c) < v.num ctlOutletIOpen c * 1000 then v.toDischarge c 0 n else v)
    ∧ (∀ (h : Fin 48) (p : Bool), ∃ t, exec (.sampleBlock n h (.mesh p)) s = .next t ∧ (t.avn (h / 8)).pend.testBit (h % 8) = p ∧ t.objs = s.objs ∧ t.ctl = s.ctl)
    ∧ (∀ (h : Fin 48), s.stageOf h = [] → s.outletOf h = [] → ∃ t, exec (.sampleBlock n h .absent) s = .next t
        ∧ (Tab.get t.lanes.heads h HeadCount.reset).absent = (Tab.get s.lanes.heads h HeadCount.reset).absent + 1 ∧ t.objs = s.objs ∧ t.ctl = s.ctl)
    ∧ ∀ (h : Fin 48) (b : StageBlk) (c j q : Nat), s.stageOf h = [(c, j)] → b.midpoint = false → b.tempInv = false → b.hsTemp.toInt < 950 →
        s.convState c ≠ 1 → s.convState c ≠ 8 → q < s.headPhases h →
        ∃ t, exec (.sampleBlock n h (.stage b)) s = .next t ∧ (t.avn (h / 8)).pend.testBit (h % 8) = b.pending
          ∧ (Tab.get (t.conv c).phases (q + 12 * j) PhaseRec.zero).i = (if b.invalid.getLsbD q then none else (b.iPh[q]?).map BitVec.toInt)
          ∧ (Tab.get (t.conv c).stages j StageRec.zero).absent = 0 ∧ (Tab.get (t.conv c).stages j StageRec.zero).temp = b.hsTemp.toInt

/-- The derate never exceeds the larger of i_rated and fallback_i, is 0 with the outlet head lost, fallback_i without a model, and at most
fallback_i in fallback. The model advances every step and shows its temperatures. At 5 ms modulo 10 ms a fall is published always, a
rise from 2 % of i_rated, else nothing. A finding begins once its condition has held for its time, with fallback in force; fallback
ends 60 s after the last. The chiller is requested after chill_hold at u_max; the pump stops when its post-run is over. -/
def Obligations.CoolingRule : Prop :=
∀ (n : Nat) (o : Fin 12) (s : State),
    let r := s.coolRec o
    let rated := s.num allocOutletIRated o
    let fb := s.num coolOutletFallbackI o
    let d := s.derate o
    (d.1 ≤ max rated fb ∧ (r.found.testBit 4 = true → d = (0, 4)) ∧ (r.fallback = true → d.1 ≤ fb)
      ∧ (r.found.testBit 4 = false → s.hasModel o = false → d = (fb, 3)))
    ∧ (∀ m, r.nodes = some m → s.hasModel o = true → ∃ t, exec (.cableModelStep n o) s = .next t
        ∧ (t.coolRec o).nodes = some (s.modelStep o r m) ∧ (t.coolRec o).computed = ((t.derate o).1))
    ∧ (n % 10000000 = 5000000 → exec (.deratePublish n o) s = .next (if d.1 < s.num coolStateIDer o
          ∨ (s.num coolStateIDer o < d.1 ∧ rated ≤ 50 * (d.1 - s.num coolStateIDer o)) then (s.at n).publishDerate o else s.at n))
    ∧ (n % 10000000 ≠ 5000000 → exec (.deratePublish n o) s = .next (s.at n))
    ∧ ((s.publishDerate o).geti coolStateIDer o = toSigned coolStateIDer.width (ofSigned coolStateIDer.width d.1) ∧ (s.publishDerate o).mem = s.mem)
    ∧ (∀ (e : (Nat → Fin 12 → Instr) × Nat × Nat × Option Nat), e ∈ [(Instr.lossOfFlow, 0, 500000000, if (s.at n).pumpRuns o n then s.absentSince o r.lowSince else none),
          (Instr.modelDisagrees, 1, 10000000000, r.offSince),
          (Instr.coolantSensorLost, 2, 1000000000, s.absentSince o r.coolSince), (Instr.contactSensorLost, 3, 1000000000, s.absentSince o r.contSince)] →
        (∀ t0, e.2.2.2 = some t0 → t0 + e.2.2.1 ≤ n → ∃ t, exec (e.1 n o) s = .next t ∧ (t.coolRec o).found.testBit e.2.1 = true
            ∧ (r.found.testBit e.2.1 = false → (t.coolRec o).fallback = true) ∧ t.mem = s.mem ∧ t.ctl = s.ctl)
        ∧ ((∀ t0, e.2.2.2 = some t0 → n < t0 + e.2.2.1) → exec (e.1 n o) s = .next (s.at n)))
    ∧ (∀ t0, s.heardAt o = some t0 → r.found.testBit 4 = false →
        (n < t0 + 100000000 → exec (.outletHeadLost n o) s = .next (s.at n))
        ∧ (t0 + 100000000 ≤ n → (s.convActive o || s.convState o == 1) = false → ∃ t, exec (.outletHeadLost n o) s = .next t
            ∧ (t.coolRec o).found.testBit 4 = true ∧ t.get coolStateIDer o = 0)
        ∧ (t0 + 100000000 ≤ n → (s.convActive o || s.convState o == 1) = true →
            exec (.outletHeadLost n o) s = .next ((((s.at n).beginFinding o 4 n).publishDerate o).immediateStop o 0x08 0 n)))
    ∧ (r.fallback = true → r.found = 0 → r.clearAt + 60000000000 ≤ n → exec (.fallbackEnd n o) s = .next ((s.at n).setCool o { r with fallback := false }))
    ∧ (r.found ≠ 0 ∨ n < r.clearAt + 60000000000 → exec (.fallbackEnd n o) s = .next (s.at n))
    ∧ (∀ t0, r.maxSince = some t0 → t0 + s.get coolOutletChillHold o * 1000000000 ≤ n →
        exec (.chillHold n o) s = .next (((s.at n).put coolStateFlags o (s.get coolStateFlags o ||| 2)).sendOutletCmd o))
    ∧ ((s.at n).pumpRuns o n = true → exec (.postRunEnd n o) s = .next (s.at n))
    ∧ ((s.at n).pumpRuns o n = false → ∀ j, s.slotOf o 2 = some j → ∃ t u : State, exec (.postRunEnd n o) s = .next t ∧ t = u.drivePump o n
        ∧ u.slotHist j = SlotHist.zero ∧ u.get ctlSlotState j = 1)

/-- The slow round shows the three supplies and the least VFLD seen; the fast round reads the sensors near a limit and does nothing with
none. A suspect sensor is voted out with its stamp, no other is. An orderly stop ends in SAFE-HOLD once every converter is in DISCHARGE or OFF and
the commit is made, or 200 ms after it began. A band and a throttle level rise at their boundary and fall only below it less 2 K and 3
K. -/
def Obligations.ThermalRule : Prop :=
∀ (n : Nat) (s : State),
    (∀ readings vfld vhost vbat, vfld < 2 ^ modeSupplyVfld.width → vhost < 2 ^ modeSupplyVhost.width → vbat < 2 ^ modeSupplyVbat.width →
        ∃ t, exec (.slowRound n readings vfld vhost vbat) s = .next t ∧ t.get modeSupplyVfld 0 = vfld ∧ t.get modeSupplyVhost 0 = vhost
          ∧ t.get modeSupplyVbat 0 = vbat ∧ (0 < vfld → t.get modeSupplyVfldMin 0 ≤ vfld))
    ∧ (∀ readings, (∀ j, j < 46 → s.get thermSensorRound j ≠ 1) → exec (.fastRound n readings) s = .next (s.at n))
    ∧ (∀ readings, (∃ j, j < 46 ∧ s.get thermSensorRound j = 1) → exec (.fastRound n readings) s =
        .next (((s.at n).readSensors ((List.range 46).filter fun j => s.get thermSensorRound j == 1) (fun _ => true) readings n).afterRound n))
    ∧ (∀ j : Fin 46, s.get thermSensorStatus j = 1 → n < 2 ^ 64 → ∃ t, exec (.sensorVoteOut n j) s = .next t ∧ t.get thermSensorStatus j = 2
        ∧ t.get thermSensorOutStamp j = n)
    ∧ (∀ j : Fin 46, s.get thermSensorStatus j ≠ 1 → exec (.sensorVoteOut n j) s = .next (s.at n))
    ∧ (s.get thermStateThermal 0 = 1 → ((∀ c, c < 13 → s.convState c = 0 ∨ s.convState c = 6) ∧ s.dur.frozenDone = true)
          ∨ (∃ a, s.cool.stopAt = some a ∧ a + 200000000 ≤ n) → exec (.orderlyStopEnd n) s = .next ((s.at n).thermalHold n))
    ∧ (s.get thermStateThermal 0 ≠ 1 → exec (.orderlyStopEnd n) s = .next (s.at n))
    ∧ ∀ (b : Nat) (x : Int), b ≤ 4 →
        (∀ j e, bandEdges[j]? = some e → (e ≤ x → j < bandFrom b x) ∧ (bandFrom b x ≤ j → j < b → x ≤ e - 20))
        ∧ ∀ j e, throttleEdges[j]? = some e → (e ≤ x → j < throttleFrom b x) ∧ (throttleFrom b x ≤ j → j < b → x ≤ e - 30)

/-- The 65th absent sample in a row on a channel, the 64th whole index, 16 low indices of all three voltages, 10 cycles of wrong order or
without reverse power make the event wait with the stamp of its last index, where that is not after the power-fail edge. Its row then takes
it: a quantity enters or leaves GAP with its bit shown; an event of Table 7-3 begins with its bit, its source and its tamper record, or ends
raising the source again; a reversed outlet is also retracted and stopped with cause 0x0E, a feeder trip sets feeder_tripped and bus
support and engages the fast path. Where nothing waits nothing happens. 100 ms of GAP with the converter not OFF stop the session; a shunt
temperature 1 s old sets flag [7]. -/
def Obligations.MeterEventRule : Prop :=
∀ (n : Nat) (s : State),
    (∀ (q : Fin 16) (k : Nat) (p : Int), s.counts k = true → (Tab.find s.met.due (gapKey q)).isNone → (Tab.find s.met.due (gapEndKey q)).isNone →
        ((s.quant q).gap = false → 65 ≤ s.quantAbsence q k → Tab.find (s.quantIndex q k p).met.due (gapKey q) = some (k * 15625))
        ∧ ((s.quant q).gap = true → 63 ≤ (s.quant q).whole → s.quantAbsence q k = 0 → Tab.find (s.quantIndex q k p).met.due (gapEndKey q) = some (k * 15625)))
    ∧ (∀ q : Fin 16, (∀ a, Tab.find s.met.due (gapKey q) = some a → ∃ t, exec (.gapBegin n q) s = .next t
            ∧ t.quant q = { s.quant q with gap := true, gapFrom := a / 15625 } ∧ t.bit meterStatusGap 0 q = true
            ∧ Tab.find t.met.due (gapKey q) = none ∧ t.mem = s.mem)
        ∧ (Tab.find s.met.due (gapKey q) = none → exec (.gapBegin n q) s = .next (s.at n))
        ∧ (∀ a, Tab.find s.met.due (gapEndKey q) = some a → ∃ t, exec (.gapEnd n q) s = .next t
            ∧ t.quant q = { s.quant q with gap := false } ∧ t.bit meterStatusGap 0 q = false ∧ t.mem = s.mem)
        ∧ (Tab.find s.met.due (gapEndKey q) = none → exec (.gapEnd n q) s = .next (s.at n)))
    ∧ (∀ o : Fin 12, ((s.quant o).gap = true → (s.quant o).gapFrom * 15625 + 100000000 ≤ n → s.convState o ≠ 0 →
            exec (.gapStopRequest n o) s = .next ((s.at n).stopSess o 10 0 n))
        ∧ ((s.quant o).gap = false ∨ n < (s.quant o).gapFrom * 15625 + 100000000 ∨ s.convState o = 0 → exec (.gapStopRequest n o) s = .next (s.at n))
        ∧ ((Tab.get s.met.shunt o (0, 0)).2 + 1000000000 ≤ n → ∃ t, exec (.shuntTempStale n o) s = .next t ∧ t.bit meterOutletFlags o 7 = true
            ∧ t = { s.at n with objs := t.objs })
        ∧ (n < (Tab.get s.met.shunt o (0, 0)).2 + 1000000000 → exec (.shuntTempStale n o) s = .next (s.at n))
        ∧ (∀ k, s.counts k = true → s.flag allocOutletBpt o = false → s.get meterOutletCfgRevMs o ≤ Tab.get s.met.revBad o 0 → s.bit meterStatusRevOut 0 o = false →
            Tab.find s.met.due (revKey o) = none → Tab.find (s.judgeReverse o k).met.due (revKey o) = some (k * 15625))
        ∧ (∀ a, Tab.find s.met.due (revKey o) = some a →
            let u := ((((s.at n).dropDue (revKey o)).putBit meterStatusRevOut 0 o true).raise 0x30 a).metTamper o 10 o n
            u.bit meterStatusRevOut 0 o = true ∧ u.quant o = s.quant o ∧ exec (.reversePowerOutlet n o) s = .next ((u.zeroCaps [o.val] n).immediateStop o 0x0E 0 n))
        ∧ (Tab.find s.met.due (revKey o) = none → exec (.reversePowerOutlet n o) s = .next (s.at n))
        ∧ (∀ a, Tab.find s.met.due (revEndKey o) = some a → ∃ t, exec (.metrologyEventEnd n (.reverseOutlet o)) s = .next t
            ∧ t = (((s.at n).dropDue (revEndKey o)).putBit meterStatusRevOut 0 o false).raise 0x30 a ∧ t.bit meterStatusRevOut 0 o = false))
    ∧ (∀ e : EndedCycle, (s.bit meterStatusEvents 0 1 = false → 10 ≤ s.runCycles 2 → Tab.find s.met.due (beginKey 1) = none →
            Tab.find (s.judgeCycle e).met.due (beginKey 1) = some ((e.stop - 1) * 15625))
        ∧ (s.bit meterStatusEvents 0 0 = true → 10 ≤ s.runCycles 1 → Tab.find s.met.due (endKey 0) = none →
            Tab.find (s.judgeCycle e).met.due (endKey 0) = some ((e.stop - 1) * 15625)))
    ∧ (∀ e : Instr × Nat, e ∈ [(.reversePowerIncomer n, 0), (.wrongPhaseSequence n, 1), (.missingNeutral n, 2), (.phaseLoss n, 3)] →
        let (i, b) := e
        (∀ a, Tab.find s.met.due (beginKey b) = some a → ∃ t, exec i s = .next t
            ∧ t = ((((s.at n).dropDue (beginKey b)).setMetEvent b true).raise (0x31 + b) a).metTamper 12 (11 + b) (if b = 3 then s.met.lossCh else 0) n
            ∧ t.bit meterStatusEvents 0 b = true ∧ ∀ x, x < 6 → x ≠ b → t.bit meterStatusEvents 0 x = s.bit meterStatusEvents 0 x)
        ∧ (Tab.find s.met.due (beginKey b) = none → exec i s = .next (s.at n)))
    ∧ (∀ e : MetEvent × Nat, e ∈ [(.reverseIncomer, 0), (.phaseSequence, 1), (.missingNeutral, 2), (.phaseLoss, 3)] →
        let (ev, b) := e
        (∀ a, Tab.find s.met.due (endKey b) = some a → ∃ t, exec (.metrologyEventEnd n ev) s = .next t
            ∧ t = (((s.at n).dropDue (endKey b)).setMetEvent b false).raise (0x31 + b) a ∧ t.bit meterStatusEvents 0 b = false)
        ∧ (Tab.find s.met.due (endKey b) = none → exec (.metrologyEventEnd n ev) s = .next (s.at n)))
    ∧ (∀ (k : Nat) (y : Nat → Int), (∀ c ∈ [36, 37, 38], 2 * y c * y c < s.vNomNv * s.vNomNv) → 15 ≤ s.met.low → s.flag allocSiteFeederTripped 0 = false →
        Tab.find s.met.due (beginKey 4) = none → Tab.find (s.tripIndex k y).met.due (beginKey 4) = some (k * 15625))
    ∧ (∀ a, Tab.find s.met.due (beginKey 4) = some a → ∃ u : State, exec (.feederTrip n) s = .next (u.fastTrip a)
        ∧ u.flag allocSiteFeederTripped 0 = true ∧ u.bit meterStatusEvents 0 4 = true ∧ u.get ctlStateBusSupport 12 = 1)
    ∧ (Tab.find s.met.due (beginKey 4) = none → exec (.feederTrip n) s = .next (s.at n))
    ∧ (∀ a, Tab.find s.met.due (endKey 4) = some a → ∃ t, exec (.feederTripClear n) s = .next t
        ∧ t.flag allocSiteFeederTripped 0 = false ∧ t.bit meterStatusEvents 0 4 = false ∧ t.met = (s.dropDue (endKey 4)).met)
    ∧ (Tab.find s.met.due (endKey 4) = none → exec (.feederTripClear n) s = .next (s.at n))

/-- A contribution to e_deliv below the register's end is kept whole: register times K plus remainder grows by exactly it. Indices after
the power-fail edge move no register. An index is formed once its samples are there or FM's settle time is past, after what waits from the
indices before; else nothing happens. A cycle that has ended is taken with its sums. A latch that is due holds the native registers by R198,
zero in net mode. Synthetic boundaries come at their multiples, ticks with the last index of their period; a calibration takes effect at
its index; the seal closes when its time is over; the residual record is written 2.5 ms after the freeze. -/
def Obligations.MeterRegisterRule : Prop :=
∀ (n : Nat) (s : State),
    (∀ (q : Nat) (a : Int), q < 16 → let f := (regFields q).1
        let i := (regFields q).2
        0 ≤ a → 0 ≤ (s.quant q).rhoD → s.get f.deliv i < 2 ^ 64 - 1 → s.num f.deliv i + ((s.quant q).rhoD + a) / muWh < 2 ^ 64 →
        let t := s.addDeliv q a
        t.num f.deliv i * muWh + (t.quant q).rhoD = s.num f.deliv i * muWh + (s.quant q).rhoD + a ∧ 0 ≤ (t.quant q).rhoD ∧ (t.quant q).rhoD < muWh
          ∧ t.get f.ret i = s.get f.ret i ∧ t.mem = s.mem)
    ∧ (∀ (o k : Nat) (p : Int) (b : Bool), s.counts k = false → (s.outletEnergy o k p b).objs = s.objs ∧ (s.outletEnergy o k p b).bill = s.bill)
    ∧ (n < s.met.next * 15625 + 100000 → (∃ c, c < 43 ∧ s.settledAt c (s.met.next + 5) = false) → exec (.sampleIndex n) s = .next (s.at n))
    ∧ (s.met.next * 15625 + 100000 ≤ n ∨ (∀ c, c < 43 → s.settledAt c (s.met.next + 5) = true) → s.stepsHeld n = false →
        let v := ((s.at n).takeWaiting n).boundaryIndex s.met.next n
        let u := v.formIndex
        exec (.sampleIndex n) s = .next ((if u.counts s.met.next then (outlets.foldl (fun w o => w.sessionIndex s.met.next n o) u).countPulses else u).freezeCommit).readyCheckpoint
          ∧ u.met.next = v.met.next + 1)
    ∧ (s.coreRuns 4 = false → n < s.met.next * 15625 + 1000000000 → exec (.sampleIndex n) s = .next (s.at n))
    ∧ (∀ e rest, s.met.ended = e :: rest → s.met.latchIn = none → exec (.lineCycleEnd n) s = .next (State.endCycle { s.at n with met := { s.met with ended := rest } } e)
        ∧ (State.endCycle { s.at n with met := { s.met with ended := rest } } e).met.cycles = s.met.cycles + 1
        ∧ ((s.met.cycles + 1) % max 1 (s.get meterSiteCompatN 0) = 0 → (State.endCycle { s.at n with met := { s.met with ended := rest } } e).met.latchIn = some e.stop))
    ∧ (s.met.ended = [] → exec (.lineCycleEnd n) s = .next (s.at n))
    ∧ (s.met.synthetic = false → 0 < s.get meterSiteFNom 0 → s.met.lastValid * s.get meterSiteFNom 0 + 2000000000 ≤ s.met.next * 15625 * s.get meterSiteFNom 0 →
        s.counts s.met.next = true → ∃ t, exec (.syntheticBoundary n) s = .next t ∧ t.met.synthetic = true
          ∧ t.bit meterStatusEvents 0 5 = true ∧ ∀ j, j < 4 → t.bit meterIncomerFlags j 7 = true)
    ∧ (s.met.synthetic = true → 0 < s.get meterSiteFNom 0 → s.met.synthNext * 1000000000 ≤ s.met.next * 15625 * s.get meterSiteFNom 0 → s.counts s.met.next = true →
        (s.met.cycle.add (s.met.since.getD (s.met.next, CycleAcc.zero)).2).n ≠ 0 → ∃ t e, exec (.syntheticBoundary n) s = .next t
          ∧ t.met.ended = s.met.ended ++ [e] ∧ e.at_ = s.met.synthNext * 1000000000 / s.get meterSiteFNom 0 ∧ e.first = s.met.cycleFrom ∧ e.stop = s.met.next
          ∧ e.acc = s.met.cycle.add (s.met.since.getD (s.met.next, CycleAcc.zero)).2 ∧ t.met.synthNext = s.met.synthNext + 1)
    ∧ ((s.met.tick + 1) * 1280 ≤ s.met.next → s.met.latchOut = none → exec (.outletTick n) s = .next { s.at n with met := { s.met with
        tick := s.met.tick + 1
        latchOut := if (s.met.tick + 1) % max 1 (s.get meterSiteCompatN 0) = 0 ∧ s.counts ((s.met.tick + 1) * 1280) = true then some ((s.met.tick + 1) * 1280) else none } })
    ∧ (s.met.next < (s.met.tick + 1) * 1280 → exec (.outletTick n) s = .next (s.at n))
    ∧ (∀ inc : Bool, let due := if inc then s.met.latchIn else s.met.latchOut
        (∀ k, due = some k → ∃ t, exec (.compatLatch n inc) s = .next t ∧ t.mem = s.mem ∧ ∀ q, (if inc then 12 ≤ q ∧ q < 16 else q < 12) →
          let f := (regFields q).1
          let i := (regFields q).2
          t.get f.ck i = k % 2 ^ 64 ∧ t.get f.deliv i = s.get f.deliv i ∧ t.get f.ret i = s.get f.ret i
            ∧ (s.netMode q = false → t.get f.cD i = s.get f.deliv i / 10 ^ 6 % 2 ^ 32 ∧ t.get f.cR i = s.get f.ret i / 10 ^ 6 % 2 ^ 32
                ∧ t.get f.wD i = s.get f.deliv i / (10 ^ 6 * 2 ^ 32) % 256 ∧ t.get f.wR i = s.get f.ret i / (10 ^ 6 * 2 ^ 32) % 256)
            ∧ (s.netMode q = true → t.get f.cD i = 0 ∧ t.get f.cR i = 0 ∧ t.get f.wD i = 0 ∧ t.get f.wR i = 0))
        ∧ (due = none → exec (.compatLatch n inc) s = .next (s.at n)))
    ∧ (∀ (ch : Fin 43) (k : Nat), Tab.find s.met.applyCal ch = some k →
        (k ≤ s.met.next → ∃ t, exec (.calibrationApply n ch) s = .next t ∧ t.calOf ch = s.calFields ch ∧ Tab.find t.met.applyCal ch = none ∧ t.mem = s.mem)
        ∧ (s.met.next < k → exec (.calibrationApply n ch) s = .next (s.at n))
        ∧ (∀ m, (m < k → s.calAt ch m = ((s.chan43 ch).cal.getD (s.calFields ch))) ∧ (k ≤ m → s.calAt ch m = s.calFields ch)))
    ∧ (∀ ch : Fin 43, Tab.find s.met.applyCal ch = none → exec (.calibrationApply n ch) s = .next (s.at n))
    ∧ (s.flag meterStatusSealOpen 0 = true → s.get meterStatusSealUntil 0 ≤ n → ∃ t, exec (.sealTimeout n) s = .next t
        ∧ t.flag meterStatusSealOpen 0 = false ∧ t.get meterStatusSealUntil 0 = 0 ∧ t.met = s.met)
    ∧ (s.flag meterStatusSealOpen 0 = false ∨ n < s.get meterStatusSealUntil 0 → exec (.sealTimeout n) s = .next (s.at n))
    ∧ (∀ tf, s.met.frozen = some tf → tf + 2500000 ≤ n → s.met.residualDone = false → ∃ t, exec (.residualRecord n) s = .next t ∧ t.met.residualDone = true
        ∧ t.get meterHoldupState 0 = 1 ∧ t.get meterHoldupFreezeK 0 = tf / 15625 % 2 ^ 64
        ∧ ∀ q, q < 16 → t.get (meterHoldupResidual q) 0 = ofSigned 64 (s.quant q).residual)
    ∧ (s.met.frozen = none ∨ s.met.residualDone = true → exec (.residualRecord n) s = .next (s.at n))

/-- Entering a state stamps it, arms that state's deadline and drops the others, and rewrites the exchange entry with its sequence word
raised by 2; a new session draws an identifier. A stop is taken from Negotiating to Transfer only, recording its reason; the first
reason stays. A stopped session goes to its weld check with the gates off and the contactors commanded open, only then. A timer's row, with
the deadline and its settle time of 200 µs past, has its effect stamped with the deadline (t_slac 100 % for 4 s; t_setup and the retry
to Plugged; t_seq, t_auth, t_cc stops; t_weld welded), an earlier one none; where an arrival lies after a deadline the deadline has its
effect first. The pilot class counts after 100 ms, at once for E, F and invalid. -/
def Obligations.SessionStateRule : Prop :=
∀ (n : Nat) (o : Fin 12) (s : State),
    let k := s.sess o
    (∀ st, st ≤ 9 → let t := s.goSess o st n
        let q := t.sess o
        q.st = st ∧ t.get vlSessionStateStamp o = n % 2 ^ 64
          ∧ q.tSlac = (if st = 1 ∧ k.retries < 3 then some (n + s.get vlOutletTSlac o * 1000000000) else none)
          ∧ q.tSetup = (if st = 2 then some (n + s.get vlOutletTSetup o * 1000000000) else none)
          ∧ q.tCc = (if st = 4 then some (n + s.get vlOutletTCc o * 1000000000) else none)
          ∧ q.tWeld = (if st = 8 then some (n + s.get vlOutletTWeld o * 1000000) else none)
          ∧ (st ≠ 1 → q.tRetry = none) ∧ (st ≠ 3 → q.tAuth = none) ∧ (st < 3 ∨ 6 < st → q.tSeq = none)
          ∧ (st = 3 → t.get vlSessionSessionId o = Config.freeValue s.free % 2 ^ 64 ∧ t.free = s.free + 1) ∧ (st = 0 → q = { Sess.reset with raw := k.raw, rawAt := k.rawAt, pilot := k.pilot })
          ∧ Memory.read t.mem (0x20700040 + 0x40 * o) 4 = t.linkSummary o % 2 ^ 32
          ∧ Memory.read t.mem 0x20700000 8 = (Memory.read s.mem 0x20700000 8 + 2) % 2 ^ 64)
    ∧ (∀ reason detail, (3 ≤ k.st → k.st ≤ 6 → s.gatesRest o = false ∨ s.commandedOpen o = false →
          let t := s.beginStop o reason detail n
          (t.sess o).st = 7 ∧ (t.sess o).stopAt = some n ∧ t.get vlSessionReason o = reason % 256 ∧ t.get vlSessionDetail o = detail % 256)
        ∧ (k.st < 3 ∨ 7 < k.st → s.beginStop o reason detail n = s)
        ∧ (∀ a, k.st = 7 → k.stopAt = some a → a < n →
          let t := s.beginStop o reason detail n
          (t.sess o).st = 7 ∧ (t.sess o).stopAt = some a ∧ t.get vlSessionReason o = s.get vlSessionReason o)
        ∧ s.stopSess o reason detail n = (s.linkUpTo o n).beginStop o reason detail n)
    ∧ s.stoppedRest o n = (if k.st = 7 ∧ s.convState o ∈ [0, 6, 8] ∧ (s.outSafe o).closing = false then (s.goSess o 8 n).statusMoves o n else s)
    ∧ (∀ e : (Nat → Fin 12 → Instr) × Option Nat × Nat × (Nat → State), e ∈ [(Instr.tSlac, k.tSlac, 0, fun d =>
            (s.setSess o { k with tSlac := none, tRetry := some (d + 4000000000), slac := Slac.reset }).setDuty o 1000),
          (Instr.pilotRetryEnd, k.tRetry, 1, fun d => s.backToPlugged o d), (Instr.tSetup, k.tSetup, 2, fun d => s.backToPlugged o d),
          (Instr.tSeq, k.tSeq, 3, fun d => (s.setSess o { k with tSeq := none }).beginStop o 5 3 d),
          (Instr.tAuth, k.tAuth, 4, fun d => (s.setSess o { k with tAuth := none }).beginStop o 6 4 d),
          (Instr.tCc, k.tCc, 5, fun d => (s.setSess o { k with tCc := none }).beginStop o 5 5 d),
          (Instr.tWeld, k.tWeld, 6, fun d => ((s.setSess o { k with welded := true, tWeld := none }).publishLink o).raise (0x10 + o) d)] →
        (∀ d, e.2.1 = some d → (d + 200000 ≤ n → exec (e.1 n o) s = .next ((s.at n).linkUpTo o (d + 1)))
          ∧ (d, e.2.2.1) ∈ k.timers ∧ s.expire o d e.2.2.1 = e.2.2.2 d)
        ∧ ((∀ d, e.2.1 = some d → n < d + 200000) → exec (e.1 n o) s = .next (s.at n)))
    ∧ (∀ m d i, k.firstDue m = some (d, i) → s.expireFirst o m = s.expire o d i ∧ (d, i) ∈ k.timers ∧ d < m ∧ ∀ p ∈ k.timers, d ≤ p.1)
    ∧ ((∀ p ∈ k.timers, n ≤ p.1) → s.linkUpTo o n = s)
    ∧ ((s.backToPlugged o n).sess o).retries = k.retries + 1
    ∧ (let u := (s.at n).linkUpTo o n
       let k := u.sess o
       (k.raw ≠ k.pilot → 4 ≤ k.raw ∨ (k.raw = 0 ∧ k.st = 6) ∨ k.rawAt + 100000000 ≤ n →
          exec (.pilotClass n o) s = .next ((((u.setSess o { k with pilot := k.raw }).raise 0x2C n).pilotMoves o k.raw n).publishLink o))
        ∧ (k.raw = k.pilot ∨ (k.raw < 4 ∧ ¬ (k.raw = 0 ∧ k.st = 6) ∧ n < k.rawAt + 100000000) → exec (.pilotClass n o) s = .next u))
    ∧ (k.st = 0 → s.get vlOutletKind o ≠ 0 → ∀ c, c = 1 ∨ c = 2 → s.pilotMoves o c n = s.goSess o 1 n)
    ∧ (1 ≤ k.st → k.st ≤ 3 → ∀ c, s.pilotMoves o c n = if c = 1 ∨ c = 2 then s else s.goSess o 0 n)
    ∧ (4 ≤ k.st → k.st ≤ 7 → s.pilotMoves o 0 n = s.beginStop o 3 0 n ∧ (∀ c, 3 ≤ c → s.pilotMoves o c n = s.beginStop o 4 0 n) ∧ s.pilotMoves o 2 n = s)

/-- SLAC is taken by a CCS outlet in Plugged with its oscillator running: parameters, sounding, the mean attenuation against atten_max, a
match with a fresh key, and the head's confirmation, which gives Linked; else its messages have no effect. An MCS outlet is Linked by
its link. SDP answers with a port drawn once and the TLS offer; one connection on it; a handshake failing, or a loss of the connection
before CableCheck, returns to Plugged, a later loss stops. The protocol chosen is enabled, offered, and over the transport R243
requires; with none the session returns to Plugged. -/
def Obligations.LinkSetupRule : Prop :=
∀ (n : Nat) (o : Fin 12) (s : State),
    let u := (s.at n).linkUpTo o n
    let k := u.sess o
    (u.slacOpen o = true ↔ u.get vlOutletKind o = 1 ∧ k.st = 1 ∧ k.tRetry = none ∧ k.retries < 3)
    ∧ (u.slacOpen o = true →
        (∀ r, exec (.cmSlacParm n o r) s = .next ((u.setSess o { k with slac := { Slac.reset with run := some r } }).emit (.vehicle o 1 [(r : Int)])))
        ∧ (∀ r m, k.slac.run = some r → exec (.cmStartAttenChar n o m) s = .next (u.setSess o { k with slac := { k.slac with sounds := m, got := 0, sum := 0, accepted := false } }))
        ∧ (∀ x, k.slac.got < k.slac.sounds → exec (.cmMnbcSound n o x) s = .next (u.setSess o { k with slac := { k.slac with got := k.slac.got + 1, sum := k.slac.sum + x } }))
        ∧ (0 < k.slac.got → ∃ t, exec (.cmAttenChar n o) s = .next t ∧ ((t.sess o).slac.accepted = true ↔ k.slac.sum ≤ u.get vlOutletAttenMax o * k.slac.got)
            ∧ t.out = .vehicle o 2 [(k.slac.sum : Int), (k.slac.got : Int)] :: u.out ∧ t.mem = u.mem ∧ t.objs = u.objs)
        ∧ (k.slac.accepted = true → ∃ t, exec (.cmSlacMatch n o) s = .next t ∧ (t.sess o).slac.nmk = some (Config.freeValue u.free) ∧ t.free = u.free + 1
            ∧ t.out = .vehicle o 3 [(Config.freeValue u.free : Int)] :: u.out)
        ∧ (∀ x, k.slac.nmk = some x → exec (.cmSetKey n o true) s = .next (u.goSess o 2 n) ∧ exec (.cmSetKey n o false) s = .next u))
    ∧ (u.slacOpen o = false → ∀ (x : Nat) (b : Bool) (i : Instr), i ∈ [.cmSlacParm n o x, .cmStartAttenChar n o x, .cmMnbcSound n o x, .cmAttenChar n o,
        .cmSlacMatch n o, .cmSetKey n o b] → exec i s = .next u)
    ∧ (u.get vlOutletKind o = 2 → k.st = 1 → k.tRetry = none → k.retries < 3 → exec (.linkEstablished n o) s = .next (u.goSess o 2 n))
    ∧ (u.get vlOutletKind o ≠ 2 ∨ k.st ≠ 1 → exec (.linkEstablished n o) s = .next u)
    ∧ (k.st = 2 → ∀ wantTls v2 : Bool, ∃ t, exec (.sdp n o wantTls v2) s = .next t ∧ (t.sess o).tlsDue = (wantTls || (v2 && u.bit vlOutletFlags o 3))
        ∧ (t.sess o).port = (if k.port = 0 then 49152 + Config.freeValue u.free % 16384 else k.port)
        ∧ t.out = .vehicle o 4 [((t.sess o).port : Int), if (t.sess o).tlsDue then 1 else 0] :: u.out ∧ t.mem = u.mem ∧ t.objs = u.objs)
    ∧ (k.st = 2 → k.tcp = false → k.port ≠ 0 → exec (.tcpConnect n o k.port) s = .next (u.setSess o { k with tcp := true }))
    ∧ (∀ p, k.st ≠ 2 ∨ k.tcp = true ∨ k.port ≠ p ∨ p = 0 → exec (.tcpConnect n o p) s = .next u)
    ∧ (k.st = 2 → k.tcp = true → k.tlsDue = true → exec (.tlsHandshake n o true) s = .next ((u.setSess o { k with tls := true }).publishLink o)
        ∧ exec (.tlsHandshake n o false) s = .next (u.backToPlugged o n))
    ∧ (let v := u.setSess o { k with tcp := false, tls := false }
       exec (.tcpLost n o) s = .next (if k.st = 2 ∨ k.st = 3 then v.backToPlugged o n else if 4 ≤ k.st ∧ k.st ≤ 6 then v.beginStop o 12 0 n else v))
    ∧ ∀ offered : BitVec 3,
        let fits (b : Nat) : Prop := offered.getLsbD b = true ∧ u.bit vlOutletProtocols o b = true ∧ (u.get vlOutletKind o = 2 → b = 2)
          ∧ (b = 2 → k.tls = true) ∧ (b = 0 → k.tls = false) ∧ (b = 1 → k.tls = false → k.tlsDue = false ∧ u.bit vlOutletFlags o 3 = false)
        (k.st ≠ 2 ∨ k.tcp = false → exec (.supportedAppProtocol n o offered) s = .next u)
        ∧ (k.st = 2 → k.tcp = true → (∀ b, b < 3 → ¬ fits b) → exec (.supportedAppProtocol n o offered) s =
            .next ((((u.put vlSessionReason o 12).put vlSessionDetail o 0).emit (.vehicle o 5 [3])).backToPlugged o n))
        ∧ (k.st = 2 → k.tcp = true → ∀ b ∈ protoOrder (u.get vlOutletPrefer o), fits b →
            (∀ c ∈ (protoOrder (u.get vlOutletPrefer o)).takeWhile (· != b), ¬ fits c) → ∃ t, exec (.supportedAppProtocol n o offered) s = .next t
              ∧ (t.sess o).st = 3 ∧ (t.sess o).proto = b + 1 ∧ t.out = .vehicle o 5 [0, (b : Int)] :: u.out)

/-- Authorisation follows EIM or a valid contract chain and waits for a mode that energises. Parameters are recorded and answered with the
page's limits. CableCheck needs authorisation, parameters and pilot C; Precharge the page's bit [10]; Transfer bits [14] and [8]. A
charge loop's targets are taken, a discharge target only with BPT. The vehicle's stop is answered and then stops with reason 1;
certificate installation is answered FAILED. A request out of sequence is answered as a sequence error. A limit goes out with the least
multiplier that fits 16 signed bits. -/
def Obligations.ChargingMessageRule : Prop :=
∀ (n : Nat) (o : Fin 12) (s : State),
    let u := (s.at n).linkUpTo o n
    let k := u.sess o
    (∀ v, ∃ x m : Nat, encodeLimit v 0 10 = [(x : Int), (m : Int)] ∧ x = v / 10 ^ m ∧ (v < 32768 * 10 ^ 10 → x ≤ 32767) ∧ (0 < m → 32767 < v / 10 ^ (m - 1)))
    ∧ (k.st = 3 → k.auth < 3 → ∀ chain cid, let eim := k.eim || u.bit vlOutletFlags o 0
        ∃ t, exec (.authorizationReq n o false chain cid) s = .next t
          ∧ (t.sess o).auth = (if eim = false then max k.auth 1 else if u.modeEnergises then 3 else 2)
          ∧ t.out = .vehicle o 6 [if eim && u.modeEnergises then 0 else 1] :: u.out)
    ∧ (k.st = 3 → k.auth < 3 → u.bit vlOutletFlags o 1 = true → k.proto ≠ 1 → u.bit vlOutletFlags o 2 = false → u.modeEnergises = true → ∀ chain cid,
        u.chainOk chain n = true → ∃ t, exec (.authorizationReq n o true chain cid) s = .next t ∧ (t.sess o).auth = 3 ∧ (t.sess o).pncOk = true
          ∧ t.get vlSessionContractId o = cid % 2 ^ vlSessionContractId.width ∧ t.out = .vehicle o 6 [0] :: u.out)
    ∧ (∀ (p : VehParams) (chain : List Cert) (b : Bool) (x : Nat) (l : LoopReq) (e : Instr × Nat × List Nat), e ∈ [(.authorizationReq n o b chain x, 6, [4, 5, 6]),
          (.parameterExchange n o p, 7, [4, 5, 6]), (.cableCheckReq n o x, 8, [5, 6]), (.preChargeReq n o x, 9, [3, 6]), (.powerDeliveryReq n o true, 10, [3, 4, 6]),
          (.chargeLoopReq n o l, 11, [3, 4, 5])] → (k.st ∈ e.2.2 → exec e.1 s = .next (u.respond o e.2.1 [5] n)) ∧ (k.st < 3 ∨ 6 < k.st → exec e.1 s = .next u))
    ∧ (k.st = 3 → ∀ p : VehParams, ∃ t, exec (.parameterExchange n o p) s = .next t ∧ (t.sess o).params = true ∧ (t.sess o).iMax = p.iMax.toNat
        ∧ (t.sess o).vMax = p.vMax.toNat ∧ (t.sess o).pMax = p.pMax.toNat ∧ ((t.sess o).bpt = true → p.bpt = true ∧ u.flag allocOutletBpt o = true)
        ∧ t.get vlSessionEvccid o = p.evccid.toNat % 2 ^ 64
        ∧ t.out = .vehicle o 7 (0 :: (u.limitsOf o ++ if (t.sess o).scheduled then u.scheduleOf o else [])) :: u.out)
    ∧ (∀ v, k.st = 3 → k.auth = 3 → k.params = true → exec (.cableCheckReq n o v) s = .next (if k.pilot = 2 then
          ((u.setSess o { k with vTest := v }).goSess o 4 n).respond o 8 [1] n else u.respond o 8 [2] n))
    ∧ (∀ v, k.st = 4 → exec (.cableCheckReq n o v) s = .next (u.respond o 8 [if u.status o 10 then 4 else 1] n))
    ∧ (∀ v, k.st = 4 ∨ k.st = 5 → ∃ t, exec (.preChargeReq n o v) s = .next t ∧ (t.sess o).pcReq = true ∧ (t.sess o).vPc = v
        ∧ (t.sess o).st = (if k.st = 4 ∧ u.status o 10 = false then 4 else 5) ∧ ∃ l, t.out = .vehicle o 9 (0 :: l) :: u.out)
    ∧ (k.st = 5 → ∃ t, exec (.powerDeliveryReq n o true) s = .next t ∧ (t.sess o).pd = true
        ∧ (t.sess o).st = (if u.status o 14 = true ∧ u.status o 8 = true then 6 else 5)
        ∧ t.out = .vehicle o 10 [if u.status o 14 = true ∧ u.status o 8 = true then 0 else 1] :: u.out)
    ∧ (3 ≤ k.st → k.st ≤ 6 → exec (.powerDeliveryReq n o false) s = .next (((u.respond o 10 [0] n).beginStop o 1 0 n).publishLink o)
        ∧ exec (.pauseReq n o) s = .next (((u.respond o 15 [2] n).beginStop o 1 0 n).publishLink o)
        ∧ exec (.certificateInstallationReq n o) s = .next (u.respond o 14 [2] n))
    ∧ (3 ≤ k.st → k.st ≤ 8 → exec (.sessionStopReq n o) s = .next (((u.respond o 13 [0] n).beginStop o 1 0 n).publishLink o)
        ∧ exec (.weldingDetectionReq n o) s = .next (u.respond o 12 [0, toSigned 32 (Memory.read u.mem (0x60000000 + 0x1000 * o + 0x10) 4)] n))
    ∧ (k.st < 3 ∨ 8 < k.st → ∀ i, i ∈ [Instr.sessionStopReq n o, .weldingDetectionReq n o, .pauseReq n o, .certificateInstallationReq n o, .powerDeliveryReq n o false] →
        exec i s = .next u)
    ∧ (k.st = 6 → ∀ p : LoopReq, 
        let q : Sess := { k with vTarget := p.vTarget.toNat, iTarget := p.iTarget.toInt.toNat, iDisTarget := if k.bpt then p.iDisTarget.toNat else 0 }
        let v := (u.setSess o { q with soc := p.soc.toNat }).respond o 11 (0 :: u.limitsOf o) n
        exec (.chargeLoopReq n o p) s = .next (if p.stop then (v.beginStop o 1 0 n).publishLink o else v))
    ∧ (∀ msg args, let t := u.respond o msg args n
        t.out = .vehicle o msg args :: u.out ∧ (t.sess o).st = k.st
          ∧ (3 ≤ k.st → k.st ≤ 6 → (t.sess o).tSeq = some (n + u.get vlOutletTSeq o * 1000000000)))

/-- A gate served at the link core answers in its registers as Table 9-10 says and changes no other core; unserved, nothing. The request
word at the front of a core's effect queue leaves it and is handed over with the staged fields; the same request again changes no
converter state, a new one acts as its code says: 1 energises, 4 is a controlled stop, 5 an immediate stop, 6 and 7 end the session; 3
grants closing only while permitted; a converter deadline passed has its effect before. 100 ms (and the settle time) without a request word, with the converter not OFF, is a lapse: bit
[15], source 0x2D, a controlled stop. -/
def Obligations.GateAndPageRule : Prop :=
∀ (n : Nat) (s : State),
    (∀ (g : Nat) (r : GateReq), (s.core (s.physical 3)).serving = some (g, r) →
      let c := s.physical 3
      let o := gateArg r.args 0
      let x := gateArg r.args 1
      (g = 0 → ∃ t, exec (.gateSession n) s = .next t ∧ t = { s.at n with cores := t.cores } ∧ (∀ d, d ≠ c → t.core d = s.core d)
        ∧ (t.core c).reg 1 = BitVec.ofNat 64 (if 12 ≤ o ∨ (s.sess o).st = 0 then 1 else 0) ∧ (t.core c).reg 2 = BitVec.ofNat 64 (s.linkSummary o)
        ∧ (t.core c).reg 3 = BitVec.ofNat 64 (s.get vlSessionSessionId o)
        ∧ (t.core c).reg 4 = BitVec.ofNat 64 ((s.sess o).soc % 256 + s.get vlSessionReason o * 256) ∧ ∀ q, 5 ≤ q → (t.core c).reg q = (s.core c).reg q)
      ∧ (∀ u, g = 1 → o < 12 → (s.at n).authorizeSess o (x == 1) n = some u → exec (.gateAuthorize n) s = .next (u.setCore c ((u.core c).setReg 1 0)))
      ∧ (g = 1 → 12 ≤ o ∨ (s.at n).authorizeSess o (x == 1) n = none → exec (.gateAuthorize n) s = .next ((s.at n).setCore c ((s.core c).setReg 1 1)))
      ∧ (let v := (s.at n).linkUpTo o n
         ((s.at n).authorizeSess o (x == 1) n = none ↔ (v.sess o).st ≠ 3 ∨ (v.sess o).auth = 0 ∨ (v.sess o).auth = 3)
        ∧ (g = 2 → o < 12 → 3 ≤ (v.sess o).st → (v.sess o).st ≤ 6 → let u := v.beginStop o 7 (x % 256) n
            exec (.gateStop n) s = .next (u.setCore c ((u.core c).setReg 1 0)))
        ∧ (g = 2 → o < 12 → (v.sess o).st < 3 ∨ 6 < (v.sess o).st → exec (.gateStop n) s = .next (v.setCore c ((v.core c).setReg 1 1))))
      ∧ (g = 2 → 12 ≤ o → exec (.gateStop n) s = .next ((s.at n).setCore c ((s.core c).setReg 1 1))))
    ∧ ((s.core (s.physical 3)).serving = none → ∀ i, i ∈ [Instr.gateSession n, .gateAuthorize n, .gateStop n] → exec i s = .next (s.at n))
    ∧ (∀ (c : Fin 6) (p : Instr × Nat), p ∈ [(.hold n c, 0), (.energise n c, 1), (.precharge n c, 2), (.contactorsClosed n c, 3), (.controlledStop n c, 4),
          (.immediateStop n c, 5), (.openContactors n c, 6), (.unlock n c, 7)] →
        (∀ e o, s.eqFront c = some e → pageOfWord e.addr = some o → e.data.toNat % 256 = p.2 →
          exec p.1 s = .next ((((s.at n).eqPop c).commitPage o e.data.toNat n).entryLeft c n) ∧ ((s.at n).eqPop c).eqFront c = (s.core c).eq.tail.head?)
        ∧ ((∀ e o, s.eqFront c = some e → pageOfWord e.addr = some o → e.data.toNat % 256 ≠ p.2) → exec p.1 s = .next (s.at n)))
    ∧ (∀ o w, let v := s.ctlDue o n
        let q := v.takenPage o w n
        let u := State.setStatus { v with pages := Tab.set v.pages o q } o 15 false n
        s.commitPage o w n = (if w % 256 = (v.page o).request then u else (u.requestConverter o (w % 256) n).requestSafety o (w % 256) n)
          ∧ q.request = w % 256 ∧ q.reason = w / 256 % 256 ∧ q.at_ = n ∧ q.pilotDuty = (v.page o).stagedDuty
          ∧ q.vSet = Memory.read v.mem (pageBase o + 0x00C) 4 ∧ q.iTarget = Memory.read v.mem (pageBase o + 0x010) 4)
    ∧ (∀ o, s.requestConverter o 1 n = s.energise o n ∧ s.requestConverter o 4 n = (s.controlledStop o n).sessionEnds o n
        ∧ s.requestConverter o 5 n = s.immediateStop o 0x11 0 n ∧ s.requestConverter o 6 n = s.sessionEnds o n ∧ s.requestConverter o 7 n = s.sessionEnds o n
        ∧ (s.convState o ≠ 2 → s.requestConverter o 2 n = s) ∧ s.requestConverter o 0 n = s)
    ∧ (∀ o, s.requestSafety o 0 n = s ∧ s.requestSafety o 4 n = s ∧ (s.permitted o = false → s.requestSafety o 3 n = s)
        ∧ ∀ q, q ∈ [1, 2, 6, 7] → s.requestSafety o q n = s.withdrawClosing o n)
    ∧ ∀ o : Fin 12, (s.convState o ≠ 0 → (s.page o).at_ + 100000000 + settleFc ≤ n → s.status o 15 = false →
          exec (.heartbeatLapse n o) s = .next (((((s.at n).setStatus o 15 true n).raise 0x2D n).controlledStop o n).sessionEnds o n))
        ∧ (s.convState o = 0 ∨ n < (s.page o).at_ + 100000000 + settleFc ∨ s.status o 15 = true → exec (.heartbeatLapse n o) s = .next (s.at n))

/-- A channel evaluates once per cycle; its filter follows a land after n contrary samples in a row. It grants an outlet only with
commissioned parameters, no SF1, no channel fault, no stop, no weld, current streams and no hold; the permission is both channels'
grant. A partner silent for 3 ms is a channel fault, a pair differing for over 50 ms a discrepancy that demands its function, SRESET
low over 5 s is stuck. A group switches on in checked steps, anything else a group fault. Closing ends at t_cd; a feedback closed 100
ms later is a weld; one open 100 ms while granted stops the outlet; v_conv from 12 1 s after gates off holds it. -/
def Obligations.SafetyChannelRule : Prop :=
∀ (n : Nat) (s : State),
    (∀ ch lands a b, (s.sup.bootStep < 4 → exec (.safetyCycle n ch lands a b) s = .next (s.at n))
        ∧ (4 ≤ s.sup.bootStep → ∃ t, exec (.safetyCycle n ch lands a b) s = .next t ∧ (t.chn ch).started = true ∧ (t.chn ch).at_ = n
            ∧ (t.chn ch).cycles = (s.chn ch).cycles + 1))
    ∧ (∀ m (k : Chn) i level, let q := filterLand m k i level
        (k.lvl.testBit i = level → q.lvl = k.lvl ∧ Tab.get q.cnt i 0 = 0)
        ∧ (k.lvl.testBit i ≠ level → Tab.get k.cnt i 0 + 1 < m → q.lvl = k.lvl ∧ Tab.get q.cnt i 0 = Tab.get k.cnt i 0 + 1)
        ∧ (k.lvl.testBit i ≠ level → m ≤ Tab.get k.cnt i 0 + 1 → q.lvl.testBit i = level ∧ Tab.get q.cnt i 0 = 0 ∧ ∀ j, j ≠ i → q.lvl.testBit j = k.lvl.testBit j))
    ∧ (∀ c o, s.permits c o = true → s.flag safetyStateCommitted 0 = true ∧ (s.chn c).sf1 = false ∧ s.get safetyStateChanFault 0 = 0
        ∧ ((s.chn c).sf2 = true → s.bit safetyParamGuardMask 0 o = false) ∧ (s.outSafe o).stop = 0 ∧ s.bit safetyStateWelded 0 o = false
        ∧ (s.recv1 o).current = true ∧ (∀ h ∈ s.stageHeads o, (s.recv3 h).current = true) ∧ (s.outSafe o).held = false ∧ s.get modeStateHold 0 = 0 ∧ s.get modeStateMode 0 ≠ 4)
    ∧ (∀ c (o : Fin 12), (((s.evaluate c n o).chn c).permit.testBit o = true → (s.endStops o).permits c o = true)
        ∧ (s.combine o n).permitted o = (s.safe.sa.permit.testBit o && s.safe.sb.permit.testBit o))
    ∧ (∀ ch, let k := s.chn ch
        let p := s.chn (partnerOf ch)
        let due := (p.started = true ∧ p.at_ + 3000000 ≤ n) ∨ (p.started = false ∧ 3 ≤ k.cycles)
        (k.started = true → due → exec (.partnerRecordTimeout n ch) s = .next ((s.at n).channelFault ch 0x0D n))
        ∧ (k.started = false ∨ ¬ due → exec (.partnerRecordTimeout n ch) s = .next (s.at n)))
    ∧ (∀ guard : Bool, let p := if guard then 1 else 0
        let late (k : Chn) : Prop := k.disc.testBit p = false ∧ ∃ d, Tab.find k.diff p = some d ∧ d + 50000000 < n
        (¬ late s.safe.sa → ¬ late s.safe.sb → exec (.discrepancy n guard) s = .next (s.at n))
        ∧ (late s.safe.sa ∨ late s.safe.sb → ∃ t, exec (.discrepancy n guard) s = .next t ∧ (late s.safe.sa → t.safe.sa.disc.testBit p = true)
            ∧ (late s.safe.sb → t.safe.sb.disc.testBit p = true) ∧ (guard = false → t.flag safetyStateSf1 0 = true) ∧ (guard = true → t.flag safetyStateSf2 0 = true)))
    ∧ (let late := (∃ f, s.safe.sa.fall = some f ∧ f + 5000000000 < n) ∨ ∃ f, s.safe.sb.fall = some f ∧ f + 5000000000 < n
       (late → s.flag safetyStateStuck 0 = false → exec (.sresetStuck n) s = .next (((s.at n).put safetyStateStuck 0 1).trip none 0xFF 0x11 0 n))
       ∧ (¬ late ∨ s.flag safetyStateStuck 0 = true → exec (.sresetStuck n) s = .next (s.at n)))
    ∧ (∀ (g : Fin 2) (hfb lfb : Bool), let k := s.grp g
        let u := ((s.at n).putFlag safetySoHfb g hfb).putFlag safetySoLfb g lfb
        (k.step = 1 → k.at_ + 200000 ≤ n → exec (.soSwitchOnCheck n g hfb lfb) s = .next (if hfb = true ∧ lfb = true then u.stepGrp g 2 n else u.groupFault g n))
        ∧ (k.step = 2 → k.at_ + 200000 ≤ n → exec (.soSwitchOnCheck n g hfb lfb) s = .next (if lfb = false then u.stepGrp g 3 n else u.groupFault g n))
        ∧ (k.step = 0 → exec (.soSwitchOnCheck n g hfb lfb) s = .next (s.at n))
        ∧ (k.step = 3 ∨ (k.step ≠ 0 ∧ n < k.at_ + 200000) → exec (.soSwitchOnCheck n g hfb lfb) s = .next u)
        ∧ (∀ high : Bool, k.step = 3 → s.safe.sa.cycles % 1000 = (if high then 0 else 500) → let l := (if high then 3 else 4) + 2 * g.val
            let u := ((s.at n).drive l false).drive l true
            exec (.darkTest n g high hfb lfb) s = .next (if hfb = !high ∧ lfb = !high then u.incWrap safetySoTests g 1 else u.groupFault g n))
        ∧ (∀ high : Bool, k.step ≠ 3 ∨ s.safe.sa.cycles % 1000 ≠ (if high then 0 else 500) → exec (.darkTest n g high hfb lfb) s = .next (s.at n)))
    ∧ ∀ o : Fin 12, let k := s.outSafe o
        let closed := (s.safe.sa.view1 o).fb ≠ 0 ∨ (s.safe.sb.view1 o).fb ≠ 0
        let high := (12 ≤ (s.safe.sa.view1 o).vConv ∨ 12 ≤ (s.safe.sb.view1 o).vConv) ∧ ((s.safe.sa.view1 o).at_ ≠ none ∨ (s.safe.sb.view1 o).at_ ≠ none)
        (∀ e, k.closeEnd = some e → exec (.contactorClosingWithdrawn n o) s = .next (if e ≤ n then (s.at n).withdrawClosing o n else s.at n))
        ∧ (k.closeEnd = none → exec (.contactorClosingWithdrawn n o) s = .next (s.at n))
        ∧ ((s.withdrawClosing o n).outSafe o).closing = false ∧ ((s.withdrawClosing o n).outSafe o).closeEnd = none
        ∧ (k.closing = false → closed → k.withdrawnAt + 100000000 ≤ n → exec (.weldVerdict n o) s = .next ((s.at n).weld o n))
        ∧ (k.closing = true ∨ ¬ closed ∨ n < k.withdrawnAt + 100000000 → exec (.weldVerdict n o) s = .next (s.at n))
        ∧ (s.weld o n).bit safetyStateWelded 0 o = true
        ∧ (∀ a, k.openSince = some a → k.closing = true → a + 100000000 ≤ n → k.stop.testBit 5 = false →
            exec (.contactorDiscrepancy n o) s = .next ((((s.at n).trip none o 0x12 3 n).setStatus o 9 true n).demandStop o 5 n))
        ∧ (k.openSince = none ∨ k.closing = false → exec (.contactorDiscrepancy n o) s = .next (s.at n))
        ∧ (∀ g, k.gatesAt = some g → g + 1000000000 ≤ n → high → k.held = false → k.discharged = false → ∃ t, exec (.sf6DischargeTimeout n o) s = .next t
            ∧ (t.outSafe o).held = true ∧ t.convState o = 8)
        ∧ (k.gatesAt = none ∨ ¬ high ∨ k.held = true ∨ k.discharged = true → exec (.sf6DischargeTimeout n o) s = .next (s.at n))

/-- An item with a wrong CRC is discarded, a CAN copy that an injection on its channel takes away is not seen. A number 1 to 8 ahead of the last, or any after a failure, follows; the third discard in a row
fails the stream. Of an outlet on both networks the first copy waits and a partner over the other network within 5 ms with equal
content is accepted, an unequal one fails the stream with 0x08, none by 5 ms with 0x09. Nothing accepted for 30 ms fails it with 0x09, once the
settle time has passed or an item stamped later has come. A command item is sent when its content has changed or its period is over, with the next number. -/
def Obligations.SafeDataRule : Prop :=
∀ (n : Nat) (s : State),
    (∀ (net : Sys2Proof.Net) (item : BitVec 64), let x := item.toNat
      let id := itemByte x 0 % 64
      let late (i : Nat) : Prop := (s.streamOf i).current = true ∧ (s.streamOf i).okAt + 30000000 < n
      let ch := s.get safetyOutletCanCh id
      let c := (s.at n).canUnit ch n
      (net = .can → ch < 4 → c.1 = true → exec (.safeDataItem n net item) s = .next c.2)
      ∧ ((net = .can → ch < 4 → untouched s 5 ch 0 n) → (itemGood x = false → exec (.safeDataItem n net item) s = .next (s.at n))
      ∧ (itemGood x = true → itemByte x 0 / 64 = 1 → id < 12 → exec (.safeDataItem n net item) s = .next ((if late id then (s.at n).streamLost id n else s.at n).item1 net id (itemByte x 1) x n))
      ∧ (itemGood x = true → itemByte x 0 / 64 = 3 → id < 48 → net = .avenue → exec (.safeDataItem n net item) s =
          .next ((if late (12 + id) then (s.at n).streamLost (12 + id) n else s.at n).item3 id (itemByte x 1) x n))
      ∧ (itemByte x 0 / 64 = 0 ∨ itemByte x 0 / 64 = 2 → exec (.safeDataItem n net item) s = .next (s.at n))))
    ∧ (∀ (r : Recv) (q : Nat), q < 256 → (r.follows q = true ↔ r.last = none ∨ ∃ l d, r.last = some l ∧ 1 ≤ d ∧ d ≤ 8 ∧ (l < 256 → q = (l + d) % 256) ∧ (256 ≤ l → (q + 256 - l) % 256 = d)))
    ∧ (∀ (net : Sys2Proof.Net) (o : Fin 12) (q x : Nat), let r := s.recv1 o
        let st := itemByte x 2
        let give (u : State) : State := u.toChannels (.item1 o st (itemByte x 3) (itemByte x 4)) n
        (s.get safetyOutletCanCh o = 0xFF → net = .avenue → r.pends = [] → r.follows q = true → s.item1 net o q x n = give (s.setRecv1 o (r.accept q n)))
        ∧ (s.get safetyOutletCanCh o ≠ 0xFF → (∀ p ∈ r.pends, p.seq ≠ q) → r.follows q = true → s.item1 net o q x n =
            State.toChannels (s.setRecv1 o { r with discards := 0, pends := r.pends ++ [{ net := net, seq := q, item := x, t1 := n, gone := false }] }) (.first o st) n)
        ∧ (∀ p, r.pends = [p] → p.seq = q → p.net ≠ net → n ≤ p.t1 + 5000000 → s.get safetyOutletCanCh o ≠ 0xFF →
            let w : Recv := { r with pends := [] }
            s.item1 net o q x n = if p.item = x then give (s.setRecv1 o (w.accept q n)) else (s.setRecv1 o w.fail).streamFails o 0x08 safetyStateSdMismatch n)
        ∧ (s.get safetyOutletCanCh o ≠ 0xFF → r.pends = [] → r.follows q = false → r.last ≠ some q → s.item1 net o q x n =
            if 2 ≤ r.discards then (s.setRecv1 o r.fail).streamFails o 0x09 safetyStateSdAbsent n else s.setRecv1 o { r with discards := r.discards + 1 }))
    ∧ (∀ (r : Recv) (q : Nat), (r.accept q n).out = false ∧ (r.accept q n).okAt = n ∧ (r.accept q n).discards = 0 ∧ r.fail.out = true ∧ r.fail.last = none)
    ∧ (∀ o : Fin 12, let r := s.recv1 o
        ((∀ p ∈ r.pends, n < p.t1 + 5000000 + settleSafe) → exec (.safeDataAbsence n o) s = .next (s.at n))
        ∧ ((∃ p ∈ r.pends, p.t1 + 5000000 + settleSafe ≤ n) → ∃ t, exec (.safeDataAbsence n o) s = .next t ∧ (t.recv1 o).out = true ∧ (t.recv1 o).last = none
            ∧ ∀ p ∈ (t.recv1 o).pends, n < p.t1 + 5000000 + settleSafe))
    ∧ (∀ i, i < 12 → let r := s.recv1 i
        (r.current = true → r.okAt + 30000000 + settleSafe ≤ n → exec (.safeDataWatchdog n i) s = .next (((s.at n).setRecv1 i r.fail).streamFails i 0x09 safetyStateSdAbsent n))
        ∧ (r.current = false ∨ n < r.okAt + 30000000 + settleSafe → exec (.safeDataWatchdog n i) s = .next (s.at n)))
    ∧ (∀ h, h < 48 → let r := s.recv3 h
        (r.current = true → r.okAt + 30000000 + settleSafe ≤ n → exec (.safeDataWatchdog n (12 + h)) s =
          .next ((s.outletsOfStage h).foldl (fun u o => u.streamFails o 0x09 safetyStateSdAbsent n) ((s.at n).setRecv3 h r.fail)))
        ∧ (r.current = false ∨ n < r.okAt + 30000000 + settleSafe → exec (.safeDataWatchdog n (12 + h)) s = .next (s.at n)))
    ∧ (∀ ch, ((s.chn ch).started = false → exec (.safeDataSend n ch) s = .next (s.at n))
        ∧ ((s.chn ch).started = true → let u := outlets.foldl (fun v o => v.sendItem0 ch n o) (s.at n)
          exec (.safeDataSend n ch) s =
            .next (((List.range 48).filter fun h => (List.range 13).any fun c => (u.stageHeads c).contains h).foldl (fun v h => v.sendItem2 ch n h) u))
        ∧ ∀ o h, o < 12 → s.outletHead o = some h →
            let x := Tab.get s.safe.sent0 o Sent.reset
            let c := s.cmd0 .sa o + 256 * s.cmd0 .sb o
            (x.cmd = c → (∃ l, x.at_ = some l ∧ n < l + 10000000) → s.sendItem0 ch n o = s)
            ∧ (x.cmd ≠ c ∨ (∀ l, x.at_ = some l → l + 10000000 ≤ n) → Tab.get (s.sendItem0 ch n o).safe.sent0 o Sent.reset = { seq := (x.seq + 1) % 256, cmd := c, at_ := some n }))

/-- Frames of a provisioned string, but for those an injection on its channel takes away, build the set begun by ST, which ends when whole or at the next ST; of another string nothing is taken.
The counted charge stays between empty and full. A step counts, keeps the mean voltage before it, and shows the limits it computed. A
current absent over 10 ms, no set for 1 s, or ten absences put a string out. A rest point takes the voltage's state of charge and
begins a cycle; the fit follows a step after 30 s; a 5 % gap at 2 min is drift. Limits are published at each 10 ms, or at once on a
fall over 5 %. -/
def Obligations.BatteryRule : Prop :=
∀ (n : Nat) (q : Fin 8) (s : State),
    let k := s.str q
    let here := s.strings.contains q.val
    let quiet := untouched s 5 (s.get battStringCanCh q) 0 n
    let a := (s.at n).canUnit (s.get battStringCanCh q) n
    (here = true → a.1 = true → ∀ (b : BitVec 8) (x y : Bool) (e f : BitVec 16) (g : Fin 8) (h : Fin 4) (v : List (BitVec 16)) (w : List (BitVec 8)) (z : BitVec 64) (i : Instr),
        i ∈ [.st n q b x y e f, .mv n q g v, .mt n q h w, .sn n q z] → exec i s = .next a.2)
    ∧ (here = false → ∀ (b : BitVec 8) (x y : Bool) (e f : BitVec 16) (g : Fin 8) (h : Fin 4) (v : List (BitVec 16)) (w : List (BitVec 8)) (z : BitVec 64) (i : Instr),
        i ∈ [.st n q b x y e f, .mv n q g v, .mt n q h w, .sn n q z, .currentGap n q, .stringOut n q] → exec i s = .next (s.at n))
    ∧ (here = true → quiet → ∀ (b : BitVec 8) (x y : Bool) (e f : BitVec 16), let u := match k.set with
            | some w => if w.done then s.at n else (s.at n).closeSet q w false n
            | none => s.at n
        let i := n - s.get battConfigBmsLag 0 * 1000000
        ∃ t, exec (.st n q b x y e f) s = .next t ∧ (t.str q).set = some { instant := i, iSet := (u.str q).meanAt i, v1 := (u.str q).v1At i, mv := [], mt := [], done := false }
          ∧ (t.str q).closed = x ∧ (t.str q).fault = y ∧ (t.str q).chgA = e.toNat ∧ (t.str q).disA = f.toNat ∧ t.bit battStateFlags q 1 = !x)
    ∧ (here = true → quiet → ∀ w, k.set = some w → w.done = false →
        (∀ (g : Fin 8) (v : List (BitVec 16)), let x : SetIn := { w with mv := Tab.set w.mv g (v.map BitVec.toNat) }
          exec (.mv n q g v) s = .next (if s.setWhole q x then (s.at n).closeSet q x true n else (s.at n).setStr q { k with set := some x }))
        ∧ ∀ (g : Fin 4) (v : List (BitVec 8)), let x : SetIn := { w with mt := Tab.set w.mt g (v.map BitVec.toNat) }
          exec (.mt n q g v) s = .next (if s.setWhole q x then (s.at n).closeSet q x true n else (s.at n).setStr q { k with set := some x }))
    ∧ (here = true → quiet → ∀ z : BitVec 64, k.waiting = none → ∃ t, exec (.sn n q z) s = .next t ∧ t.str q = { k with serial := some z.toNat, waiting := none } ∧ t.mem = s.mem)
    ∧ (here = true → quiet → ∀ z : BitVec 64, ∀ e, k.waiting = some e → exec (.sn n q z) s =
        .next (State.applyEntry ((s.at n).setStr q { k with serial := some z.toNat, waiting := none }) q e))
    ∧ (∀ e : EstEntry, s.get battLearnSeq q = 0 → k.serial = some e.serial → let t := s.applyEntry q e
        t.get battStateQ q = e.q % 2 ^ battStateQ.width ∧ t.get battStateR0 q = e.r0 % 2 ^ battStateR0.width ∧ t.bit battStateFlags q 2 = false)
    ∧ (∃ t, exec (.estimatorStep n) s = .next t ∧ t.batt.steps = s.batt.steps + 1 ∧ t.batt.vPrev = s.batt.vMean
        ∧ t.batt.vMean = (if s.batt.vN = 0 then s.batt.vMean else s.batt.vSum / (s.batt.vN : Int)) ∧ (t.batt.chg, t.batt.dis) = t.busLimits)
    ∧ (∀ mean, k.socC ≤ 2 ^ 32 → ((s.count q mean).str q).socC ≤ 2 ^ 32)
    ∧ (here = true → (∀ a, k.iAt = some a → a + 10000000 + settleBatt < n) → (k.curOut && s.strFlag q 4) = false →
        exec (.currentGap n q) s = .next (((((s.at n).setStr q { k with curOut := true }).setStrFlag q 4 true).disqualify q 7).showStr q))
    ∧ (here = true → ∀ a, k.iAt = some a → n ≤ a + 10000000 + settleBatt → exec (.currentGap n q) s = .next (s.at n))
    ∧ (here = true → (∀ a, k.setOk = some a → a + 1000000000 + settleBatt ≤ n) → ∃ t, exec (.stringOut n q) s = .next t ∧ (t.str q).setOut = true ∧ t.bit battStateFlags q 0 = true)
    ∧ (∀ a, k.idle = some a → a + s.get battConfigTRest 0 * 60000000000 ≤ n → s.strFlag q 7 = false → k.steady n = true → k.first = true →
        ∃ t, exec (.restPoint n q) s = .next t ∧ (t.str q).socC = s.get battStateSocV q * 2 ^ 32 / 10000 ∧ (t.str q).v1 = 0
          ∧ (t.str q).cycle = some { socA := s.get battStateSocV q, charge := 0, absSum := 0, active := none, dq := 0 }
          ∧ t.strFlag q 3 = false ∧ t.strFlag q 4 = false ∧ t.strFlag q 5 = false ∧ t.strFlag q 7 = true)
    ∧ (k.idle = none ∨ s.strFlag q 7 = true ∨ k.first = false → exec (.restPoint n q) s = .next (s.at n))
    ∧ (∀ p g, k.step = some p → p.g10 = some g → p.at_ + 30000000000 ≤ n → ∃ t, exec (.polarisationFit n q) s = .next t ∧ (t.str q).step = none
        ∧ (¬ (g < s.gOf q p ∧ s.gOf q p < 3 * g) → t.objs = s.objs))
    ∧ (∀ p, k.step = some p → p.g10 = none ∨ n < p.at_ + 30000000000 → exec (.polarisationFit n q) s = .next (s.at n))
    ∧ (k.step = none → exec (.polarisationFit n q) s = .next (s.at n))
    ∧ (∀ a, k.idle = some a → a + 120000000000 ≤ n → s.strFlag q 5 = false → s.strFlag q 4 = false →
        (k.soc + 500 < s.get battStateSocV q ∨ s.get battStateSocV q + 500 < k.soc → exec (.idleCheck n q) s = .next ((((s.at n).setStrFlag q 5 true).disqualify q 6).showStr q))
        ∧ (k.soc ≤ s.get battStateSocV q + 500 → s.get battStateSocV q ≤ k.soc + 500 → exec (.idleCheck n q) s = .next (s.at n)))
    ∧ (k.idle = none → exec (.idleCheck n q) s = .next (s.at n))
    ∧ (let p := s.get battConfigPConv 0
       let fall := p < 20 * (s.get battSummaryChgLim 0 - s.batt.chg) ∨ p < 20 * (s.get battSummaryDisLim 0 - s.batt.dis)
       let pick (x y : Nat) : Nat := if x < y ∨ 2 * p < 100 * (x - y) then x else y
       (s.batt.published / 10000000 ≠ n / 10000000 ∨ fall ∨ s.batt.published = 0 → ∃ t, exec (.limitPublish n) s = .next t ∧ t.batt.published = n
         ∧ t.get battSummaryChgLim 0 = pick s.batt.chg (s.get battSummaryChgLim 0) % 2 ^ battSummaryChgLim.width
         ∧ t.get battSummaryDisLim 0 = pick s.batt.dis (s.get battSummaryDisLim 0) % 2 ^ battSummaryDisLim.width)
       ∧ (s.batt.published / 10000000 = n / 10000000 → ¬ fall → s.batt.published ≠ 0 → exec (.limitPublish n) s = .next (s.at n)))

/-- DETECT leaves on a termination, unless three failures make it wait, and training sends TA; a set of the lane's generation locks it and
is answered by TB, and 16 sent and 16 received lead to LOCK. Lock leads to PARLEY, or back to ACTIVE after a GENCHG; a hop record leads
a host lane to ACTIVE, and a retraining lane back with the record unchanged, else to DETECT. TRAIN and RETRAIN end after 2 ms, LOCK
after 100 µs, PARLEY after 1 ms, a GENCHG after 2.1 ms. Loss of lock counts its code errors and retrains. Each acts in its state only. -/
def Obligations.LaneRule : Prop :=
∀ (n : Nat) (l : Fin 16) (s : State),
    let k := s.lane l
    let st := s.get laneStateState l
    let u := s.at n
    (∀ x gen, x < 2 ^ 8 → gen < 2 ^ 7 → let t := s.beginTraining l x gen n
        t.get laneStateState l = x ∧ t.get laneStateGen l = gen ∧ (t.lane l).since = n ∧ (t.lane l).locked = false ∧ (t.lane l).sent = 0 ∧ (t.lane l).got = 0
          ∧ t.out = .orderedSet l 1 (gen + s.presetOf l * 256) :: s.out)
    ∧ (st = 0 → k.waitUntil ≤ n → s.laneRuns l = true → exec (.terminationDetected n l) s = .next (u.beginTraining l 1 1 n))
    ∧ (st ≠ 0 ∨ n < k.waitUntil ∨ s.laneRuns l = false → exec (.terminationDetected n l) s = .next u)
    ∧ (∀ (b : Bool) (gen p : Nat), let i := if b then Instr.tb n l gen p else Instr.ta n l gen p
        let got := k.got + if b then 1 else 0
        (gen = s.get laneStateGen l → st = 1 ∨ st = 5 → ∃ t, exec i s = .next t ∧ (t.lane l).locked = true ∧ (t.lane l).sent = k.sent + 1 ∧ (t.lane l).got = got
            ∧ t.out = .orderedSet l 2 (gen + s.get laneStatePreset l * 256) :: s.out
            ∧ t.get laneStateState l = (if st = 1 ∧ 16 ≤ k.sent + 1 ∧ 16 ≤ got then 2 else st))
        ∧ (gen ≠ s.get laneStateGen l ∨ (st ≠ 1 ∧ st ≠ 5) → exec i s = .next u))
    ∧ (st = 1 → k.since + 2000000 ≤ n → exec (.trainTimeout n l) s = .next ((u.laneFailed l n).toDetect l n))
    ∧ (st ≠ 1 ∨ n < k.since + 2000000 → exec (.trainTimeout n l) s = .next u)
    ∧ (∀ c : Bool, st = 2 → ∃ t, exec (.lockAchieved n l c) s = .next t ∧ (k.genAt = none → t.get laneStateState l = 3 ∧ (t.lane l).since = n)
        ∧ (k.genAt ≠ none → t.get laneStateState l = 4 ∧ (t.lane l).fails = 0 ∧ (t.lane l).genAt = none)
        ∧ t.flag laneStateInverted l = (s.flag laneStateInverted l != c))
    ∧ (∀ c : Bool, st ≠ 2 → exec (.lockAchieved n l c) s = .next u)
    ∧ (st = 2 → k.since + 100000 ≤ n → exec (.lockTimeout n l) s = .next (u.beginTraining l 1 (s.get laneStateGen l) n))
    ∧ (st ≠ 2 ∨ n < k.since + 100000 → exec (.lockTimeout n l) s = .next u)
    ∧ (st = 3 → k.since + 1000000 ≤ n → exec (.parleyTimeout n l) s = .next ((u.laneFailed l n).beginTraining l 1 1 n))
    ∧ (st ≠ 3 ∨ n < k.since + 1000000 → exec (.parleyTimeout n l) s = .next u)
    ∧ (∀ r : HopRec, (l.val < 4 → st = 3 → let gen := max 1 (min r.genMax.toNat (s.get laneHostGenMax l))
            let v := (u.setLane l { k with hop := some r }).laneActive l n
            exec (.hopRecord n l r) s = .next (if 1 < gen then v.sendGenchg l gen n else v) ∧ v.get laneStateState l = 4 ∧ v.get portStateLink l = 1)
        ∧ (l.val < 4 → st = 5 → k.locked = true → 16 ≤ k.sent → 16 ≤ k.got → exec (.hopRecord n l r) s = .next (if k.hop = some r then (u.laneActive l n).eventOn (u.laneSlot l n) 0x06 l 4 0 n
            else (((u.laneFailed l n).toDetect l n).eventOn (u.laneSlot l n) 0x06 l 0 0 n)))
        ∧ (4 ≤ l.val → st = 3 → s.get avenueStateMode (laneAvenue l) = 15 → ∃ t, exec (.hopRecord n l r) s = .next t ∧ t.get laneStateState l = 4 ∧ (t.lane l).hop = some r)
        ∧ ((st ≠ 3 ∧ st ≠ 5) ∨ (st = 5 ∧ (k.locked = false ∨ k.sent < 16 ∨ k.got < 16)) → exec (.hopRecord n l r) s = .next u))
    ∧ (∀ e, ∃ t, exec (.lossOfLock n l e) s = .next t ∧ t.get laneStateCodeErrors l = min (s.get laneStateCodeErrors l + e) (2 ^ 32 - 1)
        ∧ t.get laneStateState l = (if st = 4 then 5 else st) ∧ (st = 4 → t.get laneStateRetrains l = min (s.get laneStateRetrains l + 1) (2 ^ 32 - 1)))
    ∧ (st = 5 → k.since + 2000000 ≤ n → ∃ t, exec (.retrainTimeout n l) s = .next t ∧ t.get laneStateState l = 0 ∧ t.get laneStateGen l = 1 ∧ (t.lane l).hop = none)
    ∧ (st ≠ 5 ∨ n < k.since + 2000000 → exec (.retrainTimeout n l) s = .next u)
    ∧ (∀ gen, st = 4 → 1 ≤ gen → gen ≤ 3 → ∃ t, exec (.genchg n l gen) s = .next t ∧ t.get laneStateState l = 1 ∧ t.get laneStateGen l = gen ∧ (t.lane l).genAt = some n)
    ∧ (∀ gen, st ≠ 4 ∨ gen = 0 ∨ 3 < gen → exec (.genchg n l gen) s = .next u)
    ∧ (∀ a, k.genAt = some a → a + 2100000 ≤ n → st ≠ 4 → exec (.genchgTimeout n l) s = .next ((u.laneFailed l n).toDetect l n))
    ∧ (k.genAt = none ∨ st = 4 → exec (.genchgTimeout n l) s = .next u)
    ∧ (k.fails < 2 → ((s.laneFailed l n).lane l).fails = k.fails + 1) ∧ (2 ≤ k.fails → ((s.laneFailed l n).lane l).waitUntil = n + 100000000)

/-- With both lanes ACTIVE an unformed avenue sends DISCOVER; its return counts the heads and ranges them; each ECHO gives an offset, the
last one ends ranging; head records are written and, in formation, answered by an assignment. A frame leaves an ACTIVE lane with the
next number and service content by precedence, four safety items in one slot. A lost frame is counted; late reports and bad blocks of a
whole one are counted. The lowest broken hop gives the split's mode, HEAL of the last the ring; a split of 10 s degrades. A whole
mailbox message fills the next of 16 slots and raises the head's source, another is dropped and counted. -/
def Obligations.AvenueRule : Prop :=
∀ (n : Nat) (a : Fin 6) (s : State),
    let k := s.avn a
    let u := s.at n
    let N := s.get avenueStateN a
    let mode := s.get avenueStateMode a
    (s.lanesActive a = true → mode = 15 → k.forming = 0 → ∃ t, exec (.avenueFormation n a) s = .next t ∧ t.avn a = { Avn.reset with forming := 1, svc := k.svc }
        ∧ t.out = .orderedSet (4 + 2 * a.val) 3 (a.val * 256) :: s.out ∧ t.objs = s.objs)
    ∧ (s.lanesActive a = false ∨ mode ≠ 15 ∨ k.forming ≠ 0 → exec (.avenueFormation n a) s = .next u)
    ∧ (∀ c, k.forming = 1 → c ≤ 8 → exec (.discover n a c) s = .next (if c = 0 then (u.put avenueStateN a 0).ringUp a
          else ((u.put avenueStateN a c).setAvn a { k with forming := 2, offsets := [] }).requestEchoes a))
    ∧ (∀ c, k.forming ≠ 1 ∨ 8 < c → exec (.discover n a c) s = .next u)
    ∧ (∀ (p : Fin 8) (ccw : Bool) (d : Nat), let q : Avn := { k with offsets := Tab.set k.offsets (2 * p.val + (if ccw then 1 else 0)) ((d - 64 * symbolNs (s.get laneStateGen (4 + 2 * a.val))) / 2) }
        (k.forming = 2 → p.val < N → ∃ t, exec (.echo n a p ccw d) s = .next t ∧ (t.avn a).offsets = q.offsets ∧ (t.avn a).forming = (if q.offsets.length < 2 * N then 2 else 3))
        ∧ (k.forming = 5 → p.val < N → exec (.echo n a p ccw d) s = .next (if q.offsets.length < 2 * N then u.setAvn a q
            else ((List.range N).foldl (fun v x => v.sendAssign a x) ((u.setAvn a q).sendScheds a)).ringUp a))
        ∧ ((k.forming ≠ 2 ∧ k.forming ≠ 5) ∨ N ≤ p.val → exec (.echo n a p ccw d) s = .next u))
    ∧ (∀ (p : Fin 8) (r : HeadRec), (N ≤ p.val → exec (.headRecord n a p r) s = .next u)
        ∧ (p.val < N → let v := u.takeRecord (8 * a.val + p.val) r n
          let got := (v.avn a).records ||| 2 ^ p.val
          let w := (v.setAvn a { v.avn a with records := got }).sendAssign a p
          let x := w.sendScheds a
          let y := x.setAvn a { x.avn a with forming := 4 }
          exec (.headRecord n a p r) s = .next (if (v.avn a).forming ≠ 3 then v else if got ≠ 2 ^ N - 1 then w else if x.targetGen a = 1 then x.ringUp a
            else (y.sendGenchg (4 + 2 * a.val) (x.targetGen a) n).sendGenchg (5 + 2 * a.val) (x.targetGen a) n))
        ∧ (s.takeRecord (8 * a.val + p.val) r n).get headRecordType (8 * a.val + p.val) = r.typ.toNat)
    ∧ (∀ w : Fin 2, let l : Fin 12 := ⟨2 * a.val + w.val, by omega⟩
        let i := 4 + l.val
        let f := (s.lane i).frame
        let q := takeSvcs (Tab.get k.svc w []) (max 3 (12 - s.slotsUsed a (if mode = 15 then 0 else mode) w ((List.range 8).filter k.placed.testBit)))
        (s.get laneStateState i = 4 → ∃ t, exec (.frame n l) s = .next t ∧ (t.lane i).frame = (f + 1) % 2 ^ 32 ∧ Tab.get (t.avn a).svc w [] = q.2
            ∧ (untouched s 1 i 1 n → t.out = q.1.reverse ++ ((s.repeats a w).reverse ++ .frame i f mode (s.grantOf a f) :: s.out) ∧ t.objs = s.objs)
            ∧ (((u.frameUnit 1 i 1 (19 + l.val) f n).1 = true → t.out = s.out)))
        ∧ (s.get laneStateState i ≠ 4 → exec (.frame n l) s = .next u)
        ∧ ∀ b : FrameBack, let v := (u.setLane i { s.lane i with back := b.number.toNat }).countBlock (19 + l.val) b.header b.number.toNat n
          let inj := v.frameUnit 1 i 0 (19 + l.val) b.number.toNat n
          (inj.1 = true → exec (.frameReturn n l b) s = .next (inj.2.inc laneStateFramesLost i 1)) ∧ (untouched s 1 i 0 n →
          (b.lost = true ∨ BlockResult.lost b.header = true → exec (.frameReturn n l b) s = .next (v.inc laneStateFramesLost i 1))
          ∧ (b.lost = false → BlockResult.lost b.header = false → ∃ t, exec (.frameReturn n l b) s = .next t ∧ t.get avenueStateLate a = min (s.get avenueStateLate a + b.lateCount.toNat) (2 ^ 32 - 1)
            ∧ (Tab.get t.lanes.heads (8 * a.val + b.late.val) HeadCount.reset).late = (Tab.get s.lanes.heads (8 * a.val + b.late.val) HeadCount.reset).late + b.lateCount.toNat
            ∧ ∀ p : Fin 8, (Tab.get t.lanes.heads (8 * a.val + p.val) HeadCount.reset).bad = (Tab.get s.lanes.heads (8 * a.val + p.val) HeadCount.reset).bad + b.badBlocks.count p)))
    ∧ (∀ (q : List Svc) (x : Svc), x ∈ q → x.prec < 5 → (∀ y ∈ q, x.prec ≤ y.prec) → (x.prec = 1 → (takeSvc q).1 = ((q.filter fun y => y.prec == 1).take 4).map (·.item))
        ∧ (x.prec ≠ 1 → x.left ≤ 1 → q.find? (fun y => y.prec == x.prec) = some x → (takeSvc q).1 = [x.item] ∧ (takeSvc q).2 = q.erase x))
    ∧ (∀ h : Fin 9, let v := (u.sendSet (4 + 2 * a.val) 5 (h.val + a.val * 256)).sendSet (5 + 2 * a.val) 5 (h.val + a.val * 256)
        exec (.hopBroken n a h) s = .next (v.splitAt a h n) ∧ exec (.split n a h) s = .next (u.splitAt a h n)
        ∧ (h.val ≤ N → mode ≠ 15 → h.val ∉ k.broken → let t := s.splitAt a h n
            t.get avenueStateMode a = (1 + min (k.broken.foldl min 9) h.val) % 16 ∧ (t.avn a).broken = h.val :: k.broken
              ∧ (mode = 0 → t.get avenueStateSplitSince a = n % 2 ^ 64))
        ∧ (N < h.val ∨ (mode ≠ 15 ∧ h.val ∈ k.broken) → s.splitAt a h n = s)
        ∧ (h.val ∉ k.broken → exec (.heal n a h) s = .next u)
        ∧ (h.val ∈ k.broken → let left := k.broken.filter fun x => x != h.val
            ∃ t, exec (.heal n a h) s = .next t ∧ (t.avn a).broken = left ∧ t.get avenueStateMode a = (if left = [] then 0 else 1 + left.foldl min 9) % 16))
    ∧ (mode ≠ 0 → mode ≠ 15 → s.get avenueStateSplitSince a + 10000000000 ≤ n → ∃ t, exec (.avenueDegraded n a) s = .next t ∧ t.flag avenueStateDegraded a = true
        ∧ (k.splitSlot = none → t.bit sparesAvenuesSplit 0 a = true))
    ∧ (mode = 0 ∨ mode = 15 ∨ n < s.get avenueStateSplitSince a + 10000000000 → exec (.avenueDegraded n a) s = .next u)
    ∧ ∀ (h : Fin 48) (typ : BitVec 8) (body : Payload), let m := (Memory.read s.mem (mailbox h) 4 + 1) % 2 ^ 32
        let x := mailbox h + 0x8000 + 0x800 * (m % 16)
        (body.len ≤ 2040 → s.mailAllowed h typ.toNat = true → ∃ t, exec (.mailboxMessage n h typ body true) s = .next t
            ∧ Memory.read t.mem (mailbox h) 8 = m ∧ Memory.read t.mem x 8 = m * 2 ^ 32 + typ.toNat * 2 ^ 16 + body.len
            ∧ Memory.read t.mem (x + 8) body.len = body.data % 2 ^ (8 * body.len))
        ∧ (2040 < body.len ∨ s.mailAllowed h typ.toNat = false → exec (.mailboxMessage n h typ body true) s = .next (u.mailCount h 0x10))
        ∧ exec (.mailboxMessage n h typ body false) s = .next (u.mailCount h 0x10)

/-- A move of a node sets its state, cause and stamp. A heartbeat of a known node is taken and moves it by its digest; of a stranger on CAN
is counted; one that an injection takes away is not seen, on the mesh one reordered is held until the next. Silence makes JOINING and ACTIVE nodes LOST and a grace that ends without the digest leads to
CUL-DE-SAC, stamped with the deadline; an arrival is judged after what fell due before it. A bad frame counts as an error, a good one reaches every filter it matches. A header loaded locks its buffer or shows
another's lock; the holder's tail load or 1 ms frees it. A frame acknowledged is sent, else retried to its count or deadline. TEC above
255 is bus-off, the fourth in 60 s held; recovery is by auto_recover. -/
def Obligations.NodeAndCanRule : Prop :=
∀ (n : Nat) (s : State),
    let u := s.at n
    (∀ (x : Fin 1024) (st cause : Nat), st ≤ 4 → cause < 256 → let t := s.moveNode x st cause n
        t.get nodeEntryState x = st ∧ t.get nodeEntryCause x = cause ∧ t.get nodeEntrySince x = n % 2 ^ 64)
    ∧ (∀ h : Heartbeat, let m := h.medium.val
        let dead := m = 2 ∧ s.canLive (h.chan.val % 4) = false
        let found := if m = 1 then s.nodeAt 1 4 h.chan h.addr.toNat else if m = 2 then s.nodeAt 5 7 h.chan h.addr.toNat
          else if m = 3 ∧ s.get nodeEntryKind h.addr.toNat = 8 then some h.addr.toNat else none
        let ch := h.chan.val % 4
        let a := h.addr.toNat
        let fin (w : State) : State := if m = 3 then w.releaseMesh a n else w
        let quiet := (m = 2 → untouched s 5 ch 0 n) ∧ (m = 3 → untouched s 6 a 0 n)
        (dead → exec (.nodeHeartbeat n h) s = .next u)
        ∧ (m = 2 → ¬ dead → (u.canUnit ch n).1 = true → exec (.nodeHeartbeat n h) s = .next (u.canUnit ch n).2)
        ∧ (∀ j, m = 3 → (u.unitSeen 6 a 0 n).1 = some j → let v := (u.unitSeen 6 a 0 n).2
            exec (.nodeHeartbeat n h) s = .next (if v.get injectAction j = 3 then (v.releaseMesh a n).holdUnit j n (.beat h) else v.releaseMesh a n))
        ∧ (quiet → ¬ dead → found = none → exec (.nodeHeartbeat n h) s = .next (fin (if m = 2 then u.inc canStateStrangers h.chan 1 else u)))
        ∧ (∀ x, quiet → ¬ dead → found = some x → ∃ (late : Bool), let v := (((u.nodeUpTo x n).put nodeEntryLastHeard x n).put nodeEntryReported x h.digest)
            exec (.nodeHeartbeat n h) s = .next (fin (((v.putBit nodeEntryFlags x 2 false).refreshDiag x h.uptime.toNat late).heartbeatMoves x n))
              ∧ (late = true ↔ s.get nodeEntryLastHeard x ≠ 0 ∧ 2 * s.get nodeEntryLastHeard x + 3 * s.heartbeatNs x < 2 * n)))
    ∧ (∀ x : Nat, let v := if s.digestOk x = true then s else s.inc nodeEntryMismatches x 1
        (s.get nodeEntryState x = 2 → s.digestOk x = true → s.heartbeatMoves x n = (s.setNodeRec x { s.nodeRec x with graceAt := none }).putBit nodeEntryFlags x 0 false)
        ∧ (s.get nodeEntryState x = 2 → s.digestOk x = false → (s.nodeRec x).graceAt = none → s.heartbeatMoves x n = (v.moveNode x 3 2 n).raise 0x96 n)
        ∧ (s.get nodeEntryState x = 3 → s.heartbeatMoves x n = if s.digestOk x = true then (s.moveNode x 1 0 n).judgeJoining x n else v)
        ∧ (s.get nodeEntryState x = 1 → s.heartbeatMoves x n = v.judgeJoining x n))
    ∧ (∀ x : Fin 1024, let st := s.get nodeEntryState x
        let heard := max (s.get nodeEntryLastHeard x) (s.get nodeEntrySince x) + s.silenceNs x
        let due := if s.get nodeEntryKind x = 5 then min heard (max (s.nodeRec x).statusAt (s.get nodeEntrySince x) + 300000000) else heard
        (s.get nodeEntryKind x ≠ 0 → due + settleFn ≤ n → st = 1 ∨ st = 2 → exec (.nodeTimeout n x) s = .next (u.moveNode x 4 1 due))
        ∧ (s.get nodeEntryKind x ≠ 0 → due + settleFn ≤ n → st = 3 → exec (.nodeTimeout n x) s = .next (u.putBit nodeEntryFlags x 2 true))
        ∧ (s.get nodeEntryKind x = 0 ∨ n < due + settleFn ∨ st = 0 ∨ st = 4 → exec (.nodeTimeout n x) s = .next u)
        ∧ (st ≠ 1 → st ≠ 2 → s.nodeUpTo x n = s)
        ∧ (st = 1 ∨ st = 2 → (s.nodeRec x).graceAt = none → s.nodeUpTo x n = if due < n then s.moveNode x 4 1 due else s)
        ∧ (∀ g, (s.nodeRec x).graceAt = some g → g + settleFn ≤ n → let v := (u.setNodeRec x { s.nodeRec x with graceAt := none }).putBit nodeEntryFlags x 0 false
            exec (.reconcileTimeout n x) s = .next (if s.digestOk x = true ∨ st ≠ 2 then v else (v.moveNode x 3 2 g).raise 0x96 g))
        ∧ ((∀ g, (s.nodeRec x).graceAt = some g → n < g + settleFn) → exec (.reconcileTimeout n x) s = .next u))
    ∧ (∀ (ch : Fin 4) (a : Fin 64) (code st : BitVec 8) (seg : BitVec 16), ((u.canUnit ch n).1 = true → exec (.canConfigReply n ch a code st seg) s = .next (u.canUnit ch n).2)
        ∧ (untouched s 5 ch 0 n → s.nodeAt 5 7 ch a = none → exec (.canConfigReply n ch a code st seg) s = .next u)
        ∧ ∀ x, untouched s 5 ch 0 n → s.nodeAt 5 7 ch a = some x → let r := s.nodeRec x
            exec (.canConfigReply n ch a code st seg) s = .next (if r.xfer = 0 then u
              else if st = 1 then (if r.xfer = 1 then u.sendBlob x 2 else (u.setNodeRec x { r with xfer := 0 }).raise 0x96 n)
              else if code = 5 then u.setNodeRec x { r with xfer := 0 } else u))
    ∧ ∀ ch : Fin 4, let k := s.canChan ch
        (∀ f : CanFrame, (s.canLive ch = false → exec (.canFrame n ch f) s = .next u)
          ∧ (∀ j, s.canLive ch = true → (u.unitSeen 5 ch 0 n).1 = some j → let v := (u.unitSeen 5 ch 0 n).2
              exec (.canFrame n ch f) s = .next (if v.get injectAction j = 1 then v else v.canRxError ch))
          ∧ (s.canLive ch = true → untouched s 5 ch 0 n → f.ok = false ∨ (f.fdf = true ∧ s.get canConfigFdMode ch = 0) → exec (.canFrame n ch f) s = .next (u.canRxError ch))
          ∧ (s.canLive ch = true → untouched s 5 ch 0 n → f.ok = true → (f.fdf = true → s.get canConfigFdMode ch ≠ 0) → let w := u.canRxGood ch
              let v := if f.ide = false ∧ f.dlc = 8 ∧ 0x640 ≤ f.id.toNat ∧ f.id.toNat < 0x680 then (w.nodeAt 5 5 ch (f.id.toNat - 0x640)).elim w fun x => (w.nodeUpTo x n).rectStatus x f.data.data n else w
              exec (.canFrame n ch f) s = .next ((((List.range 16).map (· + 16)).filter fun i => v.filterMatches (16 * ch + i - 16) f).foldl (fun w i => w.toFilter ch i f n) v)))
        ∧ (s.canRxError ch).get canStateErrors ch = min (s.get canStateErrors ch + 1) (2 ^ 32 - 1)
        ∧ (∀ b : Fin 33, (∀ o a, (k.buf (b + 32)).lock = some (o, a) → a + 1000000 + settleFn ≤ n → ∃ t, exec (.canLockTimeout n ch b) s = .next t
              ∧ (t.canChan ch).buf (b + 32) = CanBuf.reset ∧ t.get canStateLockTimeouts ch = min (s.get canStateLockTimeouts ch + 1) (2 ^ 32 - 1))
            ∧ ((∀ o a, (k.buf (b + 32)).lock = some (o, a) → n < a + 1000000 + settleFn) → exec (.canLockTimeout n ch b) s = .next u))
        ∧ (∀ (c b : Nat), let v := Memory.read s.mem (canBufAddr ch b) 8
            ((k.buf b).lock = none → (s.loadCanHeader c ch b).1 = v ∧ (((s.loadCanHeader c ch b).2.canChan ch).buf b).lock = some (c, s.now))
            ∧ (∀ o a, (k.buf b).lock = some (o, a) → s.loadCanHeader c ch b = (if o = c then v else v % 2 ^ 63 + 2 ^ 63, s)
                ∧ (s.loadCanTail c ch b).2 = if o = c then s.freeCanBuf ch b else s))
        ∧ (k.cur = none → ∀ acked, exec (.canTransmitEnd n ch acked) s = .next u)
        ∧ ((u.unitSeen 5 ch 1 n).1 ≠ none → exec (.canTransmitEnd n ch true) s = exec (.canTransmitEnd n ch false) s)
        ∧ (∀ r, k.cur = some r → untouched s 5 ch 1 n → (∃ t, exec (.canTransmitEnd n ch true) s = .next t ∧ t.get canStateTx ch = (s.get canStateTx ch + 1) % 2 ^ 32 ∧ .can ch r.id r.dlc r.data ∈ t.out)
            ∧ (let w := u.setCan ch { k with cur := none }
                let x := if r.node < 1024 then w.setNodeRec r.node { s.nodeRec r.node with retries := (s.nodeRec r.node).retries + 1 } else w
                let v := (x.inc canStateTec ch 8).canJudge ch
                exec (.canTransmitEnd n ch false) s = .next ((if r.deadline ≠ 0 ∧ r.deadline < n then v.canDone ch r 5 (r.attempts + 1) n
                  else if r.retries < r.attempts + 1 then v.canDone ch r 3 (r.attempts + 1) n else v.queueCan ch { r with attempts := r.attempts + 1 }).canNext ch)))
        ∧ (∃ t, exec (.canDeadline n ch) s = .next t ∧ (t.canChan ch).queue = k.queue.filter (fun r => !(r.deadline != 0 && decide (r.deadline + settleFn ≤ n))) ∧ (t.canChan ch).cur = k.cur)
        ∧ (∀ tec, 255 < tec → s.canLive ch = true → ∃ t, exec (.busOff n ch tec) s = .next t
            ∧ t.get canStateState ch = (if 3 ≤ (k.offs.filter fun x => decide (n ≤ x + 60000000000)).length then 4 else 3)
            ∧ t.get canStateBusOffs ch = min (s.get canStateBusOffs ch + 1) (2 ^ 32 - 1))
        ∧ (∀ tec, tec ≤ 255 ∨ s.canLive ch = false → exec (.busOff n ch tec) s = .next u)
        ∧ exec (.busRecovery n ch) s = .next (if s.get canStateState ch = 3 ∧ s.flag canConfigAutoRecover ch = true then u.canJoin ch else u)

/-- The front entry of a core's effect queue at a doorbell, an append page's commit word or the receipt word leaves the queue and acts;
another leaves nothing. An append is refused for length 2, quota 1 or ring 3, else becomes a record whose sequence number is the core's
result. A CAN or mesh doorbell puts a frame or message out with result 1 or refuses it with 4. A load of a buffer's or slot's header or
tail by a granted core with an empty effect queue puts it in the register with its lock or release, and nothing else. -/
def Obligations.EffectRowsRule : Prop :=
∀ (n : Nat) (c : Fin 6) (s : State),
    let u := s.at n
    let k := s.core c
    (∀ p : Instr × (Nat → Bool → Bool), p ∈ [(.journalAppend n c, fun a w => inRange a 0x40100000 0x4012FFFF && a % 0x10000 == 0 && w), (.receiptSend n c, fun a _ => a == 0x40220000),
          (.mailboxDoorbell n c, fun a _ => isMailbox a && a % 0x10000 == 0x100), (.canDoorbell n c, fun a _ => inRange a 0x40400000 0x4043FFFF && a % 0x10000 == 0x3000),
          (.meshDoorbell n c, fun a _ => a == 0x40441000)] →
        (∀ e, s.eqFront c = some e → p.2 e.addr e.wide = true → exec p.1 s = .next (((u.eqPop c).effectStore c e n).entryLeft c n) ∧ ((u.eqPop c).core c).eq = k.eq.tail)
        ∧ ((∀ e, s.eqFront c = some e → p.2 e.addr e.wide = false) → exec p.1 s = .next u))
    ∧ (∀ e : EqEntry, let w := e.data.toNat
        (inRange e.addr 0x40100000 0x4012FFFF = true → e.addr % 0x10000 = 0 → e.wide = true → s.effectStore c e n = s.appendRow c e.addr w n)
        ∧ (e.addr = 0x40220000 → s.effectStore c e n = s.receiptStore w)
        ∧ (isMailbox e.addr = true → e.addr % 0x10000 = 0x100 → s.mailState ((e.addr - 0x50000000) / 0x10000) ≠ 3 → s.effectStore c e n = s.mailDoor ((e.addr - 0x50000000) / 0x10000) w)
        ∧ (inRange e.addr 0x40400000 0x4043FFFF = true → e.addr % 0x10000 = 0x3000 → s.effectStore c e n = s.canDoor c ((e.addr - 0x40400000) / 0x10000) (w % 8) n)
        ∧ (e.addr = 0x40441000 → s.effectStore c e n = s.meshDoor c (w % 8) n))
    ∧ (∀ a w, let cls := journalClass a
        let len := w % 2 ^ 16
        let r := Tab.get (s.appendRow c a w n).jr.results (8 * c + cls) 0
        (len = 0 ∨ 224 < len → r = 2) ∧ (1 ≤ len → len ≤ 224 → cls ≠ 0 → 16000000 < (if cls = 3 then s.get wearOpenToday 0 else s.get wearLinkToday 0) + len → r = 1)
          ∧ (1 ≤ len → len ≤ 224 → s.appendRefusal cls len = 0 → r = Tab.get s.jr.seqs cls 1 % 2 ^ 32 * 2 ^ 32
            ∧ Tab.get (s.appendRow c a w n).jr.seqs cls 1 = Tab.get s.jr.seqs cls 1 + 1))
    ∧ (∀ h w, h < 48 → let len := w / 2 ^ 16 % 2 ^ 16
        s.mailDoor h w = if 8 ≤ s.unsent h ∨ len = 0 ∨ 2040 < len ∨ s.mailAllowed h (w / 2 ^ 8 % 256) = false then s.mailCount h 0x18
          else s.sendMail h (w / 2 ^ 8 % 256) len (Memory.read s.mem (mailbox h + 0x1000 + 0x800 * (w % 8)) len))
    ∧ (∀ (ch : Fin 4) (slot : Fin 8), let h := Memory.read s.mem (canPage ch + 0x2000 + 0x80 * slot) 8
        let r := Memory.read (s.canDoor c ch slot n).mem (canPage ch + 0x3008 + 8 * slot) 8 % 256
        (r = 1 ∨ r = 4) ∧ (r = 1 → s.get nodeEntryKind (h / 2 ^ 48 % 1024) = 7 ∧ s.get nodeEntryState (h / 2 ^ 48 % 1024) = 2 ∧ auxId (h.testBit 31) (h % 2 ^ 29) = true)
        ∧ (s.get nodeEntryState (h / 2 ^ 48 % 1024) ≠ 2 → s.canDoor c ch slot n = s.canResult ch slot 4 0 n))
    ∧ (∀ slot : Fin 8, let h := Memory.read s.mem (meshPage + 0x200 * slot) 8
        let x := h / 2 ^ 48 % 1024
        let ok := s.get nodeEntryKind x = 8 ∧ s.get nodeEntryState x = 2 ∧ 1 ≤ h % 2 ^ 16 ∧ h % 2 ^ 16 ≤ 400
        let t := s.meshDoor c slot n
        (ok → Memory.read t.mem (meshPage + 0x1008 + 8 * slot) 8 = 1 ∧ t.net.mesh.reqs = s.net.mesh.reqs ++ [{ core := c, slot := slot, node := x, len := h % 2 ^ 16, data := Memory.read s.mem (meshPage + 0x200 * slot + 8) (h % 2 ^ 16) }]) ∧ (¬ ok → t = s.meshResult slot 4 n))
    ∧ (canRun s c 1 → k.eq = [] → ∀ rd : Fin 32,
        (∀ (ch : Fin 4) (b : Fin 33),
          (k.granted (canBufAddr ch (b + 32)) false = true → let r := u.loadCanHeader c ch (b + 32)
            ∃ t, exec (.canBufferLock n c rd ch b) s = .next t ∧ oneReg r.2 t c rd (BitVec.ofNat 64 r.1) (k.pc + 4))
          ∧ (k.granted (canBufAddr ch (b + 32) + 0x50) false = true → let r := u.loadCanTail c ch (b + 32)
            ∃ t, exec (.canBufferRelease n c rd ch b) s = .next t ∧ oneReg r.2 t c rd (BitVec.ofNat 64 r.1) (k.pc + 4)))
        ∧ ∀ slot : Fin 16, (k.granted (meshRxAddr slot) false = true → let r := u.loadMeshHeader c slot
            ∃ t, exec (.meshRxLock n c rd slot) s = .next t ∧ oneReg r.2 t c rd (BitVec.ofNat 64 r.1) (k.pc + 4))
          ∧ (k.granted (meshRxAddr slot + 0x1A0) false = true → let r := u.loadMeshTail c slot
            ∃ t, exec (.meshRxRelease n c rd slot) s = .next t ∧ oneReg r.2 t c rd (BitVec.ofNat 64 r.1) (k.pc + 4)))

/-- A confirmed transmission acknowledges the oldest request not waiting, a busy or aborted one sends it again and counts a retransmission;
one is out at a time, and none while the mesh head is not ACTIVE.
A tone map is set on TTL, three degraded frames or a request. A node with an entry, a praline that loads and good authentication joins
at short address ID plus 1, any other is a stranger. The group key is renewed after gmk_days. A route repair makes up to 16 frames of a
node wait, 10 s at most. A frame passed up is taken, dropped, failed or held as its injection says; an injection ends with its duration
or its limit; a held unit goes on after 100 ms. -/
def Obligations.MeshAndInjectionRule : Prop :=
∀ (n : Nat) (s : State),
    let u := s.at n
    let m := s.net.mesh
    (∀ (res : Fin 3) (x : Nat), let first := m.reqs.find? fun r => !(m.isWaiting r)
        (first = none ∨ m.txOut = false → exec (.txConf n res x) s = .next u)
        ∧ (∀ r, first = some r → m.txOut = true → res = 0 → ∃ t, exec (.txConf n res x) s = .next t ∧ t.net.mesh.reqs = (m.reqs.filter fun y => y != r) ∧ t.net.mesh.waiting = m.waiting
            ∧ (r.slot < 8 → Memory.read t.mem (meshPage + 0x1008 + 8 * r.slot) 8 = 2))
        ∧ (∀ r, first = some r → m.txOut = true → res ≠ 0 → exec (.txConf n res x) s =
            .next ((u.setMesh { m with txOut := false }).setNodeRec r.node { s.nodeRec r.node with retries := (s.nodeRec r.node).retries + 1 }).meshNext)
        ∧ (m.txOut = true ∨ s.meshHeadActive = false ∨ first = none → s.meshNext = s)
        ∧ (∀ r, m.txOut = false → s.meshHeadActive = true → first = some r → s.meshNext.net.mesh = { m with txOut := true } ∧ (untouched s 6 r.node 1 s.now → s.diag.held = [] → s.meshNext.out = .mesh r.node 4 (r.len + 4)
            (4 + (s.nodeRec r.node).seq * 2 ^ 16 + r.data % 2 ^ (8 * r.len) * 2 ^ 32) :: s.out)))
    ∧ (∀ b, exec (.busy n b) s = .next (u.setMesh { m with busy := b }))
    ∧ (∀ (j : Fin 960) (rx tx lqi : Nat), let due := s.get meshNbrTmSet j + s.get meshConfigTmTtl 0 * 1000000000 ≤ n ∨ 3 ≤ s.get meshNbrDegraded j ∨ Tab.get m.asked j false = true
        (s.get meshNbrPhase j ≠ 0 → due → ∃ t, exec (.toneMapRefresh n j rx tx lqi) s = .next t ∧ t.get meshNbrTmRx j = rx % 2 ^ 48 ∧ t.get meshNbrTmTx j = tx % 2 ^ 48
            ∧ t.get meshNbrLqi j = lqi % 2 ^ 16 ∧ t.get meshNbrTmSet j = n % 2 ^ 64 ∧ t.get meshNbrDegraded j = 0 ∧ t.net.mesh.asked = Tab.del m.asked j)
        ∧ (s.get meshNbrPhase j = 0 ∨ ¬ due → exec (.toneMapRefresh n j rx tx lqi) s = .next u))
    ∧ (∀ (eui : BitVec 64) (ok : Bool), let known := s.nodeIds.find? fun x => (s.get nodeEntryKind x == 8 || s.get nodeEntryKind x == 4) && s.get nodeEntryEui64 x == eui.toNat
        (known = none → exec (.bootstrap n eui ok) s = .next (u.inc meshStateStrangers 0 1))
        ∧ (∀ x, known = some x → ok = false ∨ s.pskLoads x = false → exec (.bootstrap n eui ok) s = .next ((u.putBit nodeEntryFlags x 1 true).inc meshStateStrangers 0 1))
        ∧ (∀ x, known = some x → ok = true → s.pskLoads x = true → ∃ t, exec (.bootstrap n eui ok) s = .next t ∧ (t.nodeRec x).booted = true
            ∧ t.get nodeEntryShortAddr x = (x + 1) % 2 ^ 16))
    ∧ exec (.gmkRenewal n) s = .next (if m.gmkAt + s.get meshConfigGmkDays 0 * 86400000000000 ≤ n then u.setMesh { m with gmkNo := m.gmkNo + 1, gmkAt := n } else u)
    ∧ (∀ j, let x := s.get meshNbrNode j
        let held := m.reqs.filter fun r => r.node == x && !(m.isWaiting r)
        let room := 16 - (m.waiting.filter fun w => w.2.1 == x).length
        ∃ t, exec (.routeRepair n j) s = .next t ∧ t.net.mesh.reqs = (m.reqs.filter fun r => !((held.drop room).contains r))
          ∧ t.net.mesh.waiting = m.waiting ++ (held.take room).map (fun r => (r.core * 8 + r.slot, r.node, n))
          ∧ t.get meshStateRepairs 0 = min (s.get meshStateRepairs 0 + 1) (2 ^ 32 - 1))
    ∧ (let gone := m.waiting.filter fun w => decide (w.2.2 + 10000000000 + settleFn ≤ n)
       (gone = [] → exec (.routeWaitTimeout n) s = .next u)
       ∧ (gone ≠ [] → ∃ t, exec (.routeWaitTimeout n) s = .next t ∧ t.net.mesh.waiting = (m.waiting.filter fun w => !gone.contains w)
         ∧ t.net.mesh.reqs = m.reqs.filter fun r => !(gone.any fun w => w.1 == r.core * 8 + r.slot)))
    ∧ (∀ f : MeshRx, let x := f.node.toNat
        let v := (u.unitSeen 6 x 0 n).2
        ((u.unitSeen 6 x 0 n).1 = none → exec (.rxInd n f) s = .next ((v.takeMesh n f).releaseMesh x n))
        ∧ (untouched s 6 x 0 n → u.unitSeen 6 x 0 n = (none, u))
        ∧ ∀ j, (u.unitSeen 6 x 0 n).1 = some j →
            exec (.rxInd n f) s = .next (if v.get injectAction j = 2 then (v.takeMesh n { f with fcsOk := false }).releaseMesh x n
              else if v.get injectAction j = 3 then (v.releaseMesh x n).holdUnit j n (.mesh f) else v.releaseMesh x n))
    ∧ ∀ j : Fin 8, let run := s.get injectState j = 1
        let elapsed := s.get injectStart j + s.get injectDuration j * 1000000000 ≤ n
        let full := s.get injectLimit j ≠ 0 ∧ s.get injectLimit j ≤ s.get injectApplied j
        (run → elapsed → ∃ t, exec (.injectionExpiry n j) s = .next t ∧ t.get injectState j = 2 ∧ t.get injectEnd j = n % 2 ^ 64)
        ∧ (¬ run ∨ ¬ elapsed → exec (.injectionExpiry n j) s = .next u)
        ∧ (run → full → ∃ t, exec (.injectionLimit n j) s = .next t ∧ t.get injectState j = 3 ∧ t.get injectEnd j = n % 2 ^ 64)
        ∧ (¬ run ∨ ¬ full → exec (.injectionLimit n j) s = .next u)
        ∧ (∀ d : HeldUnit, Tab.find s.diag.held j = some d → exec (.reorderRelease n j) s = .next (if d.at_ + 100000000 ≤ n then (u.unhold j).releaseUnit d.unit n else u))
        ∧ (Tab.find s.diag.held j = none → exec (.reorderRelease n j) s = .next u)

/-- The loader reads an image from its bytes and gives a core in reset one that passes every check, started at its entry with registers of
zero and cw4, cw13 and cw14 from the image; one that fails leaves the core in reset with the reason shown. Gates 0x80 to 0x82 answer rate, session energy and demand, and the region shows them. A
pending recomputation renews every group, the root and clears its flag; a change of epoch is stated at most once a second. An approval
lapses after 600 s. A loop open for 100 ms, or latched from VBAT, is a tamper event once for each opening. A pulse leaves the backlog
width ms after the last. -/
def Obligations.LegalAndImageRule : Prop :=
∀ (n : Nat) (s : State),
    let u := s.at n
    (∀ (c : Fin 6) (raw : Image), let img := imageOf raw.raw
        let x := if c.val = 5 then s.get sparesStandsFor 0 else c.val
        let may := (s.core c).run = .inReset ∧ s.bit sparesFailed 0 c = false ∧ (c.val < 5 ∨ s.get sparesStandsFor 0 ≠ 0xFF) ∧ s.sup.fieldUp = true
        (¬ may → exec (.imageLoad n c raw) s = .next u)
        ∧ (may → s.checkImage img x = 0 → ∃ t, exec (.imageLoad n c raw) s = .next t ∧ t.get partImageReason c = 0 ∧ (t.core c).run = .running ∧ (t.core c).pc = img.entry &&& ~~~3
            ∧ (∀ q, (t.core c).reg q = 0) ∧ Tab.get (t.core c).cw 4 0 = (img.vbase &&& ~~~0xFF).setWidth 64 ∧ Tab.get (t.core c).cw 14 0 = img.imgVer.setWidth 64
            ∧ Tab.get (t.core c).cw 13 0 = BitVec.ofNat 64 (s.logical c * 65536 + img.kind.toNat * 256 + c) ∧ (t.core c).eq = (s.core c).eq ∧ ∀ d, d ≠ c.val → t.core d = s.core d)
        ∧ (may → s.checkImage img x ≠ 0 → ∃ t, exec (.imageLoad n c raw) s = .next t ∧ t.get partImageReason c = s.checkImage img x ∧ (t.core c).run = .inReset
            ∧ (t.core c).image = none ∧ t.mem = s.mem))
    ∧ (∀ img x, s.checkImage img x ≤ 9 ∧ (s.checkImage img x = 0 → targetNamed img x = true ∧ s.imageSigned img = true ∧ Tab.get s.imgs.minVer img.kind.toNat 0 ≤ img.imgVer.toNat
        ∧ (∀ g ∈ img.grants, grantBad img.kind.toNat g = false) ∧ ∀ y ∈ img.sects, sectBad img.kind.toNat y = false))
    ∧ (∀ (g : Nat) (r : GateReq), (s.core (s.physical 4)).serving = some (g, r) → let c := s.physical 4
        let o := gateArg r.args 0
        let ans (t : State) (a b d e : Nat) : Prop := t = { u with cores := t.cores } ∧ (∀ d, d ≠ c → t.core d = s.core d) ∧ (t.core c).reg 1 = BitVec.ofNat 64 a
          ∧ (t.core c).reg 2 = BitVec.ofNat 64 b ∧ (t.core c).reg 3 = BitVec.ofNat 64 d ∧ (t.core c).reg 4 = BitVec.ofNat 64 e
        (g = 0x80 → ∃ t, exec (.gateRate n) s = .next t ∧ ans t 0 (s.get billStateRate 0) s.boundaryAhead s.rateAhead)
        ∧ (∀ b, g = 0x81 → o < 12 → Tab.find s.bill.sessions o = some b → ∃ t, exec (.gateLegalSession n) s = .next t ∧ ans t 0 (sumRates b.deliv) (sumRates b.ret) b.startUtc)
        ∧ (g = 0x81 → 12 ≤ o ∨ Tab.find s.bill.sessions o = none → ∃ t, exec (.gateLegalSession n) s = .next t ∧ ans t 1 0 0 0)
        ∧ (g = 0x82 → ∃ t, exec (.gateDemand n) s = .next t ∧ ans t 0 (if o < 16 then s.get billNowEInt o else 0) (if o < 16 then s.dMaxNow o else 0) s.intervalEnd))
    ∧ (s.sup.fieldUp = true → ∃ t, exec (.legalExchangeUpdate n) s = .next t ∧ Memory.read t.mem 0x20780000 8 = (Memory.read s.mem 0x20780000 8 + 2) % 2 ^ 64
        ∧ Memory.read t.mem 0x20780008 8 = s.get billStateRate 0 % 2 ^ 64 ∧ Memory.read t.mem 0x20780010 8 = s.boundaryAhead % 2 ^ 64
        ∧ (∀ q, q < 16 → Memory.read t.mem (0x20780020 + 0x10 * q) 8 = s.get billNowEInt q % 2 ^ 64) ∧ t.objs = s.objs)
    ∧ (s.sup.fieldUp = false → exec (.legalExchangeUpdate n) s = .next u)
    ∧ (s.get crqStateFlags 0 % 2 = 1 → ∃ t, exec (.croquemboucheRecompute n) s = .next t ∧ t.get crqStateFlags 0 = 0
        ∧ t.get crqStateRoot 0 = Config.sha512 (4 + 64 * 16) ((List.range 16).foldl (fun v g => v + t.get crqGroupDigest g * 2 ^ (32 + 512 * g)) 0x31515243) % 2 ^ 512)
    ∧ (s.get crqStateFlags 0 % 2 = 0 → exec (.croquemboucheRecompute n) s = .next u)
    ∧ (let may := s.get crqStateEpoch 0 ≠ s.keys.stated ∧ (s.keys.lastChange = 0 ∨ s.keys.lastChange + 1000000000 ≤ n) ∧ s.sup.hostServing = true ∧ s.cway.hostAbsent = false
         ∧ s.keys.identity = true
       (may → ∃ t, exec (.changeStatement n) s = .next t ∧ t.keys.stated = s.get crqStateEpoch 0 ∧ t.keys.lastChange = n ∧ t.keys.uses = s.keys.uses + 1)
       ∧ (¬ may → exec (.changeStatement n) s = .next u))
    ∧ (∀ a, s.keys.approval = some a → exec (.approvalLapse n) s = .next (if a + 600000000000 ≤ n then u.setKeys { s.keys with approval := none } else u))
    ∧ (s.keys.approval = none → exec (.approvalLapse n) s = .next u)
    ∧ (∀ l : Fin 2, let k := s.loop l
        (∀ c : Fin 4, exec (.tamperCheck n l c false) s = .next (if c.val = 0 then u.setLoop l { k with cls := 0, since := none, counted := false }
            else u.setLoop l { k with cls := c.val, since := some (k.since.getD n) })
          ∧ exec (.tamperCheck n l c true) s = .next (if c.val = 0 ∨ k.latched.isSome = true then u else u.setLoop l { k with latched := some (c.val, if s.clk.legalInvalid then 0 else s.rtcSecond n) }))
        ∧ (∀ a, k.latched = none → k.since = some a → a + 100000000 ≤ n → k.counted = false → ∃ t, exec (.tamperLoopOpen n l) s = .next t
            ∧ t = (u.setLoop l { k with counted := true }).tamper l k.cls n ∧ t.get billTamperCount l = min (s.get billTamperCount l + 1) (2 ^ billTamperCount.width - 1))
        ∧ (∀ c x, k.latched = some (c, x) → s.sup.hostServing = true → s.sup.fieldUp = true → ∃ t, exec (.tamperLoopOpen n l) s = .next t ∧ (t.loop l).latched = none
            ∧ t.get billTamperLastUtc l = x % 2 ^ billTamperLastUtc.width)
        ∧ (k.latched = none → (∀ a, k.since = some a → n < a + 100000000) ∨ k.counted = true → exec (.tamperLoopOpen n l) s = .next u))
    ∧ (s.flag meterPulseEnable 0 = true → s.get meterPulseBacklog 0 ≠ 0 → s.pins.pulseEnd ≤ n → s.sup.hostUp = true → ∃ t, exec (.mpulse n) s = .next t
        ∧ t.get meterPulseBacklog 0 = (s.get meterPulseBacklog 0 - 1) % 2 ^ 16 ∧ t.out = .pulse (s.get meterPulseWidth 0) :: s.out
        ∧ t.pins.pulseEnd = n + 2 * s.get meterPulseWidth 0 * 1000000)
    ∧ (s.flag meterPulseEnable 0 = false ∨ s.get meterPulseBacklog 0 = 0 ∨ n < s.pins.pulseEnd ∨ s.sup.hostUp = false → exec (.mpulse n) s = .next u)

/-- A request row of a port that is not heard changes only the clock. A request heard, on which no injection acts, new to its port and
refused by nothing is executed once, its number among those in execution. A repeated number hears the recorded answer again and is
counted; one still being executed is ignored. A request of an object of the field side crosses as HOST_REQ. The refusals come in order: host supply 7, no role 3, eight outstanding 9, a type no host
sends 1, an object or index that does not exist 2, a right not held 3 (the order is the model's: notes/assumptions/27.md). An answer is
recorded among the last 16 and its number leaves those in execution; a NAK is counted. -/
def Obligations.HostRequestRule : Prop :=
∀ (r : Req) (o : BitVec 16) (b : Bool) (s : State),
    let p := r.port.val
    (∀ e : Instr × Nat × Nat × Nat, e ∈ [(.read r o b, 1, if b then 2 else 0, o.toNat), (.write r o, 2, 0, o.toNat), (.writeif r o, 3, 0, o.toNat),
          (.subscribe r o b, 5, if b then 4 else 0, o.toNat), (.irqConfigWrite r, 2, 0, 0x1A20), (.allocConfigWrite r, 2, 0, 0x0200), (.allocSiteWrite r, 2, 0, 0x0201),
          (.ctlSlotWrite r, 2, 0, 0x0410), (.coolOutletWrite r, 2, 0, 0x0600), (.calibrationWrite r .cal, 2, 0, 0x0810), (.calibrationWrite r .outletCfg, 2, 0, 0x0840),
          (.calibrationWrite r .site, 2, 0, 0x0800), (.timeOffsetWrite r, 2, 0, 0x1B10), (.timeConfigWrite r, 2, 0, 0x1B00), (.estStateWrite r, 2, 0, 0x1230),
          (.battStringWrite r, 2, 0, 0x1210), (.avenueConfigWrite r, 2, 0, 0x1310), (.nodeEntryWrite r, 2, 0, 0x1400), (.nodeBlobWrite r, 2, 0, 0x1401),
          (.meshConfigWrite r, 2, 0, 0x1480), (.portBindWrite r, 2, 0, 0x0100), (.pralineWrite r, 2, 0, 0x0140), (.stageWrite r, 2, 0, 0x1A50),
          (.injectStart r, 2, 0, 0x1940), (.meterPulseWrite r, 2, 0, 0x08F0)] →
        let m : HostMsg := { req := r, typ := e.2.1, flags := e.2.2.1, obj := e.2.2.2 }
        (s.hears p r.t = false → exec e.1 s = .next (s.at r.t))
        ∧ (s.hears p r.t = true → quietOn s 4 p 0 r.t → exec e.1 s = .next (((s.at r.t).request m r.t).releaseHost p r.t))
        ∧ (admitted s m r.t → exec e.1 s = .next (((begun s m r.t).perform m r.t).releaseHost p r.t)))
    ∧ ∀ (m : HostMsg) (t : Nat), m.req = r →
        let k := s.port p
        let q := r.seq.toNat
        let seen := k.answered.find? fun a => a.1 == q
        (m.typ = 1 → s.perform m t = s.doRead m t) ∧ (m.typ = 2 → s.perform m t = s.doWrite m t) ∧ (m.typ = 3 → s.perform m t = s.doWriteif m t)
        ∧ (m.typ = 4 → s.perform m t = s.doInvoke m t) ∧ (m.typ = 5 → s.perform m t = s.doSubscribe m t)
        ∧ (∀ a, seen = some a → s.request m t = (s.inc portStateDuplicates p 1).sendUnit p (.response p q a.2.1 a.2.2)
            (messageBytes (if a.2.1 = 0 then 7 else 8) 0 p (s.portRole p) q m.obj r.index.toNat a.2.1 a.2.2) t)
        ∧ (seen = none → k.running.contains q = true → s.request m t = s)
        ∧ (seen = none → k.running.contains q = false → s.preStatus m ≠ 0 → s.request m t = s.reply m (s.preStatus m) noPayload t)
        ∧ (seen = none → k.running.contains q = false → s.preStatus m = 0 → 256 < r.payload.len → s.request m t = s.reply m 4 noPayload t)
        ∧ (s.sup.pfailhLow = true → s.preStatus m = 7)
        ∧ (s.sup.pfailhLow = false →
            (s.portRole p = 0 → s.preStatus m = 3)
            ∧ (s.portRole p ≠ 0 → 8 ≤ k.running.length → s.preStatus m = 9)
            ∧ (s.portRole p ≠ 0 → k.running.length < 8 →
                (m.typ = 0 ∨ 5 < m.typ → s.preStatus m = 1)
                ∧ (1 ≤ m.typ → m.typ ≤ 5 →
                    (rightOf m.obj = none → s.preStatus m = 2)
                    ∧ ∀ g, rightOf m.obj = some g → (g.count ≤ r.index.toNat → m.obj ≠ 0x19F0 → s.preStatus m = 2)
                        ∧ (r.index.toNat < g.count → hasRole (g.roles m.typ) (s.portRole p) = false → s.preStatus m = 3)
                        ∧ (r.index.toNat < g.count → hasRole (g.roles m.typ) (s.portRole p) = true → s.lifecycle ≠ 3 → s.lifecycle ≠ 4 →
                            s.preStatus m = if (s.cway.fieldAbsent || !s.sup.fieldUp) && !hostSideObj m.obj then 0xA else 0))))
        ∧ (hostSideObj m.obj = false → ∃ g, queuedIn (s.dir .host) ((s.beginRequest m t).dir .host) g ∧ g.ctype = 0x01 ∧ g.cls = 1 ∧ g.payload = r.payload)
        ∧ (hostSideObj m.obj = true → s.beginRequest m t = s.setPort p { k with running := q :: k.running })
        ∧ (∀ st pl, let w := s.reply m st pl t
            (w.port p).answered = ((q, st, pl) :: k.answered).take 16 ∧ (w.port p).running = k.running.erase q
              ∧ w.get portStateNaks p = (if st = 0 then s.get portStateNaks p else min (s.get portStateNaks p + 1) (2 ^ 32 - 1)))

/-- A WRITE of another length than its index is refused with 4, one that sets a reserved bit with 5, one that breaks its object's rule with
that rule's status, none changing anything; a full journal ring refuses a CONFIG change with 7. An accepted one gives RW fields the
written bits, clears W1C bits written 1, keeps RO fields, raises the change counter, is answered with it, and has its object's effect.
WRITEIF does the same only where the counter named is the present one, else 8 with it. READ returns the index's bytes and clears its RC
fields, or with flags [1] the counter. SUBSCRIBE adds, replaces or cancels a subscription; 4, 6 and 13 refuse it. -/
def Obligations.HostDataRule : Prop :=
∀ (m : HostMsg) (n : Nat) (s : State),
    let p := m.req.port.val
    let i := m.req.index.toNat
    let pl := m.req.payload
    let role := s.portRole p
    let count (w : State) : Payload := payloadOf 4 (w.counter m.obj i)
    (let w := s.writeIndex m.obj i p role pl n
     s.doWrite m n = w.2.reply m w.1 (if w.1 = 0 then count w.2 else noPayload) n)
    ∧ (∀ d, findObj m.obj = some d → 4 ≤ pl.len → d.size ≤ 252 → let w := s.writeIndex m.obj i p role ⟨pl.len - 4, pl.data / 2 ^ 32⟩ n
        (argAt pl 0 4 ≠ s.counter m.obj i → s.doWriteif m n = s.reply m 8 (count s) n)
        ∧ (argAt pl 0 4 = s.counter m.obj i → s.doWriteif m n = w.2.reply m w.1 (if w.1 = 0 then count w.2 else noPayload) n))
    ∧ (∀ d obj, findObj obj = some d → obj ≠ 0x1230 → let u := s.takeWrite d i pl.data
        let st := writeRules s u obj i role pl.data
        let same := ∀ f ∈ d.fields, f.acc = .rw → f.cls ≠ 0
        (pl.len ≠ d.size → s.writeIndex obj i p role pl n = (4, s))
        ∧ (pl.len = d.size → d.setsReserved (pl.data % 2 ^ (8 * pl.len)) = true → s.writeIndex obj i p role pl n = (5, s))
        ∧ (pl.len = d.size → d.setsReserved (pl.data % 2 ^ (8 * pl.len)) = false →
            (st ≠ 0 → s.writeIndex obj i p role pl n = (st, s))
            ∧ (st = 0 → same → groupOf obj = none → s.writeIndex obj i p role pl n = (0, State.written s (u.touch obj i) obj i p role pl n))
            ∧ (st = 0 → s.ringFull (6 + d.size) = false → (s.writeIndex obj i p role pl n).1 = 0)
            ∧ (st = 0 → s.ringFull (6 + d.size) = true → (∃ f ∈ d.fields, f.acc = .rw ∧ f.cls = 0) → (∀ f ∈ d.fields, f.acc = .rw → f.cls ≠ 1) →
                s.writeIndex obj i p role pl n = (7, s.setLost 5 true n))))
    ∧ (∀ d data, d ∈ objTable →
        (∀ f ∈ d.fields, (s.writeFields d i data).get f i = match f.acc with
            | .rw => f.of data
            | .w1c => (s.get f i - (s.get f i &&& f.of data)) % 2 ^ f.width
            | _ => s.get f i)
        ∧ ∀ (g : Fld) (j : Nat), (∀ f ∈ d.fields, g.key j ≠ f.key i) → (s.writeFields d i data).get g j = s.get g j)
    ∧ (∀ u : State,
        State.written s u 0x0100 i p role pl n = u.setPort i { u.port i with subs := [], last := [] } ∧ State.written s u 0x0140 i p role pl n = u.evict i
        ∧ (s.get allocConfigEpochLenMs 0 ≠ u.get allocConfigEpochLenMs 0 → State.written s u 0x0200 i p role pl n = u.retractAll n)
        ∧ (u.fastDue = false → State.written s u 0x0201 i p role pl n = u.reclamp none [] n) ∧ State.written s u 0x0410 i p role pl n = u.slotWritten i n
        ∧ State.written s u 0x0600 i p role pl n = State.coolWritten s u i ∧ State.written s u 0x0810 i p role pl n = State.calibrated s u 0x0810 i n
        ∧ State.written s u 0x1210 i p role pl n = (u.unrestore i).refreshEst.endUnfit n ∧ State.written s u 0x1310 i p role pl n = u.reform i n
        ∧ State.written s u 0x1400 i p role pl n = State.nodeWritten s u i n ∧ State.written s u 0x1401 i p role pl n = u.blobWritten i pl.data n
        ∧ (s.get meshConfigBand 0 ≠ u.get meshConfigBand 0 → State.written s u 0x1480 i p role pl n = u.meshRestart n)
        ∧ State.written s u 0x1940 i p role pl n = u.injectStarted i p role n
        ∧ (∀ x, x = 0x1A20 ∨ x = 0x1A50 ∨ x = 0x0480 → State.written s u x i p role pl n = u)
        ∧ (u.injectStarted i p role n).get injectState i = 1 ∧ (u.injectStarted i p role n).get injectStart i = n % 2 ^ 64
        ∧ (u.injectStarted i p role n).get injectApplied i = 0)
    ∧ (m.flags.testBit 1 = true → s.doRead m n = s.reply m 0 (count s) n)
    ∧ (m.flags.testBit 1 = false → (findObj m.obj).isSome = true → s.doRead m n = ((s.refreshObj m.obj i n).clearRc m.obj i).reply m 0 (s.render m.obj i n) n)
    ∧ (∀ d, findObj m.obj = some d → ∀ f ∈ d.fields, f.acc = .rc → (s.clearRc m.obj i).get f i = 0)
    ∧ (let b : Sub := { obj := m.obj, first := i, last := argAt pl 0 2, minMs := argAt pl 2 2, period := argAt pl 4 4, peer := (s.port p).peer }
       let others := (s.port p).subs.filter fun x => !(x.same b)
       (pl.len ≠ 8 → s.doSubscribe m n = s.reply m 4 noPayload n)
       ∧ (pl.len = 8 → m.flags.testBit 2 = true → s.doSubscribe m n = (s.setPort p { s.port p with subs := others }).reply m 0 noPayload n)
       ∧ (pl.len = 8 → m.flags.testBit 2 = false → b.last < i ∨ 60000 < b.minMs → s.doSubscribe m n = s.reply m 6 noPayload n)
       ∧ (pl.len = 8 → m.flags.testBit 2 = false → i ≤ b.last → b.minMs ≤ 60000 →
           (64 ≤ others.length → s.doSubscribe m n = s.reply m 0xD noPayload n)
           ∧ (others.length < 64 → ∃ w : State, s.doSubscribe m n = w.reply m 0 noPayload n ∧ (w.port p).subs = others ++ [b] ∧ w.objs = s.objs)))

/-- A NOTIFY leaves against a credit with the port's next number; with flags [0] it awaits its acknowledgement and goes out again under a
new number when 10 s and the settle time have passed. One of the field side crosses as HOST_RSP, and while the host side is absent waits in the journal. The
queue holds 256, dropping the oldest without flags [0] beyond. An
acknowledgement that names its number ends the wait; the last part of a receipt raises source 0x41; a learned capacity becomes
acknowledged. A CREDIT never takes a port above 64. Link-up gives 8 credits and sends a restart CREDIT with a window of 8. An SPI write
of opcode 1 and a console frame between flags are decoded in C2 and taken as a message; a message shorter than its header says is
discarded; a lost host-lane frame is counted. -/
def Obligations.HostPortRule : Prop :=
∀ (n : Nat) (x : Fin 6) (s : State),
    let p := x.val
    let k := s.port p
    let u := s.at n
    let c := s.get portStateNtfCredits p
    exec (.notify n x) s = .next (if s.hears p n = true then u.notifyPort p n else u)
    ∧ (k.queue = [] ∨ c = 0 → s.sendNtf p n = s)
    ∧ (∀ a rest, k.queue = a :: rest → c ≠ 0 → let t := s.sendNtf p n
        (t.port p).queue = rest ∧ (t.port p).nextSeq = (k.nextSeq + 1) % 65536 ∧ t.get portStateNtfCredits p = (c - 1) % 256
          ∧ (t.port p).awaits = k.awaits ++ (if a.ack = true then [{ seq := k.nextSeq, ntf := a, sentAt := n, first := n }] else []))
    ∧ (∀ a : Ntf, (hostSideObj a.obj = false → s.cway.hostAbsent = true →
          s.enqueueNtf p a = { s with cway := { s.cway with queued := s.cway.queued ++ [.notify p a.obj a.idx a.ack a.payload] } })
        ∧ (hostSideObj a.obj = true → s.enqueueNtf p a = s.holdNtf p a)
        ∧ (hostSideObj a.obj = false → s.cway.hostAbsent = false → ∃ (u : State) (m : CwMsg), s.enqueueNtf p a = u.holdNtf p a
            ∧ queuedIn (s.dir .field) (u.dir .field) m ∧ m.ctype = 0x02 ∧ m.cls = 1 ∧ m.payload = a.payload ∧ u.port p = k ∧ u.objs = s.objs)
        ∧ (k.queue.length < 256 → s.holdNtf p a = s.setPort p { k with queue := k.queue ++ [a] })
        ∧ (∀ j, 256 ≤ k.queue.length → (k.queue ++ [a]).findIdx? (fun y => !y.ack) = some j → ∃ t : State, s.holdNtf p a = t
            ∧ (t.port p).queue = (k.queue ++ [a]).eraseIdx j ∧ t.get portStateNotifyDrops p = min (s.get portStateNotifyDrops p + 1) (2 ^ 32 - 1)))
    ∧ (∀ (b : Sub) (i : Nat), let last := Tab.get k.last (b.obj * 65536 + i) (0, ⟨0, 0⟩)
        let now := s.baseline b.obj i n
        let q : Ntf := { obj := b.obj, idx := i, ack := false, payload := s.render b.obj i n }
        let told := (s.setPort p { k with last := Tab.set k.last (b.obj * 65536 + i) (n, now) }).enqueueNtf p q
        (b.obj ∉ [0x0D00, 0x01E1, 0x1240] → now ≠ last.2 → last.1 + b.minMs * 1000000 ≤ n → s.judgeSub p b n i = told)
        ∧ (b.obj ∉ [0x0D00, 0x01E1, 0x1240] → b.period ≠ 0 → last.1 + b.period * 1000000 ≤ n → s.judgeSub p b n i = told)
        ∧ (b.obj ≠ 0x1240 → now = last.2 ∨ n < last.1 + b.minMs * 1000000 → b.period = 0 ∨ n < last.1 + b.period * 1000000 → s.judgeSub p b n i = s))
    ∧ (∀ (q : BitVec 16) (a : Await), k.awaits.find? (fun y => y.seq == q.toNat) = some a →
        (n < a.sentAt + 10000002000 ∨ c = 0 ∨ s.hears p n = false → exec (.notifyResend n x q) s = .next u)
        ∧ (a.sentAt + 10000002000 ≤ n → c ≠ 0 → s.hears p n = true → ∃ t, exec (.notifyResend n x q) s = .next t
            ∧ (t.port p).awaits = (k.awaits.filter fun y => y.seq != a.seq) ++ [{ a with seq := k.nextSeq, sentAt := n }]
            ∧ (t.port p).nextSeq = (k.nextSeq + 1) % 65536 ∧ t.get portStateNtfCredits p = (c - 1) % 256 ∧ (t.port p).queue = k.queue))
    ∧ (∀ q : BitVec 16, k.awaits.find? (fun y => y.seq == q.toNat) = none → exec (.notifyResend n x q) s = .next u)
    ∧ (∀ (q o : BitVec 16) (nak : Bool), exec (.hostAck n x q o nak) s = .next (if s.hears p n = true then (u.ackNtf p q.toNat (some o.toNat) n).refreshLands n else u))
    ∧ (∀ (q : Nat) (o : Option Nat), let hit := k.awaits.find? fun a => a.seq == q && o.all (· == a.ntf.obj) && decide (n ≤ a.sentAt + 10000000000)
        (hit = none → s.ackNtf p q o n = s)
        ∧ ∀ a, hit = some a → let t := s.setPort p { k with awaits := k.awaits.filter fun y => y.seq != q }
            (a.ntf.obj ≠ 0x1240 → a.ntf.obj ≠ 0x0D00 → s.ackNtf p q o n = t) ∧ (a.ntf.obj = 0x1240 → s.ackNtf p q o n = t.put battLearnState a.ntf.idx 2)
            ∧ (a.ntf.obj = 0x0D00 → let open_ := ∃ z j, z < 6 ∧ j < 4 ∧ (t.port z).holds 0x0D00 (a.ntf.idx / 4 * 4 + j) = true
              (open_ → s.ackNtf p q o n = t) ∧ (¬ open_ → s.ackNtf p q o n = t.raise 0x41 n)))
    ∧ (∀ (g q : BitVec 16) (b : Bool), let w := u.put portStateNtfCredits p (min 64 (c + g.toNat))
        exec (.credit n x g b q) s = .next (if s.hears p n = false then u else if b = true then (w.ackNtf p q.toNat none n).refreshLands n else w))
    ∧ (s.hears p n = false → exec (.linkUp n x) s = .next u)
    ∧ (s.hears p n = true → ∃ t, exec (.linkUp n x) s = .next t ∧ t.get portStateLink p = 1 ∧ t.get portStateNtfCredits p = 8
        ∧ (p = 5 → .credit p 8 true ∈ t.out) ∧ (p = 4 → (t.port 4).toRead = k.toRead ++ [messageBytes 9 8 4 (s.portRole 4) 0 0 0 0 ⟨2, 8⟩]))
    ∧ (∀ (l : List (BitVec 8)) (lo hi : BitVec 8), let len := lo.toNat + 256 * hi.toNat
        exec (.spiWrite n (1 :: lo :: hi :: l)) s = .next (if len ≤ l.length ∧ s.sup.hostUp = true then u.takeCoded 4 ((l.map BitVec.toNat).take len) n else u)
        ∧ (∀ op : BitVec 8, op ≠ 1 → exec (.spiWrite n (op :: lo :: hi :: l)) s = .next u))
    ∧ (∀ l : List (BitVec 8), l.length < 3 → exec (.spiWrite n l) s = .next u)
    ∧ (s.sup.hostUp = false → exec (.spiRead n) s = .next u ∧ exec (.spiStatus n) s = .next u)
    ∧ (s.sup.hostUp = true → (s.port 4).toRead = [] → exec (.spiRead n) s = .next (u.emit (.spi [0, 0])))
    ∧ (∀ m rest, s.sup.hostUp = true → (s.port 4).toRead = m :: rest → ∃ t, exec (.spiRead n) s = .next t ∧ (t.port 4).toRead = rest
        ∧ .spi (((codeString (bytesOf m.len m.data) 16).length % 256 :: (codeString (bytesOf m.len m.data) 16).length / 256
            :: codeString (bytesOf m.len m.data) 16).map (BitVec.ofNat 8)) ∈ t.out ∧ (rest = [] → Tab.get t.sup.lands 7 false = true))
    ∧ (s.sup.hostUp = true → ∃ b : BitVec 8, exec (.spiStatus n) s = .next (u.emit (.spi [b])) ∧ (b.getLsbD 0 = true ↔ (s.port 4).toRead ≠ [])
        ∧ (b.getLsbD 1 = true ↔ (s.port 4).running.length < 8) ∧ b.getLsbD 2 = (s.cway.fieldAbsent || !s.sup.fieldUp))
    ∧ (∀ (y : Fin 6) (bytes : List Nat), let r := if y.val < 4 then 31 + y.val else 13
        (decodeString bytes 16 = none → s.takeCoded y bytes n = s.countBlock r .uncorrectable 0 n)
        ∧ ∀ d b e, decodeString bytes 16 = some (d, b, e) → s.takeCoded y bytes n = ((s.inc eccCorrBlocks r b).inc eccCorrBytes r e).takeMessage y ⟨d.length, ofBytes d⟩ n)
    ∧ (∀ m : Payload, let len := argAt m 0xA 2
        let typ := argAt m 0 1
        let pl := payloadOf len (argAt m 16 len)
        (m.len < 16 → s.takeMessage x m n = s)
        ∧ (16 + len ≤ m.len → typ ∉ [7, 8, 9] → s.takeMessage x m n = s.capture { req := { t := n, port := x, seq := BitVec.ofNat 16 (argAt m 4 2), index := BitVec.ofNat 16 (argAt m 8 2), payload := pl }, typ := typ, flags := argAt m 1 1 + 256 * argAt m 0xE 2, obj := argAt m 6 2 } n)
        ∧ (16 + len ≤ m.len → typ = 7 ∨ typ = 8 → s.hears p n = true → s.takeMessage x m n = (s.ackNtf p (argAt m 4 2) (some (argAt m 6 2)) n).refreshLands n)
        ∧ (16 + len ≤ m.len → typ = 9 → s.hears p n = true → s.takeMessage x m n = s.credit p (argAt pl 0 2) ((argAt m 1 1).testBit 0) (argAt pl 2 2) n))
    ∧ (∀ l : List (BitVec 8), (s.sup.hostUp = true → s.consoleOn n = true → l.getLast? = some 0x7E → exec (.consoleFrame n (0x7E :: l)) s
            = .next (u.takeCoded 5 (unescape (l.map BitVec.toNat).dropLast) n))
        ∧ (s.sup.hostUp = false ∨ s.consoleOn n = false ∨ l.getLast? ≠ some 0x7E → exec (.consoleFrame n (0x7E :: l)) s = .next u))
    ∧ (∀ e, s.hosts.consoleUntil = some e → (e ≤ n → exec (.consoleTimeout n) s = .next { u with hosts := { s.hosts with consoleUntil := none } })
        ∧ (n < e → exec (.consoleTimeout n) s = .next u))
    ∧ (s.hosts.consoleUntil = none → exec (.consoleTimeout n) s = .next u)
    ∧ (∀ (l : Fin 4) (f : HostFrame), let good := f.whole = true ∧ (s.get laneHostMode l = 2 → f.etherType = some 0x88B5 ∧ f.macOk = true)
        (s.hears l n = false → exec (.hostLaneFrame n l f) s = .next u)
        ∧ (s.hears l n = true → f.block = .clean → quietOn s 2 l 0 n →
            let v := u.setLane l { s.lane l with frame := ((s.lane l).frame + 1) % 2 ^ 32 }
            let w := if s.get laneHostMode l = 2 then v.setPort l { v.port l with peer := f.src.toNat } else v
            (good → exec (.hostLaneFrame n l f) s = .next (w.takeMessage ⟨l, by omega⟩ f.msg n))
            ∧ (¬ good → exec (.hostLaneFrame n l f) s = .next (v.inc laneStateFramesLost l 1))))

/-- A row's payload names its code; with another it is not that command and changes only the clock. An INVOKE of a wrong form, or by a role
that its code does not admit, is refused and does nothing; an admitted one does what its code does on its object's index and answers
with its result. Each code acts where its chapter permits and is refused otherwise: HELD left, a failed phase or a sensor restored, the
seal broken for 3,600 s or closed, a calendar set pending, a period closed, receipts resent, an authorisation answered, a session
stopped, a weld verdict withdrawn, a safety set committed, an outlet stopped or released, faults cleared, a lane or avenue retrained,
blobs and digests sent, a channel recovered, tone maps refreshed, the console enabled or disabled. -/
def Obligations.HostInvokeRule : Prop :=
∀ (r : Req) (s : State),
    let p := r.port.val
    let pl := r.payload
    (∀ e : Instr × Nat × Nat, e ∈ [(.releaseHeld r, 0x0540, 1), (.releaseFailedPhase r, 0x0540, 2), (.sensorRestore r, 0x06A0, 1), (.sealBreak r, 0x08E0, 1),
          (.reseal r, 0x08E0, 2), (.timeSet r, 0x1B02, 1), (.activate r, 0x0CF0, 1), (.closePeriod r, 0x0CF0, 2), (.resend r, 0x0CF0, 3), (.authorize r, 0x1030, 1),
          (.deny r, 0x1030, 2), (.stop r, 0x1030, 3), (.releaseWelded r, 0x1030, 4), (.commit r, 0x11F0, 1), (.safetyStop r, 0x11F0, 2), (.safetyRelease r, 0x11F0, 3),
          (.clearGroup r, 0x11F0, 4), (.clearChan r, 0x11F0, 5), (.laneRetrain r, 0x13F0, 1), (.reformAvenue r, 0x13F0, 2), (.reconcile r, 0x1403, 1),
          (.digestRequest r, 0x1403, 2), (.recover r, 0x1450, 1), (.refreshToneMaps r, 0x14F0, 1), (.consoleEnable r, 0x0118, 1), (.consoleDisable r, 0x0118, 2),
          (.generate r, 0x0160, 1), (.importPlain r, 0x0160, 2), (.importWrapped r, 0x0160, 3), (.delete r, 0x0160, 4), (.publicPoint r, 0x0160, 5),
          (.provision r, 0x0190, 1), (.sealDevice r, 0x0190, 2), (.approve r, 0x0190, 3), (.unsealDevice r, 0x0190, 4), (.returnDevice r, 0x0190, 5),
          (.scrap r, 0x0190, 6), (.attestRequest r, 0x01E0, 1), (.approveTakeover r, 0x18F0, 1), (.clearFailureMark r, 0x18F0, 2), (.durableRead r, 0x1860, 1),
          (.service r, 0x0020, 1), (.standby r, 0x0020, 2), (.maintenance r, 0x0020, 3), (.leaveMaintenance r, 0x0020, 4), (.leaveSafeHold r, 0x0020, 5),
          (.warmReset r, 0x0020, 6), (.coldReset r, 0x0020, 7), (.check r, 0x1A60, 1), (.partitionActivate r, 0x1A60, 2), (.injectionStop r, 0x19F0, 1)] →
        let m : HostMsg := { req := r, typ := 4, flags := 0, obj := e.2.1 }
        let w := begun s m r.t
        let may := hasRole (codeRoles e.2.1 e.2.2) (s.portRole p)
        (argAt pl 0 1 ≠ e.2.2 → exec e.1 s = .next (s.at r.t))
        ∧ (argAt pl 0 1 = e.2.2 → admitted s m r.t →
            (formOf e.2.1 pl ≠ 0 → exec e.1 s = .next ((w.reply m (formOf e.2.1 pl) noPayload r.t).releaseHost p r.t))
            ∧ (formOf e.2.1 pl = 0 → may = false → exec e.1 s = .next ((w.reply m 3 noPayload r.t).releaseHost p r.t))
            ∧ (formOf e.2.1 pl = 0 → may = true → (e.2.1 = 0x1A60 → e.2.2 = 1) → let a := w.act m e.2.2 r.t
                exec e.1 s = .next ((if a.1 = 0xFFFF then a.2.2 else a.2.2.reply m a.1 a.2.1 r.t).releaseHost p r.t))))
    ∧ (∀ o, (pl.len < 4 → formOf o pl = 4) ∧ (4 ≤ pl.len → argAt pl 1 3 ≠ 0 → formOf o pl = 5)
        ∧ ∀ z, 4 ≤ pl.len → argAt pl 1 3 = 0 → codesOf o = some z → (argAt pl 0 1 = 0 ∨ z < argAt pl 0 1 → formOf o pl = 6)
          ∧ (1 ≤ argAt pl 0 1 → argAt pl 0 1 ≤ z → pl.len ≠ lengthOf o (argAt pl 0 1) pl → formOf o pl = 4))
    ∧ (∀ (m : HostMsg) (n : Nat), m.req = r → let i := r.index.toNat
        let role := s.portRole p
        ∀ e : Nat × Nat × Ans, e ∈ [(0x0540, 1, s.releaseHeld i role n), (0x0540, 2, s.releasePhase i (argAt pl 4 1) n), (0x06A0, 1, s.restoreSensor i n), (0x08E0, 1, s.breakSeal p n),
          (0x08E0, 2, okAns (s.closeSeal n)), (0x0CF0, 1, s.activateAt (argAt pl 8 8) n), (0x0CF0, 2, s.closeBillPeriod n), (0x0CF0, 3, s.resendFrom (argAt pl 8 8)),
          (0x1030, 1, s.answerAuth i true n), (0x1030, 2, s.answerAuth i false n), (0x1030, 3, s.hostStop i (argAt pl 4 1) n), (0x1030, 4, s.releaseWeld i n),
          (0x11F0, 1, if i = 0 then s.commitSafety (argAt pl 4 4) n else noAns 2 s), (0x11F0, 2, s.safetyStop i n), (0x11F0, 3, s.safetyRelease i), (0x11F0, 4, s.clearGroup i n),
          (0x11F0, 5, s.clearChan i n), (0x13F0, 1, s.retrainLane i n), (0x13F0, 2, s.reformAvenue i n), (0x1403, 1, s.nodeCmd i 1), (0x1403, 2, s.nodeCmd i 2),
          (0x1450, 1, s.recoverCan i), (0x14F0, 1, s.askTones i), (0x0118, 1, s.enableConsole p n), (0x0118, 2, s.disableConsole)] → m.obj = e.1 → s.act m e.2.1 n = e.2.2)
    ∧ ∀ (o n role : Nat),
        let refused (st : Nat) : Ans := (st, noPayload, s)
        let done (t : State) : Ans := (0, noPayload, t)
        let st := (s.sess o).st
        (s.convState o ≠ 8 ∨ s.get ctlStateHeldCause o = 9 → s.releaseHeld o role n = refused 7)
        ∧ (s.convState o = 8 → s.get ctlStateHeldCause o = 1 → role ≠ 5 → s.releaseHeld o role n = refused 3)
        ∧ (s.convState o = 8 → s.get ctlStateHeldCause o = 1 → role = 5 → s.releaseHeld o role n = done ((s.put ctlStateAborts o 0).enterState o 0 n))
        ∧ (s.convState o = 8 → s.get ctlStateHeldCause o ∉ [1, 9] → s.releaseHeld o role n = done ((s.put ctlStateAborts o 0).enterState o 0 n))
        ∧ (∀ ph, (24 ≤ ph → s.releasePhase o ph n = refused 6) ∧ (ph < 24 → s.convState o ≠ 0 ∨ s.bit ctlStateFailedMap o ph = false → s.releasePhase o ph n = refused 7)
            ∧ (ph < 24 → s.convState o = 0 → s.bit ctlStateFailedMap o ph = true → let v := s.putBit ctlStateFailedMap o ph false
                s.releasePhase o ph n = done (((v.putFlag ctlStateDegraded o (v.stillDegraded o)).reportPhases o).reportSlots n)))
        ∧ s.restoreSensor o n = (if s.get thermSensorStatus o = 2
            then done ((((s.put thermSensorStatus o 0).put thermSensorSuspectRounds o 0).put thermSensorOutStamp o 0).refreshSensors n) else refused 7)
        ∧ (∀ q, (s.get modeStateMode 0 ≠ 5 → s.breakSeal q n = refused 7) ∧ (s.get modeStateMode 0 = 5 → ∃ t, s.breakSeal q n = (0, payloadOf 8 (n + 3600000000000), t)
            ∧ t.flag meterStatusSealOpen 0 = true ∧ t.get meterStatusSealUntil 0 = (n + 3600000000000) % 2 ^ 64))
        ∧ (∀ a, s.activateAt a n = if s.calendarOk a = true then done (((s.put billStateActivationUtc 0 a).putBit billStateFlags 0 1 true).showBoundary n) else refused 6)
        ∧ (∃ t, s.closeBillPeriod n = (0, payloadOf 4 (s.get billStatePeriod 0), t) ∧ t.get billStatePeriod 0 = (s.get billStatePeriod 0 + 1) % 2 ^ 32
            ∧ ∀ q z, q < 16 → z < 16 → t.get (billDemandDMax z) q = 0
              ∧ t.get (billPeriodDMax z) (16 * (s.get billStatePeriod 0 % 12) + q) = s.get (billDemandDMax z) q % 2 ^ 32)
        ∧ (s.hostStop o role n = if 3 ≤ st ∧ st ≤ 7 then done (s.stopSess o 7 role n) else refused 7)
        ∧ (∀ b, s.answerAuth o b n = (s.authorizeSess o b n).elim (refused 7) done)
        ∧ ((s.sess o).welded = false → s.bit safetyStateWelded 0 o = false → s.releaseWeld o n = refused 7)
        ∧ (∀ crc, crc32 (s.safetyBytes 1 12) ≠ crc ∨ s.safetyInRange 1 12 = false → s.commitSafety crc n = refused 6)
        ∧ (∀ crc, crc32 (s.safetyBytes 1 12) = crc → s.safetyInRange 1 12 = true → ∃ t, s.commitSafety crc n = done t ∧ t.get safetyStateCommitted 0 = 1
            ∧ (∀ f ∈ safetyParamDef.fields, f.pos < 96 → t.get f 0 = s.get f 1 % 2 ^ f.width))
        ∧ s.safetyStop o n = (if o < 12 then done ((s.trip none o 7 3 n).demandStop o 2 n) else refused 2)
        ∧ (o < 12 → (s.outSafe o).stop.testBit 2 = false → s.safetyRelease o = refused 7)
        ∧ (o < 2 → (s.bit safetyStateSoFault 0 o = false ∧ s.bit modeStateHold 0 2 = false) ∨ s.flag safetySoHfb o = true ∨ s.flag safetySoLfb o = true → s.clearGroup o n = refused 7)
        ∧ (o < 2 → s.bit safetyStateSoFault 0 o = true ∨ s.bit modeStateHold 0 2 = true → s.flag safetySoHfb o = false → s.flag safetySoLfb o = false →
            ∃ t, s.clearGroup o n = done t ∧ t.bit safetyStateSoFault 0 o = false ∧ t.get safetySoFault o = 0)
        ∧ ((s.get safetyStateChanFault 0 ≠ 0 ∨ s.bit modeStateHold 0 1 = true) → s.safe.sa.diffs = 0 → s.safe.sb.diffs = 0 → ∃ t, s.clearChan 0 n = done t ∧ t.get safetyStateChanFault 0 = 0)
        ∧ (o < 16 → s.retrainLane o n = if s.get laneStateState o = 4 then done (s.beginRetrain o n) else refused 7)
        ∧ (o < 6 → let idle := s.get modeStateMode 0 = 5 ∧ ∀ z, z < 13 → s.avenueServes o z = true → s.convState z = 0
          (idle → s.reformAvenue o n = done (s.reform o n)) ∧ (¬ idle → s.reformAvenue o n = refused 7))
        ∧ (∀ code, s.nodeCmd o code = if s.get nodeEntryKind o = 0 then refused 7 else done (if code = 1 then s.sendBlob o 1 else s.askDigest o))
        ∧ s.recoverCan o = (if s.get canStateState o = 4 then done (s.canJoin o) else refused 7)
        ∧ (s.nbrOf o = none → s.askTones o = refused 7)
        ∧ (s.lifecycle = 2 → o ≠ 5 → ∃ t, s.enableConsole o n = done t ∧ t.hosts.consoleUntil = some (n + 3600000000000))
        ∧ s.disableConsole = done { s with hosts := { s.hosts with consoleUntil := none } }

/-- key.cmd 2 works in PROVISIONED alone, the others in PROVISIONED and SEALED: a key drawn or imported is wrapped into its praline for the
present lifecycle epoch and any loaded copy evicted. The lifecycle moves along Table 14-12 with every converter OFF: sealing needs an
approval younger than 600 s and makes the legal signing key, unsealing needs it too and destroys that key, a return destroys every
integrator key and raises lc_epoch, scrapping keeps lc.state alone. mode.cmd moves the mode where Table 16-2 permits it, leaving
SAFE-HOLD where every cause held accepts the role; a reset is asked of the field side with no converter energised. An image is
activated where role, mode and the loader's checks allow it. A held record is read in parts of 224 bytes. An injection stopped ends
with state 4. -/
def Obligations.HostKeyModeRule : Prop :=
∀ (m : HostMsg) (n : Nat) (s : State),
    let r := m.req
    let p := r.port.val
    let pl := r.payload
    let role := s.portRole p
    let refused (st : Nat) : Ans := (st, noPayload, s)
    let done (t : State) : Ans := (0, noPayload, t)
    let mode := s.get modeStateMode 0
    let lc := s.lifecycle
    let x := argAt pl 4 2
    let alg := argAt pl 6 1
    (∀ e : Nat × Nat × Ans, e ∈ [(0x0160, 1, s.keyCmd 1 pl n), (0x0160, 4, s.keyCmd 4 pl n), (0x0190, 2, s.seal n), (0x0190, 5, s.returnAll n), (0x01E0, 1, s.attestFor p (argAt pl 4 32) n),
        (0x0020, 1, s.modeCmd 1 r n), (0x1A60, 1, s.checkStaged r.index.toNat), (0x18F0, 1, s.approveTakeover r.index.toNat), (0x18F0, 2, s.clearMark r.index.toNat n),
        (0x1860, 1, s.readRecord pl role), (0x1B02, 1, s.setTime (argAt pl 8 8) p role n), (0x19F0, 1, s.stopInjections r.index.toNat n)] → m.obj = e.1 → s.act m e.2.1 n = e.2.2)
    ∧ (∀ code, (code = 2 → lc ≠ 1) → (code ≠ 2 → lc ≠ 1 ∧ lc ≠ 2) → s.keyCmd code pl n = refused 7)
    ∧ (lc = 1 ∨ lc = 2 → s.keyCmd 1 pl n = s.generateKey pl n ∧ s.keyCmd 3 pl n = s.importWrapped pl n ∧ s.keyCmd 4 pl n = s.deleteKey x n ∧ s.keyCmd 5 pl n = s.publicKey x)
    ∧ (lc = 1 → s.keyCmd 2 pl n = s.importPlain pl n)
    ∧ (s.keyArgs pl ≠ 0 → s.generateKey pl n = refused (s.keyArgs pl) ∧ s.importPlain pl n = refused (s.keyArgs pl) ∧ s.importWrapped pl n = refused (s.keyArgs pl))
    ∧ (1024 ≤ x → s.keyArgs pl = 6) ∧ (x < 1024 → pairOk alg (argAt pl 7 1) = false → s.keyArgs pl = 0xC)
    ∧ (s.keyArgs pl = 0 → let key := Config.newKey s.keys.made alg % 2 ^ (8 * keyBytes alg)
        ∃ t, s.generateKey pl n = (0, payloadOf (publicBytes alg) (Config.publicOf alg key), t) ∧ t.keys.made = s.keys.made + 1 ∧ t.get pralineMagic x = 0x314C5250
          ∧ t.get pralineAlg x = alg ∧ t.get pralineAttr x = argAt pl 7 1 ∧ t.get pralineLcEpoch x = s.get lcStateLcEpoch 0 % 256 ∧ ∀ e ∈ t.keys.slots, e.2.praline ≠ x)
    ∧ (s.keyArgs pl = 0 → s.importPlain pl n = if argAt pl 24 2 = keyBytes alg then done (s.writePraline pl (argAt pl 26 (keyBytes alg)) n) else refused 6)
    ∧ (s.keyArgs pl = 0 → argAt pl 26 2 < 24 ∨ 80 < argAt pl 26 2 → s.importWrapped pl n = refused 6)
    ∧ (x < 1024 → s.ringFull 110 = false → ∃ t, s.deleteKey x n = done t ∧ t.get pralineMagic x = 0 ∧ t.get pralineWrapped x = 0 ∧ ∀ e ∈ t.keys.slots, e.2.praline ≠ x)
    ∧ (∀ key, x < 1024 → s.pralineKey x = some key → s.publicKey x = (0, payloadOf (publicBytes (s.get pralineAlg x)) (Config.publicOf (s.get pralineAlg x) key), s))
    ∧ (x < 1024 → s.pralineKey x = none → s.publicKey x = refused 0xC)
    ∧ (∀ c, (lc ≠ 0 ∨ s.allOff = false → s.provision c = refused 7) ∧ (lc = 0 → s.allOff = true → (Config.sha512 512 s.enrolled % 2 ^ 64 ≠ c → s.provision c = refused 6)
        ∧ (Config.sha512 512 s.enrolled % 2 ^ 64 = c → ∃ t, s.provision c = done t ∧ t.lifecycle = 1 ∧ t.get lcStateLcEpoch 0 = 1 ∧ t.keys.integrator = some s.enrolled)))
    ∧ (lc ≠ 1 ∨ s.allOff = false ∨ s.approved n = false ∨ s.keys.identity = false → s.seal n = refused 7)
    ∧ (lc = 1 → s.allOff = true → s.approved n = true → s.keys.identity = true → ∃ t, s.seal n = done t ∧ t.lifecycle = 2 ∧ t.keys.legal = some (Config.newKey s.keys.made 6)
        ∧ t.keys.seals = s.keys.seals + 1 ∧ t.keys.approval = none ∧ ∀ e ∈ t.keys.slots, e.1 < 60)
    ∧ (lc ≠ 2 ∨ s.allOff = false ∨ s.approved n = false → s.unseal p n = refused 7)
    ∧ (lc = 2 → s.allOff = true → s.approved n = true → (∀ o, o < 12 → (s.sess o).st = 0) → ∃ t, s.unseal p n = done t ∧ t.lifecycle = 1 ∧ t.keys.legal = none ∧ t.keys.approval = none)
    ∧ ((lc ≠ 1 ∧ lc ≠ 2) ∨ s.allOff = false → s.returnAll n = refused 7)
    ∧ (lc = 1 ∨ lc = 2 → s.allOff = true → ∃ t, s.returnAll n = done t ∧ t.lifecycle = 3 ∧ t.keys.integrator = none ∧ t.keys.legal = none ∧ t.keys.slots = []
        ∧ t.get lcStateLcEpoch 0 = (s.get lcStateLcEpoch 0 + 1) % 256 ∧ ∀ z, z < 1024 → t.get pralineMagic z = 0)
    ∧ (∀ c, ((lc ≠ 0 ∧ lc ≠ 3) ∨ s.allOff = false → s.scrapAll c = refused 7)
        ∧ (lc = 0 ∨ lc = 3 → s.allOff = true → c = s.get devIdentSerial 0 → ∃ t, s.scrapAll c = done t ∧ t.lifecycle = 4 ∧ t.jr = Journal.reset ∧ t.keys.identity = false ∧ t.keys.slots = []))
    ∧ s.lcCmd 3 p pl n = done (s.setKeys { s.keys with approval := some n })
    ∧ (s.keys.identity = false → s.attestFor p (argAt pl 4 32) n = refused 7)
    ∧ (s.keys.identity = true → ∃ t, s.attestFor p (argAt pl 4 32) n = done t ∧ t.keys.uses = s.keys.uses + 1)
    ∧ s.modeCmd 1 r n = (if mode = 1 ∧ s.ready = true then done (s.toService p role n) else refused 7)
    ∧ s.modeCmd 2 r n = (if mode = 2 ∨ mode = 3 then done (s.moveMode 1 9 p role n) else refused 7)
    ∧ s.modeCmd 3 r n = (if (mode = 1 ∨ mode = 2 ∨ mode = 3) ∧ outlets.all s.convIdle = true then done (s.moveMode 5 10 p role n) else refused 7)
    ∧ s.modeCmd 4 r n = (if mode = 5 then done (s.moveMode 1 11 p role n) else refused 7)
    ∧ (let all := ∀ c, c < 4 → s.bit modeStateHold 0 c = true → s.holdAccepts c role n = true
       (mode = 4 → all → s.modeCmd 5 r n = done ((s.put modeStateHold 0 0).leaveHold p role n)) ∧ (mode ≠ 4 ∨ ¬ all → s.modeCmd 5 r n = refused 7)
       ∧ s.holdAccepts 0 role n = false ∧ (role ≠ 1 → role ≠ 4 → role ≠ 5 → ∀ c, s.holdAccepts c role n = false))
    ∧ (∀ code, code = 6 ∨ code = 7 → ((∃ c, c < 13 ∧ s.convIdle c = false) → s.modeCmd code r n = refused 7)
        ∧ ((∀ c, c < 13 → s.convIdle c = true) → ∃ t, s.modeCmd code r n = (0xFFFF, noPayload, t) ∧ t.cway.resetAsk = some r))
    ∧ s.checkStaged r.index.toNat = (0, payloadOf 1 (s.checkImage (imageOf s.staged) r.index.toNat), s)
    ∧ (formOf m.obj pl = 0 → hasRole (codeRoles m.obj 2) role = true → m.obj = 0x1A60 → argAt pl 0 1 = 2 → let img := imageOf s.staged
        let y := r.index.toNat
        let mayRole := role = 5 ∨ (role = 2 ∧ img.kind = 0)
        let mayMode := mode = 5 ∨ (s.sup.recovery = true ∧ img.kind = 3)
        let bad := s.checkImage img y
        (¬ mayRole → s.doInvoke m n = s.reply m 3 noPayload n) ∧ (mayRole → ¬ mayMode → s.doInvoke m n = s.reply m 7 noPayload n)
        ∧ (mayRole → mayMode → bad ≠ 0 → s.doInvoke m n = ((if y < 6 then s.put partImageReason y bad else s).event 0x09 y bad 0 n).reply m 6 noPayload n)
        ∧ (mayRole → mayMode → bad = 0 → ∃ w : State, s.doInvoke m n = (w.reply m 0 noPayload n).restartWith y img p role n ∧ Tab.find w.imgs.active y = some img
          ∧ Tab.find w.imgs.minVer img.kind.toNat = some img.imgVer.toNat ∧ w.get crqStateEpoch 0 = (s.get crqStateEpoch 0 + 1) % 2 ^ 32))
    ∧ (∀ y, (5 ≤ y → s.approveTakeover y = refused 2 ∧ s.clearMark y n = refused 2)
        ∧ (y < 5 → s.bit sparesFailed 0 y = true → s.get sparesStandsFor 0 = 0xFF → ∃ t, s.approveTakeover y = done t ∧ y ∈ t.dur.approved)
        ∧ (y < 5 → mode = 5 → s.bit sparesFailed 0 y = true → ∃ t, s.clearMark y n = done t ∧ t.bit sparesFailed 0 y = false ∧ (t.core y).run = .inReset))
    ∧ (let area := argAt pl 4 1
       let off := argAt pl 16 2
       let held := (s.jr.flash ++ s.jr.ring).filter fun z => z.cls == area && !z.lost && decide (argAt pl 8 8 ≤ z.seq)
       (5 < area ∨ off % 224 ≠ 0 ∨ 3808 < off → s.readRecord pl role = refused 6)
       ∧ (area ≤ 5 → off % 224 = 0 → off ≤ 3808 → (hasRole (areaRoles area) role = false → s.readRecord pl role = refused 3)
          ∧ (hasRole (areaRoles area) role = true → (held = [] → s.readRecord pl role = refused 6)
            ∧ (held ≠ [] → ∃ z ∈ held, (∀ q ∈ held, z.seq ≤ q.seq) ∧ s.readRecord pl role = (0, ⟨32 + min 224 (z.len - off),
              recordHeader z + z.data / 2 ^ (8 * off) % 2 ^ (8 * min 224 (z.len - off)) * 2 ^ 256⟩, s)))))
    ∧ (∀ utc, ∃ d t, s.setTime utc p role n = (0, payloadOf 8 d, t) ∧ t.bill.step = some (utc, p, role) ∧ t.objs = s.objs
        ∧ (s.clk.pair.isSome = true → d = ofSigned 64 ((utc : Int) - ((s.legalNs n / 1000000000 + 1 : Nat) : Int)) ∧ t.free = s.free))
    ∧ ∀ y, ∃ t, s.stopInjections y n = done t ∧ ∀ j, j < 8 → y = j ∨ y = 0xFF → s.get injectState j = 1 → t.get injectState j = 4

/-- At reset the memory lists nothing, so its addresses rise strictly and no cell listed is zero (the form, and that an unlisted byte reads
as zero, are the model's choice: notes/assumptions/6.md). -/
def Obligations.MemoryCanonicalAtReset : Prop :=
Memory.wf State.reset.mem = true ∧ ∀ a, Memory.get State.reset.mem a = 0

/-- From any state whose memory lists strictly rising addresses and no zero byte, whatever command waits first, a step that answers a next
state leaves a memory of that form; and a step always answers a next state. Two memories of that form that read alike at every address
are equal. -/
def Obligations.MemoryCanonicalInvariant : Prop :=
(∀ s t : State, Memory.wf s.mem = true → step s = .next t → Memory.wf t.mem = true)
    ∧ (∀ s : State, ∃ t, step s = .next t)
    ∧ ∀ m m' : Memory, Memory.wf m = true → Memory.wf m' = true → (∀ a, Memory.get m a = Memory.get m' a) → m = m'
end

