-- ==== Sys2Proof/Laws/Inject.lean ====
section
/-! SUPPORT. What the injector does to a unit on which no slot acts (spec/18 R473). -/

namespace Sys2Proof.Machine

/-- A unit that no slot acts on passes, and nothing is counted. -/
theorem State.unitSeen_untouched (s : State) (medium target dir t : Nat) (h : ∀ j, s.slotActs j medium target dir t = false) :
    s.unitSeen medium target dir t = (none, s) := by
  have fold : ∀ l : List Nat, l.foldl (fun (a : Option Nat × State) j =>
      if a.2.slotActs j medium target dir t then
        let n := Tab.get a.2.diag.seen j 0 + 1
        let s := { a.2 with diag := { a.2.diag with seen := Tab.set a.2.diag.seen j n } }
        if a.1.isNone && n % max 1 (s.get injectEveryN j) == 0 then (some j, s.applied j) else (a.1, s)
      else a) (none, s) = (none, s) := by
    intro l
    induction l with
    | nil => rfl
    | cons j l ih => simpa [h j] using ih
  exact fold _

/-- A lane frame that no slot acts on is not lost and leaves the state as it was. -/
theorem State.frameUnit_untouched (s : State) (medium target dir region loc t : Nat) (h : ∀ j, s.slotActs j medium target dir t = false) :
    s.frameUnit medium target dir region loc t = (false, s) := by
  simp [State.frameUnit, s.unitSeen_untouched medium target dir t h]

/-- Of a Causeway message that no slot acts on only the count of its own alterations is cleared. -/
theorem State.linkUnit_untouched (s : State) (side : Side) (link lseq t : Nat) (h : ∀ j, s.slotActs j 3 link 0 t = false) :
    (s.linkUnit side link lseq t).1 = none ∧ ∃ d, (s.linkUnit side link lseq t).2 = { s with diag := d } := by
  simp only [State.linkUnit, s.unitSeen_untouched 3 link 0 t h]
  split <;> exact ⟨rfl, _, rfl⟩

end Sys2Proof.Machine
end

