-- ==== Sys2Proof/Laws/State.lean ====
section
/-! SUPPORT. The fields of the state after each primitive update: what it leaves, by definition. -/

namespace Sys2Proof.Machine

/-! ### at -/

@[simp] theorem State.at_pending (s : State) (t : Nat) : (s.at t).pending = s.pending := rfl
@[simp] theorem State.at_free (s : State) (t : Nat) : (s.at t).free = s.free := rfl
@[simp] theorem State.at_out (s : State) (t : Nat) : (s.at t).out = s.out := rfl
@[simp] theorem State.at_objs (s : State) (t : Nat) : (s.at t).objs = s.objs := rfl
@[simp] theorem State.at_chg (s : State) (t : Nat) : (s.at t).chg = s.chg := rfl
@[simp] theorem State.at_mem (s : State) (t : Nat) : (s.at t).mem = s.mem := rfl
@[simp] theorem State.at_jr (s : State) (t : Nat) : (s.at t).jr = s.jr := rfl
@[simp] theorem State.at_cores (s : State) (t : Nat) : (s.at t).cores = s.cores := rfl
@[simp] theorem State.at_imgs (s : State) (t : Nat) : (s.at t).imgs = s.imgs := rfl
@[simp] theorem State.at_openChan (s : State) (t : Nat) : (s.at t).openChan = s.openChan := rfl
@[simp] theorem State.at_cway (s : State) (t : Nat) : (s.at t).cway = s.cway := rfl
@[simp] theorem State.at_clk (s : State) (t : Nat) : (s.at t).clk = s.clk := rfl
@[simp] theorem State.at_kerb (s : State) (t : Nat) : (s.at t).kerb = s.kerb := rfl
@[simp] theorem State.at_pages (s : State) (t : Nat) : (s.at t).pages = s.pages := rfl
@[simp] theorem State.at_ctl (s : State) (t : Nat) : (s.at t).ctl = s.ctl := rfl
@[simp] theorem State.at_cool (s : State) (t : Nat) : (s.at t).cool = s.cool := rfl
@[simp] theorem State.at_met (s : State) (t : Nat) : (s.at t).met = s.met := rfl
@[simp] theorem State.at_bill (s : State) (t : Nat) : (s.at t).bill = s.bill := rfl
@[simp] theorem State.at_link (s : State) (t : Nat) : (s.at t).link = s.link := rfl
@[simp] theorem State.at_safe (s : State) (t : Nat) : (s.at t).safe = s.safe := rfl
@[simp] theorem State.at_net (s : State) (t : Nat) : (s.at t).net = s.net := rfl
@[simp] theorem State.at_sup (s : State) (t : Nat) : (s.at t).sup = s.sup := rfl
@[simp] theorem State.at_lanes (s : State) (t : Nat) : (s.at t).lanes = s.lanes := rfl
@[simp] theorem State.at_diag (s : State) (t : Nat) : (s.at t).diag = s.diag := rfl
@[simp] theorem State.at_hosts (s : State) (t : Nat) : (s.at t).hosts = s.hosts := rfl
@[simp] theorem State.at_keys (s : State) (t : Nat) : (s.at t).keys = s.keys := rfl
@[simp] theorem State.at_batt (s : State) (t : Nat) : (s.at t).batt = s.batt := rfl
@[simp] theorem State.at_dur (s : State) (t : Nat) : (s.at t).dur = s.dur := rfl
@[simp] theorem State.at_pins (s : State) (t : Nat) : (s.at t).pins = s.pins := rfl

/-! ### put -/

@[simp] theorem State.put_pending (s : State) (f : Fld) (i v : Nat) : (s.put f i v).pending = s.pending := rfl
@[simp] theorem State.put_now (s : State) (f : Fld) (i v : Nat) : (s.put f i v).now = s.now := rfl
@[simp] theorem State.put_free (s : State) (f : Fld) (i v : Nat) : (s.put f i v).free = s.free := rfl
@[simp] theorem State.put_out (s : State) (f : Fld) (i v : Nat) : (s.put f i v).out = s.out := rfl
@[simp] theorem State.put_chg (s : State) (f : Fld) (i v : Nat) : (s.put f i v).chg = s.chg := rfl
@[simp] theorem State.put_mem (s : State) (f : Fld) (i v : Nat) : (s.put f i v).mem = s.mem := rfl
@[simp] theorem State.put_jr (s : State) (f : Fld) (i v : Nat) : (s.put f i v).jr = s.jr := rfl
@[simp] theorem State.put_cores (s : State) (f : Fld) (i v : Nat) : (s.put f i v).cores = s.cores := rfl
@[simp] theorem State.put_imgs (s : State) (f : Fld) (i v : Nat) : (s.put f i v).imgs = s.imgs := rfl
@[simp] theorem State.put_openChan (s : State) (f : Fld) (i v : Nat) : (s.put f i v).openChan = s.openChan := rfl
@[simp] theorem State.put_cway (s : State) (f : Fld) (i v : Nat) : (s.put f i v).cway = s.cway := rfl
@[simp] theorem State.put_clk (s : State) (f : Fld) (i v : Nat) : (s.put f i v).clk = s.clk := rfl
@[simp] theorem State.put_kerb (s : State) (f : Fld) (i v : Nat) : (s.put f i v).kerb = s.kerb := rfl
@[simp] theorem State.put_pages (s : State) (f : Fld) (i v : Nat) : (s.put f i v).pages = s.pages := rfl
@[simp] theorem State.put_ctl (s : State) (f : Fld) (i v : Nat) : (s.put f i v).ctl = s.ctl := rfl
@[simp] theorem State.put_cool (s : State) (f : Fld) (i v : Nat) : (s.put f i v).cool = s.cool := rfl
@[simp] theorem State.put_met (s : State) (f : Fld) (i v : Nat) : (s.put f i v).met = s.met := rfl
@[simp] theorem State.put_bill (s : State) (f : Fld) (i v : Nat) : (s.put f i v).bill = s.bill := rfl
@[simp] theorem State.put_link (s : State) (f : Fld) (i v : Nat) : (s.put f i v).link = s.link := rfl
@[simp] theorem State.put_safe (s : State) (f : Fld) (i v : Nat) : (s.put f i v).safe = s.safe := rfl
@[simp] theorem State.put_net (s : State) (f : Fld) (i v : Nat) : (s.put f i v).net = s.net := rfl
@[simp] theorem State.put_sup (s : State) (f : Fld) (i v : Nat) : (s.put f i v).sup = s.sup := rfl
@[simp] theorem State.put_lanes (s : State) (f : Fld) (i v : Nat) : (s.put f i v).lanes = s.lanes := rfl
@[simp] theorem State.put_diag (s : State) (f : Fld) (i v : Nat) : (s.put f i v).diag = s.diag := rfl
@[simp] theorem State.put_hosts (s : State) (f : Fld) (i v : Nat) : (s.put f i v).hosts = s.hosts := rfl
@[simp] theorem State.put_keys (s : State) (f : Fld) (i v : Nat) : (s.put f i v).keys = s.keys := rfl
@[simp] theorem State.put_batt (s : State) (f : Fld) (i v : Nat) : (s.put f i v).batt = s.batt := rfl
@[simp] theorem State.put_dur (s : State) (f : Fld) (i v : Nat) : (s.put f i v).dur = s.dur := rfl
@[simp] theorem State.put_pins (s : State) (f : Fld) (i v : Nat) : (s.put f i v).pins = s.pins := rfl

/-! ### puti -/

@[simp] theorem State.puti_pending (s : State) (f : Fld) (i : Nat) (x : Int) : (s.puti f i x).pending = s.pending := rfl
@[simp] theorem State.puti_now (s : State) (f : Fld) (i : Nat) (x : Int) : (s.puti f i x).now = s.now := rfl
@[simp] theorem State.puti_free (s : State) (f : Fld) (i : Nat) (x : Int) : (s.puti f i x).free = s.free := rfl
@[simp] theorem State.puti_out (s : State) (f : Fld) (i : Nat) (x : Int) : (s.puti f i x).out = s.out := rfl
@[simp] theorem State.puti_chg (s : State) (f : Fld) (i : Nat) (x : Int) : (s.puti f i x).chg = s.chg := rfl
@[simp] theorem State.puti_mem (s : State) (f : Fld) (i : Nat) (x : Int) : (s.puti f i x).mem = s.mem := rfl
@[simp] theorem State.puti_jr (s : State) (f : Fld) (i : Nat) (x : Int) : (s.puti f i x).jr = s.jr := rfl
@[simp] theorem State.puti_cores (s : State) (f : Fld) (i : Nat) (x : Int) : (s.puti f i x).cores = s.cores := rfl
@[simp] theorem State.puti_imgs (s : State) (f : Fld) (i : Nat) (x : Int) : (s.puti f i x).imgs = s.imgs := rfl
@[simp] theorem State.puti_openChan (s : State) (f : Fld) (i : Nat) (x : Int) : (s.puti f i x).openChan = s.openChan := rfl
@[simp] theorem State.puti_cway (s : State) (f : Fld) (i : Nat) (x : Int) : (s.puti f i x).cway = s.cway := rfl
@[simp] theorem State.puti_clk (s : State) (f : Fld) (i : Nat) (x : Int) : (s.puti f i x).clk = s.clk := rfl
@[simp] theorem State.puti_kerb (s : State) (f : Fld) (i : Nat) (x : Int) : (s.puti f i x).kerb = s.kerb := rfl
@[simp] theorem State.puti_pages (s : State) (f : Fld) (i : Nat) (x : Int) : (s.puti f i x).pages = s.pages := rfl
@[simp] theorem State.puti_ctl (s : State) (f : Fld) (i : Nat) (x : Int) : (s.puti f i x).ctl = s.ctl := rfl
@[simp] theorem State.puti_cool (s : State) (f : Fld) (i : Nat) (x : Int) : (s.puti f i x).cool = s.cool := rfl
@[simp] theorem State.puti_met (s : State) (f : Fld) (i : Nat) (x : Int) : (s.puti f i x).met = s.met := rfl
@[simp] theorem State.puti_bill (s : State) (f : Fld) (i : Nat) (x : Int) : (s.puti f i x).bill = s.bill := rfl
@[simp] theorem State.puti_link (s : State) (f : Fld) (i : Nat) (x : Int) : (s.puti f i x).link = s.link := rfl
@[simp] theorem State.puti_safe (s : State) (f : Fld) (i : Nat) (x : Int) : (s.puti f i x).safe = s.safe := rfl
@[simp] theorem State.puti_net (s : State) (f : Fld) (i : Nat) (x : Int) : (s.puti f i x).net = s.net := rfl
@[simp] theorem State.puti_sup (s : State) (f : Fld) (i : Nat) (x : Int) : (s.puti f i x).sup = s.sup := rfl
@[simp] theorem State.puti_lanes (s : State) (f : Fld) (i : Nat) (x : Int) : (s.puti f i x).lanes = s.lanes := rfl
@[simp] theorem State.puti_diag (s : State) (f : Fld) (i : Nat) (x : Int) : (s.puti f i x).diag = s.diag := rfl
@[simp] theorem State.puti_hosts (s : State) (f : Fld) (i : Nat) (x : Int) : (s.puti f i x).hosts = s.hosts := rfl
@[simp] theorem State.puti_keys (s : State) (f : Fld) (i : Nat) (x : Int) : (s.puti f i x).keys = s.keys := rfl
@[simp] theorem State.puti_batt (s : State) (f : Fld) (i : Nat) (x : Int) : (s.puti f i x).batt = s.batt := rfl
@[simp] theorem State.puti_dur (s : State) (f : Fld) (i : Nat) (x : Int) : (s.puti f i x).dur = s.dur := rfl
@[simp] theorem State.puti_pins (s : State) (f : Fld) (i : Nat) (x : Int) : (s.puti f i x).pins = s.pins := rfl

/-! ### putFlag -/

@[simp] theorem State.putFlag_pending (s : State) (f : Fld) (i : Nat) (b : Bool) : (s.putFlag f i b).pending = s.pending := rfl
@[simp] theorem State.putFlag_now (s : State) (f : Fld) (i : Nat) (b : Bool) : (s.putFlag f i b).now = s.now := rfl
@[simp] theorem State.putFlag_free (s : State) (f : Fld) (i : Nat) (b : Bool) : (s.putFlag f i b).free = s.free := rfl
@[simp] theorem State.putFlag_out (s : State) (f : Fld) (i : Nat) (b : Bool) : (s.putFlag f i b).out = s.out := rfl
@[simp] theorem State.putFlag_chg (s : State) (f : Fld) (i : Nat) (b : Bool) : (s.putFlag f i b).chg = s.chg := rfl
@[simp] theorem State.putFlag_mem (s : State) (f : Fld) (i : Nat) (b : Bool) : (s.putFlag f i b).mem = s.mem := rfl
@[simp] theorem State.putFlag_jr (s : State) (f : Fld) (i : Nat) (b : Bool) : (s.putFlag f i b).jr = s.jr := rfl
@[simp] theorem State.putFlag_cores (s : State) (f : Fld) (i : Nat) (b : Bool) : (s.putFlag f i b).cores = s.cores := rfl
@[simp] theorem State.putFlag_imgs (s : State) (f : Fld) (i : Nat) (b : Bool) : (s.putFlag f i b).imgs = s.imgs := rfl
@[simp] theorem State.putFlag_openChan (s : State) (f : Fld) (i : Nat) (b : Bool) : (s.putFlag f i b).openChan = s.openChan := rfl
@[simp] theorem State.putFlag_cway (s : State) (f : Fld) (i : Nat) (b : Bool) : (s.putFlag f i b).cway = s.cway := rfl
@[simp] theorem State.putFlag_clk (s : State) (f : Fld) (i : Nat) (b : Bool) : (s.putFlag f i b).clk = s.clk := rfl
@[simp] theorem State.putFlag_kerb (s : State) (f : Fld) (i : Nat) (b : Bool) : (s.putFlag f i b).kerb = s.kerb := rfl
@[simp] theorem State.putFlag_pages (s : State) (f : Fld) (i : Nat) (b : Bool) : (s.putFlag f i b).pages = s.pages := rfl
@[simp] theorem State.putFlag_ctl (s : State) (f : Fld) (i : Nat) (b : Bool) : (s.putFlag f i b).ctl = s.ctl := rfl
@[simp] theorem State.putFlag_cool (s : State) (f : Fld) (i : Nat) (b : Bool) : (s.putFlag f i b).cool = s.cool := rfl
@[simp] theorem State.putFlag_met (s : State) (f : Fld) (i : Nat) (b : Bool) : (s.putFlag f i b).met = s.met := rfl
@[simp] theorem State.putFlag_bill (s : State) (f : Fld) (i : Nat) (b : Bool) : (s.putFlag f i b).bill = s.bill := rfl
@[simp] theorem State.putFlag_link (s : State) (f : Fld) (i : Nat) (b : Bool) : (s.putFlag f i b).link = s.link := rfl
@[simp] theorem State.putFlag_safe (s : State) (f : Fld) (i : Nat) (b : Bool) : (s.putFlag f i b).safe = s.safe := rfl
@[simp] theorem State.putFlag_net (s : State) (f : Fld) (i : Nat) (b : Bool) : (s.putFlag f i b).net = s.net := rfl
@[simp] theorem State.putFlag_sup (s : State) (f : Fld) (i : Nat) (b : Bool) : (s.putFlag f i b).sup = s.sup := rfl
@[simp] theorem State.putFlag_lanes (s : State) (f : Fld) (i : Nat) (b : Bool) : (s.putFlag f i b).lanes = s.lanes := rfl
@[simp] theorem State.putFlag_diag (s : State) (f : Fld) (i : Nat) (b : Bool) : (s.putFlag f i b).diag = s.diag := rfl
@[simp] theorem State.putFlag_hosts (s : State) (f : Fld) (i : Nat) (b : Bool) : (s.putFlag f i b).hosts = s.hosts := rfl
@[simp] theorem State.putFlag_keys (s : State) (f : Fld) (i : Nat) (b : Bool) : (s.putFlag f i b).keys = s.keys := rfl
@[simp] theorem State.putFlag_batt (s : State) (f : Fld) (i : Nat) (b : Bool) : (s.putFlag f i b).batt = s.batt := rfl
@[simp] theorem State.putFlag_dur (s : State) (f : Fld) (i : Nat) (b : Bool) : (s.putFlag f i b).dur = s.dur := rfl
@[simp] theorem State.putFlag_pins (s : State) (f : Fld) (i : Nat) (b : Bool) : (s.putFlag f i b).pins = s.pins := rfl

/-! ### putBit -/

@[simp] theorem State.putBit_pending (s : State) (f : Fld) (i n : Nat) (b : Bool) : (s.putBit f i n b).pending = s.pending := rfl
@[simp] theorem State.putBit_now (s : State) (f : Fld) (i n : Nat) (b : Bool) : (s.putBit f i n b).now = s.now := rfl
@[simp] theorem State.putBit_free (s : State) (f : Fld) (i n : Nat) (b : Bool) : (s.putBit f i n b).free = s.free := rfl
@[simp] theorem State.putBit_out (s : State) (f : Fld) (i n : Nat) (b : Bool) : (s.putBit f i n b).out = s.out := rfl
@[simp] theorem State.putBit_chg (s : State) (f : Fld) (i n : Nat) (b : Bool) : (s.putBit f i n b).chg = s.chg := rfl
@[simp] theorem State.putBit_mem (s : State) (f : Fld) (i n : Nat) (b : Bool) : (s.putBit f i n b).mem = s.mem := rfl
@[simp] theorem State.putBit_jr (s : State) (f : Fld) (i n : Nat) (b : Bool) : (s.putBit f i n b).jr = s.jr := rfl
@[simp] theorem State.putBit_cores (s : State) (f : Fld) (i n : Nat) (b : Bool) : (s.putBit f i n b).cores = s.cores := rfl
@[simp] theorem State.putBit_imgs (s : State) (f : Fld) (i n : Nat) (b : Bool) : (s.putBit f i n b).imgs = s.imgs := rfl
@[simp] theorem State.putBit_openChan (s : State) (f : Fld) (i n : Nat) (b : Bool) : (s.putBit f i n b).openChan = s.openChan := rfl
@[simp] theorem State.putBit_cway (s : State) (f : Fld) (i n : Nat) (b : Bool) : (s.putBit f i n b).cway = s.cway := rfl
@[simp] theorem State.putBit_clk (s : State) (f : Fld) (i n : Nat) (b : Bool) : (s.putBit f i n b).clk = s.clk := rfl
@[simp] theorem State.putBit_kerb (s : State) (f : Fld) (i n : Nat) (b : Bool) : (s.putBit f i n b).kerb = s.kerb := rfl
@[simp] theorem State.putBit_pages (s : State) (f : Fld) (i n : Nat) (b : Bool) : (s.putBit f i n b).pages = s.pages := rfl
@[simp] theorem State.putBit_ctl (s : State) (f : Fld) (i n : Nat) (b : Bool) : (s.putBit f i n b).ctl = s.ctl := rfl
@[simp] theorem State.putBit_cool (s : State) (f : Fld) (i n : Nat) (b : Bool) : (s.putBit f i n b).cool = s.cool := rfl
@[simp] theorem State.putBit_met (s : State) (f : Fld) (i n : Nat) (b : Bool) : (s.putBit f i n b).met = s.met := rfl
@[simp] theorem State.putBit_bill (s : State) (f : Fld) (i n : Nat) (b : Bool) : (s.putBit f i n b).bill = s.bill := rfl
@[simp] theorem State.putBit_link (s : State) (f : Fld) (i n : Nat) (b : Bool) : (s.putBit f i n b).link = s.link := rfl
@[simp] theorem State.putBit_safe (s : State) (f : Fld) (i n : Nat) (b : Bool) : (s.putBit f i n b).safe = s.safe := rfl
@[simp] theorem State.putBit_net (s : State) (f : Fld) (i n : Nat) (b : Bool) : (s.putBit f i n b).net = s.net := rfl
@[simp] theorem State.putBit_sup (s : State) (f : Fld) (i n : Nat) (b : Bool) : (s.putBit f i n b).sup = s.sup := rfl
@[simp] theorem State.putBit_lanes (s : State) (f : Fld) (i n : Nat) (b : Bool) : (s.putBit f i n b).lanes = s.lanes := rfl
@[simp] theorem State.putBit_diag (s : State) (f : Fld) (i n : Nat) (b : Bool) : (s.putBit f i n b).diag = s.diag := rfl
@[simp] theorem State.putBit_hosts (s : State) (f : Fld) (i n : Nat) (b : Bool) : (s.putBit f i n b).hosts = s.hosts := rfl
@[simp] theorem State.putBit_keys (s : State) (f : Fld) (i n : Nat) (b : Bool) : (s.putBit f i n b).keys = s.keys := rfl
@[simp] theorem State.putBit_batt (s : State) (f : Fld) (i n : Nat) (b : Bool) : (s.putBit f i n b).batt = s.batt := rfl
@[simp] theorem State.putBit_dur (s : State) (f : Fld) (i n : Nat) (b : Bool) : (s.putBit f i n b).dur = s.dur := rfl
@[simp] theorem State.putBit_pins (s : State) (f : Fld) (i n : Nat) (b : Bool) : (s.putBit f i n b).pins = s.pins := rfl

/-! ### inc -/

@[simp] theorem State.inc_pending (s : State) (f : Fld) (i n : Nat) : (s.inc f i n).pending = s.pending := rfl
@[simp] theorem State.inc_now (s : State) (f : Fld) (i n : Nat) : (s.inc f i n).now = s.now := rfl
@[simp] theorem State.inc_free (s : State) (f : Fld) (i n : Nat) : (s.inc f i n).free = s.free := rfl
@[simp] theorem State.inc_out (s : State) (f : Fld) (i n : Nat) : (s.inc f i n).out = s.out := rfl
@[simp] theorem State.inc_chg (s : State) (f : Fld) (i n : Nat) : (s.inc f i n).chg = s.chg := rfl
@[simp] theorem State.inc_mem (s : State) (f : Fld) (i n : Nat) : (s.inc f i n).mem = s.mem := rfl
@[simp] theorem State.inc_jr (s : State) (f : Fld) (i n : Nat) : (s.inc f i n).jr = s.jr := rfl
@[simp] theorem State.inc_cores (s : State) (f : Fld) (i n : Nat) : (s.inc f i n).cores = s.cores := rfl
@[simp] theorem State.inc_imgs (s : State) (f : Fld) (i n : Nat) : (s.inc f i n).imgs = s.imgs := rfl
@[simp] theorem State.inc_openChan (s : State) (f : Fld) (i n : Nat) : (s.inc f i n).openChan = s.openChan := rfl
@[simp] theorem State.inc_cway (s : State) (f : Fld) (i n : Nat) : (s.inc f i n).cway = s.cway := rfl
@[simp] theorem State.inc_clk (s : State) (f : Fld) (i n : Nat) : (s.inc f i n).clk = s.clk := rfl
@[simp] theorem State.inc_kerb (s : State) (f : Fld) (i n : Nat) : (s.inc f i n).kerb = s.kerb := rfl
@[simp] theorem State.inc_pages (s : State) (f : Fld) (i n : Nat) : (s.inc f i n).pages = s.pages := rfl
@[simp] theorem State.inc_ctl (s : State) (f : Fld) (i n : Nat) : (s.inc f i n).ctl = s.ctl := rfl
@[simp] theorem State.inc_cool (s : State) (f : Fld) (i n : Nat) : (s.inc f i n).cool = s.cool := rfl
@[simp] theorem State.inc_met (s : State) (f : Fld) (i n : Nat) : (s.inc f i n).met = s.met := rfl
@[simp] theorem State.inc_bill (s : State) (f : Fld) (i n : Nat) : (s.inc f i n).bill = s.bill := rfl
@[simp] theorem State.inc_link (s : State) (f : Fld) (i n : Nat) : (s.inc f i n).link = s.link := rfl
@[simp] theorem State.inc_safe (s : State) (f : Fld) (i n : Nat) : (s.inc f i n).safe = s.safe := rfl
@[simp] theorem State.inc_net (s : State) (f : Fld) (i n : Nat) : (s.inc f i n).net = s.net := rfl
@[simp] theorem State.inc_sup (s : State) (f : Fld) (i n : Nat) : (s.inc f i n).sup = s.sup := rfl
@[simp] theorem State.inc_lanes (s : State) (f : Fld) (i n : Nat) : (s.inc f i n).lanes = s.lanes := rfl
@[simp] theorem State.inc_diag (s : State) (f : Fld) (i n : Nat) : (s.inc f i n).diag = s.diag := rfl
@[simp] theorem State.inc_hosts (s : State) (f : Fld) (i n : Nat) : (s.inc f i n).hosts = s.hosts := rfl
@[simp] theorem State.inc_keys (s : State) (f : Fld) (i n : Nat) : (s.inc f i n).keys = s.keys := rfl
@[simp] theorem State.inc_batt (s : State) (f : Fld) (i n : Nat) : (s.inc f i n).batt = s.batt := rfl
@[simp] theorem State.inc_dur (s : State) (f : Fld) (i n : Nat) : (s.inc f i n).dur = s.dur := rfl
@[simp] theorem State.inc_pins (s : State) (f : Fld) (i n : Nat) : (s.inc f i n).pins = s.pins := rfl

/-! ### incWrap -/

@[simp] theorem State.incWrap_pending (s : State) (f : Fld) (i n : Nat) : (s.incWrap f i n).pending = s.pending := rfl
@[simp] theorem State.incWrap_now (s : State) (f : Fld) (i n : Nat) : (s.incWrap f i n).now = s.now := rfl
@[simp] theorem State.incWrap_free (s : State) (f : Fld) (i n : Nat) : (s.incWrap f i n).free = s.free := rfl
@[simp] theorem State.incWrap_out (s : State) (f : Fld) (i n : Nat) : (s.incWrap f i n).out = s.out := rfl
@[simp] theorem State.incWrap_chg (s : State) (f : Fld) (i n : Nat) : (s.incWrap f i n).chg = s.chg := rfl
@[simp] theorem State.incWrap_mem (s : State) (f : Fld) (i n : Nat) : (s.incWrap f i n).mem = s.mem := rfl
@[simp] theorem State.incWrap_jr (s : State) (f : Fld) (i n : Nat) : (s.incWrap f i n).jr = s.jr := rfl
@[simp] theorem State.incWrap_cores (s : State) (f : Fld) (i n : Nat) : (s.incWrap f i n).cores = s.cores := rfl
@[simp] theorem State.incWrap_imgs (s : State) (f : Fld) (i n : Nat) : (s.incWrap f i n).imgs = s.imgs := rfl
@[simp] theorem State.incWrap_openChan (s : State) (f : Fld) (i n : Nat) : (s.incWrap f i n).openChan = s.openChan := rfl
@[simp] theorem State.incWrap_cway (s : State) (f : Fld) (i n : Nat) : (s.incWrap f i n).cway = s.cway := rfl
@[simp] theorem State.incWrap_clk (s : State) (f : Fld) (i n : Nat) : (s.incWrap f i n).clk = s.clk := rfl
@[simp] theorem State.incWrap_kerb (s : State) (f : Fld) (i n : Nat) : (s.incWrap f i n).kerb = s.kerb := rfl
@[simp] theorem State.incWrap_pages (s : State) (f : Fld) (i n : Nat) : (s.incWrap f i n).pages = s.pages := rfl
@[simp] theorem State.incWrap_ctl (s : State) (f : Fld) (i n : Nat) : (s.incWrap f i n).ctl = s.ctl := rfl
@[simp] theorem State.incWrap_cool (s : State) (f : Fld) (i n : Nat) : (s.incWrap f i n).cool = s.cool := rfl
@[simp] theorem State.incWrap_met (s : State) (f : Fld) (i n : Nat) : (s.incWrap f i n).met = s.met := rfl
@[simp] theorem State.incWrap_bill (s : State) (f : Fld) (i n : Nat) : (s.incWrap f i n).bill = s.bill := rfl
@[simp] theorem State.incWrap_link (s : State) (f : Fld) (i n : Nat) : (s.incWrap f i n).link = s.link := rfl
@[simp] theorem State.incWrap_safe (s : State) (f : Fld) (i n : Nat) : (s.incWrap f i n).safe = s.safe := rfl
@[simp] theorem State.incWrap_net (s : State) (f : Fld) (i n : Nat) : (s.incWrap f i n).net = s.net := rfl
@[simp] theorem State.incWrap_sup (s : State) (f : Fld) (i n : Nat) : (s.incWrap f i n).sup = s.sup := rfl
@[simp] theorem State.incWrap_lanes (s : State) (f : Fld) (i n : Nat) : (s.incWrap f i n).lanes = s.lanes := rfl
@[simp] theorem State.incWrap_diag (s : State) (f : Fld) (i n : Nat) : (s.incWrap f i n).diag = s.diag := rfl
@[simp] theorem State.incWrap_hosts (s : State) (f : Fld) (i n : Nat) : (s.incWrap f i n).hosts = s.hosts := rfl
@[simp] theorem State.incWrap_keys (s : State) (f : Fld) (i n : Nat) : (s.incWrap f i n).keys = s.keys := rfl
@[simp] theorem State.incWrap_batt (s : State) (f : Fld) (i n : Nat) : (s.incWrap f i n).batt = s.batt := rfl
@[simp] theorem State.incWrap_dur (s : State) (f : Fld) (i n : Nat) : (s.incWrap f i n).dur = s.dur := rfl
@[simp] theorem State.incWrap_pins (s : State) (f : Fld) (i n : Nat) : (s.incWrap f i n).pins = s.pins := rfl

/-! ### emit -/

@[simp] theorem State.emit_pending (s : State) (o : Out) : (s.emit o).pending = s.pending := rfl
@[simp] theorem State.emit_now (s : State) (o : Out) : (s.emit o).now = s.now := rfl
@[simp] theorem State.emit_free (s : State) (o : Out) : (s.emit o).free = s.free := rfl
@[simp] theorem State.emit_objs (s : State) (o : Out) : (s.emit o).objs = s.objs := rfl
@[simp] theorem State.emit_chg (s : State) (o : Out) : (s.emit o).chg = s.chg := rfl
@[simp] theorem State.emit_mem (s : State) (o : Out) : (s.emit o).mem = s.mem := rfl
@[simp] theorem State.emit_jr (s : State) (o : Out) : (s.emit o).jr = s.jr := rfl
@[simp] theorem State.emit_cores (s : State) (o : Out) : (s.emit o).cores = s.cores := rfl
@[simp] theorem State.emit_imgs (s : State) (o : Out) : (s.emit o).imgs = s.imgs := rfl
@[simp] theorem State.emit_openChan (s : State) (o : Out) : (s.emit o).openChan = s.openChan := rfl
@[simp] theorem State.emit_cway (s : State) (o : Out) : (s.emit o).cway = s.cway := rfl
@[simp] theorem State.emit_clk (s : State) (o : Out) : (s.emit o).clk = s.clk := rfl
@[simp] theorem State.emit_kerb (s : State) (o : Out) : (s.emit o).kerb = s.kerb := rfl
@[simp] theorem State.emit_pages (s : State) (o : Out) : (s.emit o).pages = s.pages := rfl
@[simp] theorem State.emit_ctl (s : State) (o : Out) : (s.emit o).ctl = s.ctl := rfl
@[simp] theorem State.emit_cool (s : State) (o : Out) : (s.emit o).cool = s.cool := rfl
@[simp] theorem State.emit_met (s : State) (o : Out) : (s.emit o).met = s.met := rfl
@[simp] theorem State.emit_bill (s : State) (o : Out) : (s.emit o).bill = s.bill := rfl
@[simp] theorem State.emit_link (s : State) (o : Out) : (s.emit o).link = s.link := rfl
@[simp] theorem State.emit_safe (s : State) (o : Out) : (s.emit o).safe = s.safe := rfl
@[simp] theorem State.emit_net (s : State) (o : Out) : (s.emit o).net = s.net := rfl
@[simp] theorem State.emit_sup (s : State) (o : Out) : (s.emit o).sup = s.sup := rfl
@[simp] theorem State.emit_lanes (s : State) (o : Out) : (s.emit o).lanes = s.lanes := rfl
@[simp] theorem State.emit_diag (s : State) (o : Out) : (s.emit o).diag = s.diag := rfl
@[simp] theorem State.emit_hosts (s : State) (o : Out) : (s.emit o).hosts = s.hosts := rfl
@[simp] theorem State.emit_keys (s : State) (o : Out) : (s.emit o).keys = s.keys := rfl
@[simp] theorem State.emit_batt (s : State) (o : Out) : (s.emit o).batt = s.batt := rfl
@[simp] theorem State.emit_dur (s : State) (o : Out) : (s.emit o).dur = s.dur := rfl
@[simp] theorem State.emit_pins (s : State) (o : Out) : (s.emit o).pins = s.pins := rfl

/-! ### touch -/

@[simp] theorem State.touch_pending (s : State) (o i : Nat) : (s.touch o i).pending = s.pending := rfl
@[simp] theorem State.touch_now (s : State) (o i : Nat) : (s.touch o i).now = s.now := rfl
@[simp] theorem State.touch_free (s : State) (o i : Nat) : (s.touch o i).free = s.free := rfl
@[simp] theorem State.touch_out (s : State) (o i : Nat) : (s.touch o i).out = s.out := rfl
@[simp] theorem State.touch_objs (s : State) (o i : Nat) : (s.touch o i).objs = s.objs := rfl
@[simp] theorem State.touch_mem (s : State) (o i : Nat) : (s.touch o i).mem = s.mem := rfl
@[simp] theorem State.touch_jr (s : State) (o i : Nat) : (s.touch o i).jr = s.jr := rfl
@[simp] theorem State.touch_cores (s : State) (o i : Nat) : (s.touch o i).cores = s.cores := rfl
@[simp] theorem State.touch_imgs (s : State) (o i : Nat) : (s.touch o i).imgs = s.imgs := rfl
@[simp] theorem State.touch_openChan (s : State) (o i : Nat) : (s.touch o i).openChan = s.openChan := rfl
@[simp] theorem State.touch_cway (s : State) (o i : Nat) : (s.touch o i).cway = s.cway := rfl
@[simp] theorem State.touch_clk (s : State) (o i : Nat) : (s.touch o i).clk = s.clk := rfl
@[simp] theorem State.touch_kerb (s : State) (o i : Nat) : (s.touch o i).kerb = s.kerb := rfl
@[simp] theorem State.touch_pages (s : State) (o i : Nat) : (s.touch o i).pages = s.pages := rfl
@[simp] theorem State.touch_ctl (s : State) (o i : Nat) : (s.touch o i).ctl = s.ctl := rfl
@[simp] theorem State.touch_cool (s : State) (o i : Nat) : (s.touch o i).cool = s.cool := rfl
@[simp] theorem State.touch_met (s : State) (o i : Nat) : (s.touch o i).met = s.met := rfl
@[simp] theorem State.touch_bill (s : State) (o i : Nat) : (s.touch o i).bill = s.bill := rfl
@[simp] theorem State.touch_link (s : State) (o i : Nat) : (s.touch o i).link = s.link := rfl
@[simp] theorem State.touch_safe (s : State) (o i : Nat) : (s.touch o i).safe = s.safe := rfl
@[simp] theorem State.touch_net (s : State) (o i : Nat) : (s.touch o i).net = s.net := rfl
@[simp] theorem State.touch_sup (s : State) (o i : Nat) : (s.touch o i).sup = s.sup := rfl
@[simp] theorem State.touch_lanes (s : State) (o i : Nat) : (s.touch o i).lanes = s.lanes := rfl
@[simp] theorem State.touch_diag (s : State) (o i : Nat) : (s.touch o i).diag = s.diag := rfl
@[simp] theorem State.touch_hosts (s : State) (o i : Nat) : (s.touch o i).hosts = s.hosts := rfl
@[simp] theorem State.touch_keys (s : State) (o i : Nat) : (s.touch o i).keys = s.keys := rfl
@[simp] theorem State.touch_batt (s : State) (o i : Nat) : (s.touch o i).batt = s.batt := rfl
@[simp] theorem State.touch_dur (s : State) (o i : Nat) : (s.touch o i).dur = s.dur := rfl
@[simp] theorem State.touch_pins (s : State) (o i : Nat) : (s.touch o i).pins = s.pins := rfl

/-! ### fresh -/

@[simp] theorem State.fresh_pending (s : State) : (s.fresh.2).pending = s.pending := rfl
@[simp] theorem State.fresh_now (s : State) : (s.fresh.2).now = s.now := rfl
@[simp] theorem State.fresh_out (s : State) : (s.fresh.2).out = s.out := rfl
@[simp] theorem State.fresh_objs (s : State) : (s.fresh.2).objs = s.objs := rfl
@[simp] theorem State.fresh_chg (s : State) : (s.fresh.2).chg = s.chg := rfl
@[simp] theorem State.fresh_mem (s : State) : (s.fresh.2).mem = s.mem := rfl
@[simp] theorem State.fresh_jr (s : State) : (s.fresh.2).jr = s.jr := rfl
@[simp] theorem State.fresh_cores (s : State) : (s.fresh.2).cores = s.cores := rfl
@[simp] theorem State.fresh_imgs (s : State) : (s.fresh.2).imgs = s.imgs := rfl
@[simp] theorem State.fresh_openChan (s : State) : (s.fresh.2).openChan = s.openChan := rfl
@[simp] theorem State.fresh_cway (s : State) : (s.fresh.2).cway = s.cway := rfl
@[simp] theorem State.fresh_clk (s : State) : (s.fresh.2).clk = s.clk := rfl
@[simp] theorem State.fresh_kerb (s : State) : (s.fresh.2).kerb = s.kerb := rfl
@[simp] theorem State.fresh_pages (s : State) : (s.fresh.2).pages = s.pages := rfl
@[simp] theorem State.fresh_ctl (s : State) : (s.fresh.2).ctl = s.ctl := rfl
@[simp] theorem State.fresh_cool (s : State) : (s.fresh.2).cool = s.cool := rfl
@[simp] theorem State.fresh_met (s : State) : (s.fresh.2).met = s.met := rfl
@[simp] theorem State.fresh_bill (s : State) : (s.fresh.2).bill = s.bill := rfl
@[simp] theorem State.fresh_link (s : State) : (s.fresh.2).link = s.link := rfl
@[simp] theorem State.fresh_safe (s : State) : (s.fresh.2).safe = s.safe := rfl
@[simp] theorem State.fresh_net (s : State) : (s.fresh.2).net = s.net := rfl
@[simp] theorem State.fresh_sup (s : State) : (s.fresh.2).sup = s.sup := rfl
@[simp] theorem State.fresh_lanes (s : State) : (s.fresh.2).lanes = s.lanes := rfl
@[simp] theorem State.fresh_diag (s : State) : (s.fresh.2).diag = s.diag := rfl
@[simp] theorem State.fresh_hosts (s : State) : (s.fresh.2).hosts = s.hosts := rfl
@[simp] theorem State.fresh_keys (s : State) : (s.fresh.2).keys = s.keys := rfl
@[simp] theorem State.fresh_batt (s : State) : (s.fresh.2).batt = s.batt := rfl
@[simp] theorem State.fresh_dur (s : State) : (s.fresh.2).dur = s.dur := rfl
@[simp] theorem State.fresh_pins (s : State) : (s.fresh.2).pins = s.pins := rfl

/-! ### setCore -/

@[simp] theorem State.setCore_pending (s : State) (c : Nat) (k : Core) : (s.setCore c k).pending = s.pending := rfl
@[simp] theorem State.setCore_now (s : State) (c : Nat) (k : Core) : (s.setCore c k).now = s.now := rfl
@[simp] theorem State.setCore_free (s : State) (c : Nat) (k : Core) : (s.setCore c k).free = s.free := rfl
@[simp] theorem State.setCore_out (s : State) (c : Nat) (k : Core) : (s.setCore c k).out = s.out := rfl
@[simp] theorem State.setCore_objs (s : State) (c : Nat) (k : Core) : (s.setCore c k).objs = s.objs := rfl
@[simp] theorem State.setCore_chg (s : State) (c : Nat) (k : Core) : (s.setCore c k).chg = s.chg := rfl
@[simp] theorem State.setCore_mem (s : State) (c : Nat) (k : Core) : (s.setCore c k).mem = s.mem := rfl
@[simp] theorem State.setCore_jr (s : State) (c : Nat) (k : Core) : (s.setCore c k).jr = s.jr := rfl
@[simp] theorem State.setCore_imgs (s : State) (c : Nat) (k : Core) : (s.setCore c k).imgs = s.imgs := rfl
@[simp] theorem State.setCore_openChan (s : State) (c : Nat) (k : Core) : (s.setCore c k).openChan = s.openChan := rfl
@[simp] theorem State.setCore_cway (s : State) (c : Nat) (k : Core) : (s.setCore c k).cway = s.cway := rfl
@[simp] theorem State.setCore_clk (s : State) (c : Nat) (k : Core) : (s.setCore c k).clk = s.clk := rfl
@[simp] theorem State.setCore_kerb (s : State) (c : Nat) (k : Core) : (s.setCore c k).kerb = s.kerb := rfl
@[simp] theorem State.setCore_pages (s : State) (c : Nat) (k : Core) : (s.setCore c k).pages = s.pages := rfl
@[simp] theorem State.setCore_ctl (s : State) (c : Nat) (k : Core) : (s.setCore c k).ctl = s.ctl := rfl
@[simp] theorem State.setCore_cool (s : State) (c : Nat) (k : Core) : (s.setCore c k).cool = s.cool := rfl
@[simp] theorem State.setCore_met (s : State) (c : Nat) (k : Core) : (s.setCore c k).met = s.met := rfl
@[simp] theorem State.setCore_bill (s : State) (c : Nat) (k : Core) : (s.setCore c k).bill = s.bill := rfl
@[simp] theorem State.setCore_link (s : State) (c : Nat) (k : Core) : (s.setCore c k).link = s.link := rfl
@[simp] theorem State.setCore_safe (s : State) (c : Nat) (k : Core) : (s.setCore c k).safe = s.safe := rfl
@[simp] theorem State.setCore_net (s : State) (c : Nat) (k : Core) : (s.setCore c k).net = s.net := rfl
@[simp] theorem State.setCore_sup (s : State) (c : Nat) (k : Core) : (s.setCore c k).sup = s.sup := rfl
@[simp] theorem State.setCore_lanes (s : State) (c : Nat) (k : Core) : (s.setCore c k).lanes = s.lanes := rfl
@[simp] theorem State.setCore_diag (s : State) (c : Nat) (k : Core) : (s.setCore c k).diag = s.diag := rfl
@[simp] theorem State.setCore_hosts (s : State) (c : Nat) (k : Core) : (s.setCore c k).hosts = s.hosts := rfl
@[simp] theorem State.setCore_keys (s : State) (c : Nat) (k : Core) : (s.setCore c k).keys = s.keys := rfl
@[simp] theorem State.setCore_batt (s : State) (c : Nat) (k : Core) : (s.setCore c k).batt = s.batt := rfl
@[simp] theorem State.setCore_dur (s : State) (c : Nat) (k : Core) : (s.setCore c k).dur = s.dur := rfl
@[simp] theorem State.setCore_pins (s : State) (c : Nat) (k : Core) : (s.setCore c k).pins = s.pins := rfl

/-! ### What each writes -/

@[simp] theorem State.at_now (s : State) (t : Nat) : (s.at t).now = max s.now t := rfl
@[simp] theorem State.put_objs (s : State) (f : Fld) (i v : Nat) : (s.put f i v).objs = s.objs.put f i v := rfl
@[simp] theorem State.emit_out (s : State) (o : Out) : (s.emit o).out = o :: s.out := rfl
@[simp] theorem State.fresh_free (s : State) : s.fresh.2.free = s.free + 1 := rfl
@[simp] theorem State.fresh_val (s : State) : s.fresh.1 = Config.freeValue s.free := rfl

end Sys2Proof.Machine
end

