-- ==== Sys2Proof/Laws/Tab.lean ====
section
/-! SUPPORT. Sparse tables, the object store and the byte memory: what a read after a write gives, and that every operation keeps the canonical
form. -/

namespace Sys2Proof.Machine

variable {α : Type}

/-! ### Tables -/

@[simp] theorem Tab.get_nil (k : Nat) (d : α) : Tab.get [] k d = d := rfl

theorem Tab.get_set_same (t : Tab α) (k : Nat) (a d : α) : Tab.get (Tab.set t k a) k d = a := by
  induction t with
  | nil => simp [Tab.set, Tab.get]
  | cons p r ih =>
    obtain ⟨i, b⟩ := p
    unfold Tab.set
    split
    · simp [Tab.get]
    · split
      · simp [Tab.get]
      · rename_i h
        have h : i ≠ k := fun e => h e.symm
        simp [Tab.get, h, ih]

theorem Tab.get_set_ne (t : Tab α) {k j : Nat} (a d : α) (h : j ≠ k) : Tab.get (Tab.set t k a) j d = Tab.get t j d := by
  induction t with
  | nil => simp [Tab.set, Tab.get, h.symm]
  | cons p r ih =>
    obtain ⟨i, b⟩ := p
    unfold Tab.set
    split
    · simp [Tab.get, h.symm]
    · split
      · rename_i e
        subst e
        simp [Tab.get, h.symm]
      · simp [Tab.get, ih]

/-- A read after a write: the value written at the same index, the old one elsewhere. -/
theorem Tab.get_set (t : Tab α) (k j : Nat) (a d : α) : Tab.get (Tab.set t k a) j d = if j = k then a else Tab.get t j d := by
  split
  · rename_i h
    subst h
    exact Tab.get_set_same t j a d
  · exact Tab.get_set_ne t a d ‹_›

theorem Tab.sortedFrom_le {m n : Nat} (t : Tab α) (h : m ≤ n) (w : Tab.sortedFrom n t = true) : Tab.sortedFrom m t = true := by
  cases t with
  | nil => rfl
  | cons p r =>
    simp only [Tab.sortedFrom, Bool.and_eq_true, decide_eq_true_eq] at w ⊢
    exact ⟨by omega, w.2⟩

/-- Below its lower bound a sorted table lists nothing. -/
theorem Tab.get_of_sortedFrom {m k : Nat} (t : Tab α) (d : α) (h : Tab.sortedFrom m t = true) (hk : k < m) : Tab.get t k d = d := by
  induction t generalizing m with
  | nil => rfl
  | cons p r ih =>
    obtain ⟨i, b⟩ := p
    simp [Tab.sortedFrom] at h
    have : i ≠ k := by omega
    simp [Tab.get, this]
    exact ih h.2 (by omega)

theorem Tab.sortedFrom_set {m : Nat} (t : Tab α) (k : Nat) (a : α) (h : Tab.sortedFrom m t = true) (hk : m ≤ k) :
    Tab.sortedFrom m (Tab.set t k a) = true := by
  induction t generalizing m with
  | nil => simp [Tab.set, Tab.sortedFrom, hk]
  | cons p r ih =>
    obtain ⟨i, b⟩ := p
    simp [Tab.sortedFrom] at h
    unfold Tab.set
    split
    · simp [Tab.sortedFrom, hk, h.2]; omega
    · split
      · rename_i e
        subst e
        simp [Tab.sortedFrom, hk, h.2]
      · simp [Tab.sortedFrom, h.1]
        exact ih h.2 (by omega)

/-- Writing an entry keeps the canonical form. -/
theorem Tab.wf_set (t : Tab α) (k : Nat) (a : α) (h : Tab.wf t = true) : Tab.wf (Tab.set t k a) = true :=
  Tab.sortedFrom_set t k a h (Nat.zero_le k)

theorem Tab.sortedFrom_filter {m : Nat} (t : Tab α) (p : Nat × α → Bool) (h : Tab.sortedFrom m t = true) :
    Tab.sortedFrom m (t.filter p) = true := by
  induction t generalizing m with
  | nil => rfl
  | cons q r ih =>
    obtain ⟨i, b⟩ := q
    simp [Tab.sortedFrom] at h
    by_cases hp : p (i, b) = true
    · simp [hp, Tab.sortedFrom, h.1, ih h.2]
    · simp [hp]
      exact Tab.sortedFrom_le _ (by omega) (ih h.2)

/-- Removing entries keeps the canonical form. -/
theorem Tab.wf_filter (t : Tab α) (p : Nat × α → Bool) (h : Tab.wf t = true) : Tab.wf (t.filter p) = true := Tab.sortedFrom_filter t p h

/-- Removing one entry keeps the canonical form. -/
theorem Tab.wf_del (t : Tab α) (k : Nat) (h : Tab.wf t = true) : Tab.wf (Tab.del t k) = true := Tab.sortedFrom_filter t _ h

/-- A read of an index that was removed. -/
theorem Tab.get_del_same (t : Tab α) (k : Nat) (d : α) : Tab.get (Tab.del t k) k d = d := by
  induction t with
  | nil => rfl
  | cons p r ih =>
    obtain ⟨i, b⟩ := p
    by_cases h : i = k
    · simp only [Tab.del, List.filter, h, ne_eq, not_true_eq_false, decide_false]
      exact ih
    · simp only [Tab.del, List.filter, h, ne_eq, not_false_eq_true, decide_true, Tab.get, if_false]
      exact ih

/-- A read of another index than the one removed. -/
theorem Tab.get_del_ne (t : Tab α) {k j : Nat} (d : α) (h : j ≠ k) : Tab.get (Tab.del t k) j d = Tab.get t j d := by
  induction t with
  | nil => rfl
  | cons p r ih =>
    obtain ⟨i, b⟩ := p
    by_cases e : i = k
    · have : i ≠ j := by omega
      simp only [Tab.del, List.filter, e, ne_eq, not_true_eq_false, decide_false, Tab.get]
      rw [if_neg (by omega)]
      exact ih
    · simp only [Tab.del, List.filter, e, ne_eq, not_false_eq_true, decide_true, Tab.get]
      split
      · rfl
      · exact ih

/-! ### The object store -/

/-- A field read after it was written: the value modulo the field's width. -/
theorem Store.get_put_same (t : Store) (f : Fld) (i v : Nat) : (Store.put t f i v).get f i = v % 2 ^ f.width := Tab.get_set_same _ _ _ _

/-- A field read after another was written. -/
theorem Store.get_put_ne (t : Store) {f g : Fld} {i j : Nat} (v : Nat) (h : g.key j ≠ f.key i) : (Store.put t f i v).get g j = t.get g j :=
  Tab.get_set_ne _ _ _ h

theorem Store.wf_put (t : Store) (f : Fld) (i v : Nat) (h : t.wf = true) : (Store.put t f i v).wf = true := Tab.wf_set _ _ _ h

theorem Store.wf_clear (t : Store) (p : Nat → Bool) (h : t.wf = true) : (t.clear p).wf = true := Tab.wf_filter _ _ h

/-- Two fields of two objects never share a key, whatever their indices below 65,536 and positions below 65,536. -/
theorem Fld.key_ne {f g : Fld} {i j : Nat} (h : f.obj ≠ g.obj) (hi : i < 65536) (hj : j < 65536) (hf : f.pos < 65536) (hg : g.pos < 65536)
    (cf : f.cls < 4) (cg : g.cls < 4) : f.key i ≠ g.key j := by
  unfold Fld.key; omega

/-! ### The byte memory -/

theorem Memory.get_set_same (m : Memory) (a : Nat) (b : Byte) : Memory.get (Memory.set m a b) a = b := by
  unfold Memory.set Memory.get
  split
  · rename_i h
    subst h
    exact Tab.get_del_same m a 0
  · exact Tab.get_set_same m a b 0

theorem Memory.get_set_ne (m : Memory) {a j : Nat} (b : Byte) (h : j ≠ a) : Memory.get (Memory.set m a b) j = Memory.get m j := by
  unfold Memory.set Memory.get
  split
  · exact Tab.get_del_ne m 0 h
  · exact Tab.get_set_ne m b 0 h

theorem Memory.all_set (t : Tab Byte) (k : Nat) (b : Byte) (hb : b ≠ 0) (h : (t.all fun c => decide (c.2 ≠ 0)) = true) :
    ((Tab.set t k b).all fun c => decide (c.2 ≠ 0)) = true := by
  induction t with
  | nil => simp only [Tab.set, List.all_cons, List.all_nil, Bool.and_true]; exact decide_eq_true hb
  | cons p r ih =>
    obtain ⟨i, x⟩ := p
    simp only [List.all_cons, Bool.and_eq_true] at h
    unfold Tab.set
    split
    · simp only [List.all_cons, Bool.and_eq_true]; exact ⟨decide_eq_true hb, h.1, h.2⟩
    · split
      · simp only [List.all_cons, Bool.and_eq_true]; exact ⟨decide_eq_true hb, h.2⟩
      · simp only [List.all_cons, Bool.and_eq_true]; exact ⟨h.1, ih h.2⟩

/-- Writing a byte keeps the canonical form. -/
theorem Memory.wf_set (m : Memory) (a : Nat) (b : Byte) (h : Memory.wf m = true) : Memory.wf (Memory.set m a b) = true := by
  simp only [Memory.wf, Bool.and_eq_true] at h ⊢
  unfold Memory.set
  split
  · refine ⟨Tab.wf_del m a h.1, ?_⟩
    rw [List.all_eq_true] at h ⊢
    intro x hx
    exact h.2 x (List.mem_filter.mp hx).1
  · exact ⟨Tab.wf_set m a b h.1, Memory.all_set m a b ‹_› h.2⟩

/-- Writing bytes keeps the canonical form. -/
theorem Memory.wf_write (m : Memory) (a v n : Nat) (h : Memory.wf m = true) : Memory.wf (Memory.write m a v n) = true := by
  induction n generalizing m a v with
  | zero => exact h
  | succ n ih => exact ih _ _ _ (Memory.wf_set m a _ h)

/-- Bytes outside those written read as before. -/
theorem Memory.get_write_out (m : Memory) (a v n j : Nat) (h : j < a ∨ a + n ≤ j) : Memory.get (Memory.write m a v n) j = Memory.get m j := by
  induction n generalizing m a v with
  | zero => rfl
  | succ n ih =>
    show Memory.get (Memory.write (Memory.set m a (BitVec.ofNat 8 v)) (a + 1) (v / 256) n) j = _
    rw [ih _ _ _ (by omega), Memory.get_set_ne _ _ (by omega)]

/-- Bytes read where they were written: the value modulo their width. -/
theorem Memory.read_write (m : Memory) (a v n : Nat) : Memory.read (Memory.write m a v n) a n = v % 256 ^ n := by
  induction n generalizing m a v with
  | zero => simp [Memory.read, Nat.mod_one]
  | succ n ih =>
    show (Memory.get (Memory.write (Memory.set m a (BitVec.ofNat 8 v)) (a + 1) (v / 256) n) a).toNat
      + 256 * Memory.read (Memory.write (Memory.set m a (BitVec.ofNat 8 v)) (a + 1) (v / 256) n) (a + 1) n = _
    rw [ih, Memory.get_write_out _ _ _ _ _ (Or.inl (by omega)), Memory.get_set_same, BitVec.toNat_ofNat]
    show v % 256 + _ = _
    rw [Nat.pow_succ', Nat.mod_mul]

end Sys2Proof.Machine
end

