-- ==== Sys2Proof/Laws/Ops.lean ====
section
/-! SUPPORT. What the shared operations over registers, fields and cores do, said once: reads after writes, what each update leaves, what a
retired instruction and an exception entry write. -/

namespace Sys2Proof.Machine

/-! ### Fields of objects -/

/-- A field read after it was written. -/
@[simp] theorem State.get_put_same (s : State) (f : Fld) (i v : Nat) : (s.put f i v).get f i = v % 2 ^ f.width := Store.get_put_same _ _ _ _

/-- Another field read after a write. -/
theorem State.get_put_ne (s : State) {f g : Fld} {i j : Nat} (v : Nat) (h : g.key j ≠ f.key i) : (s.put f i v).get g j = s.get g j := Store.get_put_ne _ _ h

/-- A field of another object read after a write. -/
theorem State.get_put_obj (s : State) {f g : Fld} {i j : Nat} (v : Nat) (h : f.obj ≠ g.obj) (hi : i < 65536) (hj : j < 65536)
    (hf : f.pos < 65536) (hg : g.pos < 65536) (cf : f.cls < 4) (cg : g.cls < 4) : (s.put f i v).get g j = s.get g j :=
  State.get_put_ne s v (Ne.symm (Fld.key_ne h hi hj hf hg cf cg))

/-- Whatever is not an object field leaves every field as it was. -/
theorem State.get_of_objs {s u : State} (h : u.objs = s.objs) (f : Fld) (i : Nat) : u.get f i = s.get f i := by unfold State.get; rw [h]

@[simp] theorem State.at_get (s : State) (t : Nat) (f : Fld) (i : Nat) : (s.at t).get f i = s.get f i := rfl
@[simp] theorem State.emit_get (s : State) (o : Out) (f : Fld) (i : Nat) : (s.emit o).get f i = s.get f i := rfl
@[simp] theorem State.touch_get (s : State) (o k : Nat) (f : Fld) (i : Nat) : (s.touch o k).get f i = s.get f i := rfl
@[simp] theorem State.fresh_get (s : State) (f : Fld) (i : Nat) : (s.fresh.2).get f i = s.get f i := rfl
@[simp] theorem State.setCore_get (s : State) (c : Nat) (k : Core) (f : Fld) (i : Nat) : (s.setCore c k).get f i = s.get f i := rfl

/-! ### Cores -/

@[simp] theorem State.core_setCore_same (s : State) (c : Nat) (k : Core) : (s.setCore c k).core c = k := Tab.get_set_same _ _ _ _

theorem State.core_setCore_ne (s : State) {c d : Nat} (k : Core) (h : d ≠ c) : (s.setCore c k).core d = s.core d := Tab.get_set_ne _ _ _ h

/-- g0 reads as zero whatever is stored. -/
@[simp] theorem Core.reg_zero (k : Core) : k.reg 0 = 0 := rfl

/-- g0 discards writes. -/
@[simp] theorem Core.setReg_zero (k : Core) (v : Word) : k.setReg 0 v = k := rfl

theorem Core.reg_setReg_same (k : Core) {r : Nat} (v : Word) (h : r ≠ 0) : (k.setReg r v).reg r = v := by
  simp [Core.reg, Core.setReg, h, Tab.get_set_same]

theorem Core.reg_setReg_ne (k : Core) {r q : Nat} (v : Word) (h : q ≠ r) : (k.setReg r v).reg q = k.reg q := by
  unfold Core.reg Core.setReg
  split
  · rfl
  · split
    · rfl
    · exact Tab.get_set_ne _ _ _ h

/-- A register after a write of a register. -/
theorem Core.reg_setReg (k : Core) (r q : Nat) (v : Word) : (k.setReg r v).reg q = if q = r ∧ r ≠ 0 then v else k.reg q := by
  by_cases h : q = r
  · subst h
    by_cases z : q = 0
    · subst z; rfl
    · rw [Core.reg_setReg_same k v z]; simp [z]
  · rw [Core.reg_setReg_ne k v h]; simp [h]

@[simp] theorem Core.setReg_accs (k : Core) (r : Nat) (v : Word) : (k.setReg r v).accs = k.accs := by unfold Core.setReg; split <;> rfl
@[simp] theorem Core.setReg_pc (k : Core) (r : Nat) (v : Word) : (k.setReg r v).pc = k.pc := by unfold Core.setReg; split <;> rfl
@[simp] theorem Core.setReg_cw (k : Core) (r : Nat) (v : Word) : (k.setReg r v).cw = k.cw := by unfold Core.setReg; split <;> rfl
@[simp] theorem Core.setReg_run (k : Core) (r : Nat) (v : Word) : (k.setReg r v).run = k.run := by unfold Core.setReg; split <;> rfl
@[simp] theorem Core.setReg_image (k : Core) (r : Nat) (v : Word) : (k.setReg r v).image = k.image := by unfold Core.setReg; split <;> rfl
@[simp] theorem Core.setReg_eq (k : Core) (r : Nat) (v : Word) : (k.setReg r v).eq = k.eq := by unfold Core.setReg; split <;> rfl
@[simp] theorem Core.setReg_queues (k : Core) (r : Nat) (v : Word) : (k.setReg r v).queues = k.queues := by unfold Core.setReg; split <;> rfl
@[simp] theorem Core.setReg_gateQ (k : Core) (r : Nat) (v : Word) : (k.setReg r v).gateQ = k.gateQ := by unfold Core.setReg; split <;> rfl
@[simp] theorem Core.setReg_serving (k : Core) (r : Nat) (v : Word) : (k.setReg r v).serving = k.serving := by unfold Core.setReg; split <;> rfl
@[simp] theorem Core.setReg_call (k : Core) (r : Nat) (v : Word) : (k.setReg r v).call = k.call := by unfold Core.setReg; split <;> rfl
@[simp] theorem Core.setReg_lastIrq (k : Core) (r : Nat) (v : Word) : (k.setReg r v).lastIrq = k.lastIrq := by unfold Core.setReg; split <;> rfl
@[simp] theorem Core.setReg_cycles (k : Core) (r : Nat) (v : Word) : (k.setReg r v).cycles = k.cycles := by unfold Core.setReg; split <;> rfl
@[simp] theorem Core.setReg_badFetch (k : Core) (r : Nat) (v : Word) : (k.setReg r v).badFetch = k.badFetch := by unfold Core.setReg; split <;> rfl
@[simp] theorem Core.setReg_rc (k : Core) (r : Nat) (v : Word) : (k.setReg r v).rc = k.rc := by unfold Core.setReg; split <;> rfl

@[simp] theorem Core.setAcc_regs (k : Core) (a : Nat) (v : Acc96) : (k.setAcc a v).regs = k.regs := rfl
@[simp] theorem Core.setAcc_pc (k : Core) (a : Nat) (v : Acc96) : (k.setAcc a v).pc = k.pc := rfl
@[simp] theorem Core.setAcc_cw (k : Core) (a : Nat) (v : Acc96) : (k.setAcc a v).cw = k.cw := rfl
@[simp] theorem Core.setAcc_run (k : Core) (a : Nat) (v : Acc96) : (k.setAcc a v).run = k.run := rfl
@[simp] theorem Core.setAcc_image (k : Core) (a : Nat) (v : Acc96) : (k.setAcc a v).image = k.image := rfl
@[simp] theorem Core.setAcc_eq (k : Core) (a : Nat) (v : Acc96) : (k.setAcc a v).eq = k.eq := rfl
@[simp] theorem Core.setAcc_queues (k : Core) (a : Nat) (v : Acc96) : (k.setAcc a v).queues = k.queues := rfl
@[simp] theorem Core.setAcc_gateQ (k : Core) (a : Nat) (v : Acc96) : (k.setAcc a v).gateQ = k.gateQ := rfl
@[simp] theorem Core.setAcc_serving (k : Core) (a : Nat) (v : Acc96) : (k.setAcc a v).serving = k.serving := rfl
@[simp] theorem Core.setAcc_call (k : Core) (a : Nat) (v : Acc96) : (k.setAcc a v).call = k.call := rfl
@[simp] theorem Core.setAcc_lastIrq (k : Core) (a : Nat) (v : Acc96) : (k.setAcc a v).lastIrq = k.lastIrq := rfl
@[simp] theorem Core.setAcc_cycles (k : Core) (a : Nat) (v : Acc96) : (k.setAcc a v).cycles = k.cycles := rfl
@[simp] theorem Core.setAcc_badFetch (k : Core) (a : Nat) (v : Acc96) : (k.setAcc a v).badFetch = k.badFetch := rfl
@[simp] theorem Core.setAcc_rc (k : Core) (a : Nat) (v : Acc96) : (k.setAcc a v).rc = k.rc := rfl

@[simp] theorem Core.setCwd_regs (k : Core) (n : Nat) (v : Word) : (k.setCwd n v).regs = k.regs := rfl
@[simp] theorem Core.setCwd_accs (k : Core) (n : Nat) (v : Word) : (k.setCwd n v).accs = k.accs := rfl
@[simp] theorem Core.setCwd_pc (k : Core) (n : Nat) (v : Word) : (k.setCwd n v).pc = k.pc := rfl
@[simp] theorem Core.setCwd_run (k : Core) (n : Nat) (v : Word) : (k.setCwd n v).run = k.run := rfl
@[simp] theorem Core.setCwd_image (k : Core) (n : Nat) (v : Word) : (k.setCwd n v).image = k.image := rfl
@[simp] theorem Core.setCwd_eq (k : Core) (n : Nat) (v : Word) : (k.setCwd n v).eq = k.eq := rfl
@[simp] theorem Core.setCwd_queues (k : Core) (n : Nat) (v : Word) : (k.setCwd n v).queues = k.queues := rfl
@[simp] theorem Core.setCwd_gateQ (k : Core) (n : Nat) (v : Word) : (k.setCwd n v).gateQ = k.gateQ := rfl
@[simp] theorem Core.setCwd_serving (k : Core) (n : Nat) (v : Word) : (k.setCwd n v).serving = k.serving := rfl
@[simp] theorem Core.setCwd_call (k : Core) (n : Nat) (v : Word) : (k.setCwd n v).call = k.call := rfl
@[simp] theorem Core.setCwd_lastIrq (k : Core) (n : Nat) (v : Word) : (k.setCwd n v).lastIrq = k.lastIrq := rfl
@[simp] theorem Core.setCwd_cycles (k : Core) (n : Nat) (v : Word) : (k.setCwd n v).cycles = k.cycles := rfl
@[simp] theorem Core.setCwd_badFetch (k : Core) (n : Nat) (v : Word) : (k.setCwd n v).badFetch = k.badFetch := rfl
@[simp] theorem Core.setCwd_rc (k : Core) (n : Nat) (v : Word) : (k.setCwd n v).rc = k.rc := rfl

@[simp] theorem Core.setCw0_regs (k : Core) (lo w v : Nat) : (k.setCw0 lo w v).regs = k.regs := rfl
@[simp] theorem Core.setCw0_accs (k : Core) (lo w v : Nat) : (k.setCw0 lo w v).accs = k.accs := rfl
@[simp] theorem Core.setCw0_pc (k : Core) (lo w v : Nat) : (k.setCw0 lo w v).pc = k.pc := rfl
@[simp] theorem Core.setCw0_run (k : Core) (lo w v : Nat) : (k.setCw0 lo w v).run = k.run := rfl
@[simp] theorem Core.setCw0_image (k : Core) (lo w v : Nat) : (k.setCw0 lo w v).image = k.image := rfl
@[simp] theorem Core.setCw0_eq (k : Core) (lo w v : Nat) : (k.setCw0 lo w v).eq = k.eq := rfl
@[simp] theorem Core.setCw0_queues (k : Core) (lo w v : Nat) : (k.setCw0 lo w v).queues = k.queues := rfl
@[simp] theorem Core.setCw0_gateQ (k : Core) (lo w v : Nat) : (k.setCw0 lo w v).gateQ = k.gateQ := rfl
@[simp] theorem Core.setCw0_serving (k : Core) (lo w v : Nat) : (k.setCw0 lo w v).serving = k.serving := rfl
@[simp] theorem Core.setCw0_call (k : Core) (lo w v : Nat) : (k.setCw0 lo w v).call = k.call := rfl
@[simp] theorem Core.setCw0_lastIrq (k : Core) (lo w v : Nat) : (k.setCw0 lo w v).lastIrq = k.lastIrq := rfl
@[simp] theorem Core.setCw0_cycles (k : Core) (lo w v : Nat) : (k.setCw0 lo w v).cycles = k.cycles := rfl
@[simp] theorem Core.setCw0_badFetch (k : Core) (lo w v : Nat) : (k.setCw0 lo w v).badFetch = k.badFetch := rfl
@[simp] theorem Core.setCw0_rc (k : Core) (lo w v : Nat) : (k.setCw0 lo w v).rc = k.rc := rfl

@[simp] theorem Core.setQsat_regs (k : Core) (b : Bool) : (k.setQsat b).regs = k.regs := by cases b <;> rfl
@[simp] theorem Core.setQsat_accs (k : Core) (b : Bool) : (k.setQsat b).accs = k.accs := by cases b <;> rfl
@[simp] theorem Core.setQsat_pc (k : Core) (b : Bool) : (k.setQsat b).pc = k.pc := by cases b <;> rfl
@[simp] theorem Core.setQsat_run (k : Core) (b : Bool) : (k.setQsat b).run = k.run := by cases b <;> rfl
@[simp] theorem Core.setQsat_image (k : Core) (b : Bool) : (k.setQsat b).image = k.image := by cases b <;> rfl
@[simp] theorem Core.setQsat_eq (k : Core) (b : Bool) : (k.setQsat b).eq = k.eq := by cases b <;> rfl
@[simp] theorem Core.setQsat_queues (k : Core) (b : Bool) : (k.setQsat b).queues = k.queues := by cases b <;> rfl
@[simp] theorem Core.setQsat_gateQ (k : Core) (b : Bool) : (k.setQsat b).gateQ = k.gateQ := by cases b <;> rfl
@[simp] theorem Core.setQsat_serving (k : Core) (b : Bool) : (k.setQsat b).serving = k.serving := by cases b <;> rfl
@[simp] theorem Core.setQsat_call (k : Core) (b : Bool) : (k.setQsat b).call = k.call := by cases b <;> rfl
@[simp] theorem Core.setQsat_lastIrq (k : Core) (b : Bool) : (k.setQsat b).lastIrq = k.lastIrq := by cases b <;> rfl
@[simp] theorem Core.setQsat_cycles (k : Core) (b : Bool) : (k.setQsat b).cycles = k.cycles := by cases b <;> rfl
@[simp] theorem Core.setQsat_badFetch (k : Core) (b : Bool) : (k.setQsat b).badFetch = k.badFetch := by cases b <;> rfl
@[simp] theorem Core.setQsat_rc (k : Core) (b : Bool) : (k.setQsat b).rc = k.rc := by cases b <;> rfl

@[simp] theorem Core.setAsat_regs (k : Core) (a : Nat) (b : Bool) : (k.setAsat a b).regs = k.regs := by cases b <;> rfl
@[simp] theorem Core.setAsat_accs (k : Core) (a : Nat) (b : Bool) : (k.setAsat a b).accs = k.accs := by cases b <;> rfl
@[simp] theorem Core.setAsat_pc (k : Core) (a : Nat) (b : Bool) : (k.setAsat a b).pc = k.pc := by cases b <;> rfl
@[simp] theorem Core.setAsat_run (k : Core) (a : Nat) (b : Bool) : (k.setAsat a b).run = k.run := by cases b <;> rfl
@[simp] theorem Core.setAsat_image (k : Core) (a : Nat) (b : Bool) : (k.setAsat a b).image = k.image := by cases b <;> rfl
@[simp] theorem Core.setAsat_eq (k : Core) (a : Nat) (b : Bool) : (k.setAsat a b).eq = k.eq := by cases b <;> rfl
@[simp] theorem Core.setAsat_queues (k : Core) (a : Nat) (b : Bool) : (k.setAsat a b).queues = k.queues := by cases b <;> rfl
@[simp] theorem Core.setAsat_gateQ (k : Core) (a : Nat) (b : Bool) : (k.setAsat a b).gateQ = k.gateQ := by cases b <;> rfl
@[simp] theorem Core.setAsat_serving (k : Core) (a : Nat) (b : Bool) : (k.setAsat a b).serving = k.serving := by cases b <;> rfl
@[simp] theorem Core.setAsat_call (k : Core) (a : Nat) (b : Bool) : (k.setAsat a b).call = k.call := by cases b <;> rfl
@[simp] theorem Core.setAsat_lastIrq (k : Core) (a : Nat) (b : Bool) : (k.setAsat a b).lastIrq = k.lastIrq := by cases b <;> rfl
@[simp] theorem Core.setAsat_cycles (k : Core) (a : Nat) (b : Bool) : (k.setAsat a b).cycles = k.cycles := by cases b <;> rfl
@[simp] theorem Core.setAsat_badFetch (k : Core) (a : Nat) (b : Bool) : (k.setAsat a b).badFetch = k.badFetch := by cases b <;> rfl
@[simp] theorem Core.setAsat_rc (k : Core) (a : Nat) (b : Bool) : (k.setAsat a b).rc = k.rc := by cases b <;> rfl

@[simp] theorem Core.putAccSat_regs (k : Core) (a : Nat) (x : Int) : (k.putAccSat a x).regs = k.regs := by unfold Core.putAccSat; simp
@[simp] theorem Core.putAccSat_pc (k : Core) (a : Nat) (x : Int) : (k.putAccSat a x).pc = k.pc := by unfold Core.putAccSat; simp
@[simp] theorem Core.putAccSat_run (k : Core) (a : Nat) (x : Int) : (k.putAccSat a x).run = k.run := by unfold Core.putAccSat; simp
@[simp] theorem Core.putAccSat_image (k : Core) (a : Nat) (x : Int) : (k.putAccSat a x).image = k.image := by unfold Core.putAccSat; simp
@[simp] theorem Core.putAccSat_eq (k : Core) (a : Nat) (x : Int) : (k.putAccSat a x).eq = k.eq := by unfold Core.putAccSat; simp
@[simp] theorem Core.putAccSat_queues (k : Core) (a : Nat) (x : Int) : (k.putAccSat a x).queues = k.queues := by unfold Core.putAccSat; simp
@[simp] theorem Core.putAccSat_gateQ (k : Core) (a : Nat) (x : Int) : (k.putAccSat a x).gateQ = k.gateQ := by unfold Core.putAccSat; simp
@[simp] theorem Core.putAccSat_serving (k : Core) (a : Nat) (x : Int) : (k.putAccSat a x).serving = k.serving := by unfold Core.putAccSat; simp
@[simp] theorem Core.putAccSat_call (k : Core) (a : Nat) (x : Int) : (k.putAccSat a x).call = k.call := by unfold Core.putAccSat; simp
@[simp] theorem Core.putAccSat_lastIrq (k : Core) (a : Nat) (x : Int) : (k.putAccSat a x).lastIrq = k.lastIrq := by unfold Core.putAccSat; simp
@[simp] theorem Core.putAccSat_cycles (k : Core) (a : Nat) (x : Int) : (k.putAccSat a x).cycles = k.cycles := by unfold Core.putAccSat; simp
@[simp] theorem Core.putAccSat_badFetch (k : Core) (a : Nat) (x : Int) : (k.putAccSat a x).badFetch = k.badFetch := by unfold Core.putAccSat; simp
@[simp] theorem Core.putAccSat_rc (k : Core) (a : Nat) (x : Int) : (k.putAccSat a x).rc = k.rc := by unfold Core.putAccSat; simp

@[simp] theorem Core.enter_regs (k : Core) (c q : Nat) (v : Word) (e g : Addr) : (k.enter c q v e g).regs = k.regs := rfl
@[simp] theorem Core.enter_accs (k : Core) (c q : Nat) (v : Word) (e g : Addr) : (k.enter c q v e g).accs = k.accs := rfl
@[simp] theorem Core.enter_image (k : Core) (c q : Nat) (v : Word) (e g : Addr) : (k.enter c q v e g).image = k.image := rfl
@[simp] theorem Core.enter_eq (k : Core) (c q : Nat) (v : Word) (e g : Addr) : (k.enter c q v e g).eq = k.eq := rfl
@[simp] theorem Core.enter_queues (k : Core) (c q : Nat) (v : Word) (e g : Addr) : (k.enter c q v e g).queues = k.queues := rfl
@[simp] theorem Core.enter_gateQ (k : Core) (c q : Nat) (v : Word) (e g : Addr) : (k.enter c q v e g).gateQ = k.gateQ := rfl
@[simp] theorem Core.enter_serving (k : Core) (c q : Nat) (v : Word) (e g : Addr) : (k.enter c q v e g).serving = k.serving := rfl
@[simp] theorem Core.enter_call (k : Core) (c q : Nat) (v : Word) (e g : Addr) : (k.enter c q v e g).call = k.call := rfl
@[simp] theorem Core.enter_lastIrq (k : Core) (c q : Nat) (v : Word) (e g : Addr) : (k.enter c q v e g).lastIrq = k.lastIrq := rfl
@[simp] theorem Core.enter_cycles (k : Core) (c q : Nat) (v : Word) (e g : Addr) : (k.enter c q v e g).cycles = k.cycles := rfl
@[simp] theorem Core.enter_badFetch (k : Core) (c q : Nat) (v : Word) (e g : Addr) : (k.enter c q v e g).badFetch = k.badFetch := rfl
@[simp] theorem Core.enter_rc (k : Core) (c q : Nat) (v : Word) (e g : Addr) : (k.enter c q v e g).rc = k.rc := rfl

@[simp] theorem Core.leave_regs (k : Core) : (k.leave).regs = k.regs := rfl
@[simp] theorem Core.leave_accs (k : Core) : (k.leave).accs = k.accs := rfl
@[simp] theorem Core.leave_run (k : Core) : (k.leave).run = k.run := rfl
@[simp] theorem Core.leave_image (k : Core) : (k.leave).image = k.image := rfl
@[simp] theorem Core.leave_eq (k : Core) : (k.leave).eq = k.eq := rfl
@[simp] theorem Core.leave_queues (k : Core) : (k.leave).queues = k.queues := rfl
@[simp] theorem Core.leave_gateQ (k : Core) : (k.leave).gateQ = k.gateQ := rfl
@[simp] theorem Core.leave_serving (k : Core) : (k.leave).serving = k.serving := rfl
@[simp] theorem Core.leave_call (k : Core) : (k.leave).call = k.call := rfl
@[simp] theorem Core.leave_lastIrq (k : Core) : (k.leave).lastIrq = k.lastIrq := rfl
@[simp] theorem Core.leave_cycles (k : Core) : (k.leave).cycles = k.cycles := rfl
@[simp] theorem Core.leave_badFetch (k : Core) : (k.leave).badFetch = k.badFetch := rfl
@[simp] theorem Core.leave_rc (k : Core) : (k.leave).rc = k.rc := rfl

@[simp] theorem Core.setAcc_reg (k : Core) (a : Nat) (v : Acc96) (r : Nat) : (k.setAcc a v).reg r = k.reg r := by unfold Core.reg; simp
@[simp] theorem Core.setCwd_reg (k : Core) (n : Nat) (v : Word) (r : Nat) : (k.setCwd n v).reg r = k.reg r := by unfold Core.reg; simp
@[simp] theorem Core.setCw0_reg (k : Core) (lo w v : Nat) (r : Nat) : (k.setCw0 lo w v).reg r = k.reg r := by unfold Core.reg; simp
@[simp] theorem Core.setQsat_reg (k : Core) (b : Bool) (r : Nat) : (k.setQsat b).reg r = k.reg r := by unfold Core.reg; simp
@[simp] theorem Core.setAsat_reg (k : Core) (a : Nat) (b : Bool) (r : Nat) : (k.setAsat a b).reg r = k.reg r := by unfold Core.reg; simp
@[simp] theorem Core.putAccSat_reg (k : Core) (a : Nat) (x : Int) (r : Nat) : (k.putAccSat a x).reg r = k.reg r := by unfold Core.reg; simp
@[simp] theorem Core.enter_reg (k : Core) (c q : Nat) (v : Word) (e g : Addr) (r : Nat) : (k.enter c q v e g).reg r = k.reg r := by unfold Core.reg; simp
@[simp] theorem Core.leave_reg (k : Core) (r : Nat) : (k.leave).reg r = k.reg r := by unfold Core.reg; simp

@[simp] theorem Core.acc_setAcc_same (k : Core) (a : Nat) (v : Acc96) : (k.setAcc a v).acc a = v := Tab.get_set_same _ _ _ _
theorem Core.acc_setAcc_ne (k : Core) {a b : Nat} (v : Acc96) (h : b ≠ a) : (k.setAcc a v).acc b = k.acc b := Tab.get_set_ne _ _ _ h
@[simp] theorem Core.cw_setCwd_same (k : Core) (n : Nat) (v : Word) (d : Word) : Tab.get (k.setCwd n v).cw n d = v := Tab.get_set_same _ _ _ _
theorem Core.cw_setCwd_ne (k : Core) {n m : Nat} (v : Word) (d : Word) (h : m ≠ n) : Tab.get (k.setCwd n v).cw m d = Tab.get k.cw m d := Tab.get_set_ne _ _ _ h

/-! ### Retiring an instruction -/

/-- Where the blocks known to be bad are the same, so is what can be fetched. -/
theorem Core.fetchOk_of {k k' : Core} (h : k'.badFetch = k.badFetch) (pc : Addr) : k'.fetchOk pc = k.fetchOk pc := by
  unfold Core.fetchOk; rw [h]

/-- A word that can be fetched raises nothing. -/
theorem Core.fetchCause_ok {k : Core} {c : Nat} {pc : Addr} (h : k.fetchOk pc = true) : k.fetchCause c pc = none := by
  unfold Core.fetchCause; rw [if_pos h]

/-- A core that executes at an address it can fetch from executes the instruction. -/
theorem State.issue_run (s : State) (c : Nat) (f : Core → State) (h : (s.core c).running = true) (p : (s.core c).fetchOk (s.core c).pc = true) :
    s.issue c f = f (s.core c) := by
  unfold State.issue
  simp only [h, Core.fetchCause_ok p, Bool.true_eq_false, if_false]

/-- A core that does not run takes no instruction. -/
theorem State.issue_stopped (s : State) (c : Nat) (f : Core → State) (h : (s.core c).running = false) : s.issue c f = s := by
  unfold State.issue
  exact if_pos h

/-- The core after an instruction left it as `k` with its next pc where a word can be fetched: cw16 counts it. -/
def retired (k : Core) (pc : Addr) : Core := { k.setCwd 16 (Tab.get k.cw 16 0 + 1) with pc := pc }

/-- What retiring does: the core alone, where the next word can be fetched. -/
theorem State.retire_in (s : State) (c : Nat) (k : Core) (pc : Addr) (h : k.fetchOk pc = true) : s.retire c k pc = s.setCore c (retired k pc) := by
  unfold State.retire
  have e : ({ k.setCwd 16 (Tab.get k.cw 16 0 + 1) with pc := pc } : Core).fetchCause c pc = none :=
    Core.fetchCause_ok ((Core.fetchOk_of (k := k) rfl pc).trans h)
  simp only [e]
  rfl

/-- A register-only instruction without prefixes. -/
theorem State.alu_in (s : State) (c : Nat) (f : Core → Core) (h : (s.core c).running = true) (p : (s.core c).fetchOk (s.core c).pc = true)
    (q : (f (s.core c)).fetchOk ((s.core c).pc + 4) = true) :
    s.alu c f = s.setCore c (retired (f (s.core c)) ((s.core c).pc + 4)) := by
  unfold State.alu
  rw [State.issue_run s c _ h p]
  exact State.retire_in s c _ _ q

/-- A core that does not run takes no instruction. -/
theorem State.alu_stopped (s : State) (c : Nat) (f : Core → Core) (h : (s.core c).running = false) : s.alu c f = s :=
  State.issue_stopped s c _ h

@[simp] theorem retired_pc (k : Core) (pc : Addr) : (retired k pc).pc = pc := rfl
@[simp] theorem retired_regs (k : Core) (pc : Addr) : (retired k pc).regs = k.regs := rfl
@[simp] theorem retired_accs (k : Core) (pc : Addr) : (retired k pc).accs = k.accs := rfl
@[simp] theorem retired_reg (k : Core) (pc : Addr) (r : Nat) : (retired k pc).reg r = k.reg r := rfl
@[simp] theorem retired_cw16 (k : Core) (pc : Addr) (d : Word) : Tab.get (retired k pc).cw 16 d = Tab.get k.cw 16 0 + 1 := Tab.get_set_same _ _ _ _
theorem retired_cw (k : Core) (pc : Addr) (d : Word) {n : Nat} (h : n ≠ 16) : Tab.get (retired k pc).cw n d = Tab.get k.cw n d := Tab.get_set_ne _ _ _ h

/-! ### Exceptions -/

/-- Outside a handler an exception changes its core alone (spec/02 R65). -/
theorem State.exc_enter (s : State) (c code source : Nat) (v : Word) (epc : Addr) (t : Nat) (h : (s.core c).inHandler = false) :
    s.exc c code source v epc t = s.setCore c ((s.core c).enter code source v epc (s.core c).vbase) := by
  unfold State.exc
  simp [h]

end Sys2Proof.Machine
end

