-- ==== Sys2Proof/Laws/Primel.lean ====
section
/-! SUPPORT. What Primel's shared forms do on a core that runs: one register, one accumulator, or the pc, and the frame of each. -/

namespace Sys2Proof.Machine

theorem canRun_next {s : State} {c n : Nat} (h : canRun s c n) (w : Nat) (hw : w ≤ n) :
    (s.core c).fetchOk ((s.core c).pc + BitVec.ofNat 32 (4 * w)) = true := h.2.2 w hw

theorem canRun_here {s : State} {c n : Nat} (h : canRun s c n) : (s.core c).fetchOk (s.core c).pc = true := by
  simpa using h.2.2 0 (Nat.zero_le n)

theorem canRun_le {s : State} {c n m : Nat} (h : canRun s c n) (hm : m ≤ n) : canRun s c m :=
  ⟨h.1, by have := h.2.1; omega, fun j hj => h.2.2 j (Nat.le_trans hj hm)⟩

/-- Running past a one-word instruction that leaves the bad blocks as they are. -/
theorem State.alu_run (s : State) (c : Nat) (f : Core → Core) (h : canRun s c 1) (b : (f (s.core c)).badFetch = (s.core c).badFetch) :
    s.alu c f = s.setCore c (retired (f (s.core c)) ((s.core c).pc + 4)) :=
  State.alu_in s c f h.1 (canRun_here h) (by rw [Core.fetchOk_of b]; exact canRun_next h 1 (Nat.le_refl 1))

/-- Replacing a core touches that core alone. -/
theorem onlyCore_setCore (s : State) (c : Nat) (k : Core) : onlyCore s (s.setCore c k) c :=
  ⟨rfl, fun _ h => State.core_setCore_ne s k h⟩

/-- A core retired after a change of registers, accumulators and control words other than cw16 and cw17. -/
theorem retiredTo_of (k k' : Core) (pc : Addr) (h : k' = { k with regs := k'.regs, accs := k'.accs, cw := k'.cw })
    (w : ∀ n d, n ≠ 17 → Tab.get k'.cw n d = Tab.get k.cw n d) : retiredTo k (retired k' pc) pc := by
  refine ⟨?_, ?_, ?_⟩
  · rw [h]; rfl
  · intro d; rw [retired_cw16, w 16 0 (by omega)]
  · intro n d a b; rw [retired_cw k' pc d a, w n d b]

theorem Core.setReg_parts (k : Core) (r : Nat) (v : Word) :
    k.setReg r v = { k with regs := (k.setReg r v).regs, accs := (k.setReg r v).accs, cw := (k.setReg r v).cw } := by
  unfold Core.setReg; split <;> rfl

/-- One register written and the instruction retired. -/
theorem oneReg_retired (s : State) (c rd : Nat) (v : Word) (pc : Addr) :
    oneReg s (s.setCore c (retired ((s.core c).setReg rd v) pc)) c rd v pc := by
  refine ⟨onlyCore_setCore s c _, ?_, ?_, ?_, ?_, ?_⟩
  · rw [State.core_setCore_same]
    exact retiredTo_of _ _ _ (Core.setReg_parts _ _ _) (fun n d _ => by rw [Core.setReg_cw])
  · rw [State.core_setCore_same]
    exact ⟨fun q h => by rw [retired_reg]; exact Core.reg_setReg_ne _ v h, rfl⟩
  · intro h; rw [State.core_setCore_same, retired_reg]; exact Core.reg_setReg_same _ v h
  · rw [State.core_setCore_same]; simp
  · intro d; rw [State.core_setCore_same, retired_cw _ _ _ (by omega), Core.setReg_cw]

/-- One register written with its saturation bit and the instruction retired. -/
theorem oneSatReg_retired (s : State) (c rd : Nat) (v : Word) (b : Bool) (pc : Addr) :
    oneSatReg s (s.setCore c (retired (((s.core c).setReg rd v).setQsat b) pc)) c rd v b pc := by
  refine ⟨onlyCore_setCore s c _, ?_, ?_, ?_, ?_, ?_⟩
  · rw [State.core_setCore_same]
    refine retiredTo_of _ _ _ ?_ ?_
    · unfold Core.setReg; cases b <;> split <;> rfl
    · intro n d h
      cases b
      · show Tab.get ((s.core c).setReg rd v).cw n d = _
        rw [Core.setReg_cw]
      · show Tab.get (Core.setCwd _ 17 _).cw n d = _
        rw [Core.cw_setCwd_ne _ _ _ h, Core.setReg_cw]
  · rw [State.core_setCore_same]
    exact ⟨fun q h => by rw [retired_reg, Core.setQsat_reg]; exact Core.reg_setReg_ne _ v h, rfl⟩
  · intro h; rw [State.core_setCore_same, retired_reg, Core.setQsat_reg]; exact Core.reg_setReg_same _ v h
  · rw [State.core_setCore_same]; simp
  · rw [State.core_setCore_same, retired_cw _ _ _ (by omega)]
    cases b
    · show Tab.get ((s.core c).setReg rd v).cw 17 0 = _
      rw [Core.setReg_cw]; rfl
    · show Tab.get (Core.setCwd _ 17 _).cw 17 0 = _
      rw [Core.cw_setCwd_same, Core.setReg_cw]; rfl

/-- One accumulator written with its saturation bit and the instruction retired. -/
theorem oneAcc_retired (s : State) (c a : Nat) (v : Acc96) (b : Bool) (pc : Addr) :
    oneAcc s (s.setCore c (retired (((s.core c).setAcc a v).setAsat a b) pc)) c a v b pc := by
  refine ⟨onlyCore_setCore s c _, ?_, ?_, ?_, ?_, ?_⟩
  · rw [State.core_setCore_same]
    refine retiredTo_of _ _ _ ?_ ?_
    · cases b <;> rfl
    · intro n d h
      cases b
      · rfl
      · show Tab.get (Core.setCwd _ 17 _).cw n d = _
        rw [Core.cw_setCwd_ne _ _ _ h, Core.setAcc_cw]
  · intro q; rw [State.core_setCore_same, retired_reg, Core.setAsat_reg, Core.setAcc_reg]
  · rw [State.core_setCore_same]
    show Tab.get (retired _ _).accs a 0 = v
    rw [retired_accs, Core.setAsat_accs]; exact Core.acc_setAcc_same _ _ _
  · intro d h
    rw [State.core_setCore_same]
    show Tab.get (retired _ _).accs d 0 = _
    rw [retired_accs, Core.setAsat_accs]; exact Core.acc_setAcc_ne _ _ h
  · rw [State.core_setCore_same, retired_cw _ _ _ (by omega)]
    cases b
    · rfl
    · show Tab.get (Core.setCwd _ 17 _).cw 17 0 = _
      rw [Core.cw_setCwd_same, Core.setAcc_cw]; rfl

theorem four_eq : (4 : Addr) = BitVec.ofNat 32 (4 * 1) := rfl

/-- Register form: the result in rd alone. -/
theorem State.aluReg_spec (s : State) (c rd ra rb : Nat) (f : Word → Word → Word) (h : canRun s c 1) :
    oneReg s (s.aluReg c rd ra rb f) c rd (f ((s.core c).reg ra) ((s.core c).reg rb)) ((s.core c).pc + 4) := by
  unfold State.aluReg
  rw [State.alu_run s c _ h (by simp)]
  exact oneReg_retired s c rd _ _

/-- One result computed from the core. -/
theorem State.alu_setReg_spec (s : State) (c rd : Nat) (f : Core → Word) (h : canRun s c 1) :
    oneReg s (s.alu c fun k => k.setReg rd (f k)) c rd (f (s.core c)) ((s.core c).pc + 4) := by
  rw [State.alu_run s c _ h (by simp)]
  exact oneReg_retired s c rd _ _

/-- A division: the result in rd, the sticky bit where it saturated. -/
theorem State.aluDiv_spec (s : State) (c rd ra rb : Nat) (f : Word → Word → Word × Bool) (h : canRun s c 1) :
    oneSatReg s (s.aluDiv c rd ra rb f) c rd (f ((s.core c).reg ra) ((s.core c).reg rb)).1 (f ((s.core c).reg ra) ((s.core c).reg rb)).2
      ((s.core c).pc + 4) := by
  unfold State.aluDiv
  rw [State.alu_run s c _ h (by simp)]
  exact oneSatReg_retired s c rd _ _ _

/-- A saturated result in a register. -/
theorem State.putRegSat_spec (s : State) (c rd w : Nat) (x : Core → Int) (h : canRun s c 1) :
    oneSatReg s (s.alu c fun k => k.putRegSat rd w (x k)) c rd (BitVec.ofInt 64 (satSigned w (x (s.core c))).1) (satSigned w (x (s.core c))).2
      ((s.core c).pc + 4) := by
  rw [State.alu_run s c _ h (by simp [Core.putRegSat])]
  exact oneSatReg_retired s c rd _ _ _

/-- A saturated result in an accumulator. -/
theorem State.putAccSat_spec (s : State) (c a : Nat) (x : Core → Int) (h : canRun s c 1) :
    oneAcc s (s.alu c fun k => k.putAccSat a (x k)) c a (BitVec.ofInt 96 (satSigned 96 (x (s.core c))).1) (satSigned 96 (x (s.core c))).2
      ((s.core c).pc + 4) := by
  rw [State.alu_run s c _ h (by simp)]
  exact oneAcc_retired s c a _ _ _

/-- An accumulator written without saturation. -/
theorem State.setAcc_spec (s : State) (c a : Nat) (v : Core → Acc96) (h : canRun s c 1) :
    oneAcc s (s.alu c fun k => k.setAcc a (v k)) c a (v (s.core c)) false ((s.core c).pc + 4) := by
  rw [State.alu_run s c _ h (by simp)]
  exact oneAcc_retired s c a _ false _

/-- Limiting to a range, as the nearer bound. -/
theorem satSigned_eq (w : Nat) (x : Int) :
    satSigned w x = (max (-(2 ^ (w - 1))) (min (2 ^ (w - 1) - 1) x), decide (x < -(2 ^ (w - 1)) ∨ 2 ^ (w - 1) - 1 < x)) := by
  have h : (0 : Int) < 2 ^ (w - 1) := Int.pow_pos (by decide)
  unfold satSigned
  simp only [Int.natCast_pow, Int.cast_ofNat_Int]
  split
  · rename_i a
    rw [Prod.mk.injEq]
    refine ⟨by omega, ?_⟩
    rw [eq_comm, decide_eq_true_eq]; exact Or.inr a
  · split
    · rename_i a b
      rw [Prod.mk.injEq]
      refine ⟨by omega, ?_⟩
      rw [eq_comm, decide_eq_true_eq]; exact Or.inl b
    · rename_i a b
      rw [Prod.mk.injEq]
      refine ⟨by omega, ?_⟩
      rw [eq_comm, decide_eq_false_iff_not]; omega

/-- A branch with the next pc inside instruction SRAM. -/
theorem State.branch_spec (s : State) (c : Nat) (off : BitVec 16) (mp : Bool) (p : Core → Bool) (pc : Addr) (h : canRun s c 1)
    (e : pc = if p (s.core c) then branchTarget (s.core c).pc off.toInt else (s.core c).pc + 4) (i : (s.core c).fetchOk pc = true) :
    pcOnly s (s.branch c off mp p) c mp pc := by
  have b : s.branch c off mp p = s.setCore c (retired (if mp then (s.core c).setCwd 22 (Tab.get (s.core c).cw 22 0 + 1) else s.core c) pc) := by
    unfold State.branch
    rw [State.issue_run s c _ h.1 (canRun_here h), ← e]
    exact State.retire_in s c _ pc (by cases mp <;> exact i)
  rw [b]
  refine ⟨onlyCore_setCore s c _, ?_, ?_, ?_, ?_, ?_, ?_⟩ <;> rw [State.core_setCore_same] <;> cases mp
  · rfl
  · rfl
  · intro q; rfl
  · intro q; rw [retired_reg]; exact Core.setCwd_reg _ _ _ _
  · rfl
  · rfl
  · intro d; exact retired_cw16 _ _ _
  · intro d; rw [retired_cw16]; show Tab.get (Core.setCwd _ 22 _).cw 16 0 + 1 = _; rw [Core.cw_setCwd_ne _ _ _ (by omega)]
  · exact retired_cw _ _ _ (by omega)
  · rw [retired_cw _ _ _ (by omega)]; show Tab.get (Core.setCwd _ 22 _).cw 22 0 = _; rw [Core.cw_setCwd_same]; rfl
  · intro n d a _; exact retired_cw _ _ _ a
  · intro n d a b; rw [retired_cw _ _ _ a]; show Tab.get (Core.setCwd _ 22 _).cw n d = _; rw [Core.cw_setCwd_ne _ _ _ b]

end Sys2Proof.Machine
end

