-- ==== Sys2Proof/WellFormed.lean ====
section
/-! DEFINITION. Which commands are well formed: the operands have the shapes the spec gives them. A decoder's or a link's own checks are the
machine's and are no part of this. -/

namespace Sys2Proof

/-- The bytes of a payload fit its length. -/
def Payload.wf (p : Payload) : Bool := decide (p.data < 2 ^ (8 * p.len))

/-- A host request carries 0 to 256 payload bytes (spec/14 R379). -/
def Req.wf (r : Req) : Bool := r.payload.wf && decide (r.payload.len ≤ 256)

/-- The first of two LIM prefixes has zero in its bits 25 to 22 (spec/02 R49). -/
def limWf : Lim → Bool
  | .two top _ => decide (top.extractLsb' 22 4 = 0)
  | _ => true

/-- A decoder corrects one or two bytes of a block (spec/01 R35); what an injection altered the device itself knows (spec/18 R473). -/
def BlockResult.wf : BlockResult → Bool
  | .corrected n => decide (1 ≤ n) && decide (n ≤ 2)
  | .provoked _ _ => false
  | _ => true

/-- Upstream blocks: 12 phase currents, 4 string channels, 7 incomer channels (spec/12 Table 12-8). -/
def UpBlock.wf : UpBlock → Bool
  | .stage b => decide (b.iPh.length = 12)
  | .battery b => decide (b.iStr.length = 4)
  | .incomer b => decide (b.raw.length = 7)
  | .bad r => r.wf
  | _ => true

/-- A Causeway message's payload is as long as its header says (spec/01 Table 1-1). -/
def CwMsg.wf (m : CwMsg) : Bool := m.payload.wf && decide (m.payload.len = m.plen.toNat)

/-- The feedback lands of two groups (spec/10 R270). -/
def SafeLands.wf (l : SafeLands) : Bool := decide (l.hfb.length = 2) && decide (l.lfb.length = 2)

/-- A CAN frame carries at most 64 bytes (spec/13 R355). -/
def CanFrame.wf (f : CanFrame) : Bool := f.data.wf && decide (f.data.len ≤ 64)

/-- The body of a frame from the mesh head. -/
def MeshRx.wf (m : MeshRx) : Bool := m.body.wf

/-- A host-lane frame's block result and message. -/
def HostFrame.wf (f : HostFrame) : Bool := f.block.wf && f.msg.wf

/-- The byte string an image was read from. -/
def Image.wf (i : Image) : Bool := i.raw.wf

/-- Whether a command is well formed. -/
def Instr.wf : Instr → Bool
  | .causewayMessageReceived _ _ _ msg block => msg.wf && block.wf
  | .lack _ _ _ => true
  | .lnak _ _ _ => true
  | .lackTimeout _ _ => true
  | .linkSwitchover _ => true
  | .bitLockLoss _ _ => true
  | .linkBDown _ => true
  | .linkBRetrain _ _ => true
  | .status _ _ _ => true
  | .statusSend _ _ => true
  | .hostAbsent _ => true
  | .time _ _ _ _ _ => true
  | .mark _ _ _ => true
  | .hsyncEdge _ _ => true
  | .rtcSecondMark _ _ => true
  | .siteTimeHoldover _ => true
  | .fieldClockFallback _ => true
  | .resetWarm _ _ _ => true
  | .resetCold _ _ _ => true
  | .rstN _ _ => true
  | .pfail _ _ => true
  | .bulk _ _ _ _ _ data => data.wf
  | .keyReq _ _ _ _ _ data => data.wf
  | .keyRsp _ _ _ result => result.wf
  | .eccCounterCheckpoint _ => true
  | .add _ _ _ _ => true
  | .sub _ _ _ _ => true
  | .addw _ _ _ _ => true
  | .subw _ _ _ _ => true
  | .and _ _ _ _ => true
  | .or _ _ _ _ => true
  | .xor _ _ _ _ => true
  | .andn _ _ _ _ => true
  | .orn _ _ _ _ => true
  | .xnor _ _ _ _ => true
  | .sll _ _ _ _ => true
  | .srl _ _ _ _ => true
  | .sra _ _ _ _ => true
  | .ror _ _ _ _ => true
  | .slt _ _ _ _ => true
  | .sltu _ _ _ _ => true
  | .min _ _ _ _ => true
  | .max _ _ _ _ => true
  | .minu _ _ _ _ => true
  | .maxu _ _ _ _ => true
  | .clz _ _ _ => true
  | .ctz _ _ _ => true
  | .popc _ _ _ => true
  | .sextb _ _ _ => true
  | .sexth _ _ _ => true
  | .sextw _ _ _ => true
  | .zextw _ _ _ => true
  | .addi _ _ _ _ lim => limWf lim
  | .slti _ _ _ _ lim => limWf lim
  | .sltiu _ _ _ _ lim => limWf lim
  | .andi _ _ _ _ lim => limWf lim
  | .ori _ _ _ _ lim => limWf lim
  | .xori _ _ _ _ lim => limWf lim
  | .slli _ _ _ _ => true
  | .srli _ _ _ _ => true
  | .srai _ _ _ _ => true
  | .mul _ _ _ _ => true
  | .mulhi _ _ _ _ => true
  | .mulhiu _ _ _ _ => true
  | .muls32 _ _ _ _ => true
  | .mulu32 _ _ _ _ => true
  | .dvs _ _ _ _ => true
  | .dvu _ _ _ _ => true
  | .mds _ _ _ _ => true
  | .mdu _ _ _ _ => true
  | .aclr _ _ => true
  | .amul _ _ _ _ => true
  | .amac _ _ _ _ => true
  | .amsu _ _ _ _ => true
  | .amul2 _ _ _ _ => true
  | .amac2 _ _ _ _ => true
  | .ashl _ _ _ => true
  | .ashr _ _ _ => true
  | .aext _ _ _ _ _ => true
  | .aextd _ _ _ _ _ => true
  | .agetl _ _ _ => true
  | .ageth _ _ _ => true
  | .aput _ _ _ _ => true
  | .qadd _ _ _ _ => true
  | .qsub _ _ _ _ => true
  | .qmul _ _ _ _ => true
  | .qneg _ _ _ => true
  | .qabs _ _ _ => true
  | .beq _ _ _ _ _ => true
  | .bne _ _ _ _ _ => true
  | .blt _ _ _ _ _ => true
  | .bge _ _ _ _ _ => true
  | .bltu _ _ _ _ _ => true
  | .bgeu _ _ _ _ _ => true
  | .bbs _ _ _ _ _ => true
  | .bbc _ _ _ _ _ => true
  | .j _ _ => true
  | .jal _ _ => true
  | .jalr _ _ _ _ lim => limWf lim
  | .lb _ _ _ _ lim ecc => limWf lim && ecc.wf
  | .lbu _ _ _ _ lim ecc => limWf lim && ecc.wf
  | .lh _ _ _ _ lim ecc => limWf lim && ecc.wf
  | .lhu _ _ _ _ lim ecc => limWf lim && ecc.wf
  | .lw _ _ _ _ lim ecc => limWf lim && ecc.wf
  | .lwu _ _ _ _ lim ecc => limWf lim && ecc.wf
  | .ld _ _ _ _ lim ecc => limWf lim && ecc.wf
  | .sb _ _ _ _ lim ecc => limWf lim && ecc.wf
  | .sh _ _ _ _ lim ecc => limWf lim && ecc.wf
  | .sw _ _ _ _ lim ecc => limWf lim && ecc.wf
  | .sd _ _ _ _ lim ecc => limWf lim && ecc.wf
  | .casd _ _ _ _ ecc => ecc.wf
  | .swpd _ _ _ _ ecc => ecc.wf
  | .faddd _ _ _ _ ecc => ecc.wf
  | .fsatd _ _ _ _ ecc => ecc.wf
  | .fandd _ _ _ _ ecc => ecc.wf
  | .ford _ _ _ _ ecc => ecc.wf
  | .fmaxd _ _ _ _ ecc => ecc.wf
  | .fmind _ _ _ _ ecc => ecc.wf
  | .xsend _ _ _ _ _ => true
  | .xrecv _ _ _ _ _ _ => true
  | .xrecvReturn _ _ => true
  | .xpoll _ _ _ _ _ => true
  | .xcall _ _ _ _ _ => true
  | .xcallAccept _ _ => true
  | .xcallDeadline _ _ => true
  | .xcallResult _ _ => true
  | .xret _ _ _ => true
  | .eprop _ _ _ _ _ => true
  | .eretr _ _ _ _ => true
  | .eqry _ _ _ _ => true
  | .rdst _ _ _ => true
  | .waitd _ _ _ _ => true
  | .waitdReturn _ _ => true
  | .darm _ _ _ => true
  | .ddis _ _ _ => true
  | .deadlineInterrupt _ _ => true
  | .gdis _ _ => true
  | .gen _ => true
  | .reti _ => true
  | .setpri _ _ => true
  | .cwr _ _ _ => true
  | .cww _ _ _ _ => true
  | .nop _ => true
  | .trap _ _ => true
  | .fence _ => true
  | .fencee _ => true
  | .halt _ _ => true
  | .haltWake _ _ => true
  | .brk _ => true
  | .effectQueueDrain _ _ => true
  | .coreStatusReadClear _ _ _ _ => true
  | .interruptEntry _ _ => true
  | .gateEntry _ _ => true
  | .roundaboutEdge _ _ => true
  | .levelSourceChange _ _ _ => true
  | .irqConfigWrite r => r.wf
  | .imageLoad _ _ img => img.wf
  | .illegalInstruction _ _ => true
  | .kerbStart _ => true
  | .epochStart _ => true
  | .activationInstant _ => true
  | .vNowRefresh _ => true
  | .closingPoint _ => true
  | .inputChangeReclamp _ => true
  | .allocConfigWrite r => r.wf
  | .allocSiteWrite r => r.wf
  | .availFallback _ => true
  | .fastPathEngage _ => true
  | .sampleBlock _ _ blk => blk.wf
  | .slotUpdate _ _ blk _ => blk.res.wf
  | .phaseShed _ _ => true
  | .ctlSlotWrite r => r.wf
  | .precheckTimeout _ _ => true
  | .softStartHalfCheck _ _ => true
  | .backoffElapsed _ _ => true
  | .prechargeTimeout _ _ => true
  | .controlledStopTimeout _ _ => true
  | .dischargeTimeout _ _ => true
  | .heatsinkTempTimeout _ _ => true
  | .releaseHeld r => r.wf
  | .releaseFailedPhase r => r.wf
  | .cableModelStep _ _ => true
  | .deratePublish _ _ => true
  | .postRunEnd _ _ => true
  | .chillHold _ _ => true
  | .lossOfFlow _ _ => true
  | .modelDisagrees _ _ => true
  | .coolantSensorLost _ _ => true
  | .contactSensorLost _ _ => true
  | .outletHeadLost _ _ => true
  | .fallbackEnd _ _ => true
  | .coolOutletWrite r => r.wf
  | .slowRound _ readings _ _ _ => decide (readings.inputs.length = 46)
  | .fastRound _ readings => decide (readings.length = 46)
  | .sensorVoteOut _ _ => true
  | .orderlyStopEnd _ => true
  | .sensorRestore r => r.wf
  | .sampleIndex _ => true
  | .gapBegin _ _ => true
  | .gapEnd _ _ => true
  | .gapStopRequest _ _ => true
  | .shuntTempStale _ _ => true
  | .lineCycleEnd _ => true
  | .syntheticBoundary _ => true
  | .outletTick _ => true
  | .compatLatch _ _ => true
  | .reversePowerOutlet _ _ => true
  | .reversePowerIncomer _ => true
  | .wrongPhaseSequence _ => true
  | .missingNeutral _ => true
  | .phaseLoss _ => true
  | .feederTrip _ => true
  | .feederTripClear _ => true
  | .metrologyEventEnd _ _ => true
  | .pfailfNFall _ => true
  | .residualRecord _ => true
  | .pfailfNRise _ => true
  | .powerFailHold _ => true
  | .internalPowerFailWarning _ => true
  | .sealBreak r => r.wf
  | .reseal r => r.wf
  | .sealTimeout _ => true
  | .calibrationWrite r _ => r.wf
  | .calibrationApply _ _ => true
  | .mpulse _ => true
  | .meterPulseWrite r => r.wf
  | .timeSet r => r.wf
  | .timeOffsetWrite r => r.wf
  | .timeConfigWrite r => r.wf
  | .rtcTrim _ => true
  | .activate r => r.wf
  | .closePeriod r => r.wf
  | .resend r => r.wf
  | .receiptSend _ _ => true
  | .legalExchangeUpdate _ => true
  | .gateRate _ => true
  | .gateLegalSession _ => true
  | .gateDemand _ => true
  | .tamperCheck _ _ _ _ => true
  | .tamperLoopOpen _ _ => true
  | .pilotClass _ _ => true
  | .cmSlacParm _ _ _ => true
  | .cmStartAttenChar _ _ _ => true
  | .cmMnbcSound _ _ _ => true
  | .cmAttenChar _ _ => true
  | .cmSlacMatch _ _ => true
  | .cmSetKey _ _ _ => true
  | .linkEstablished _ _ => true
  | .sdp _ _ _ _ => true
  | .tcpConnect _ _ _ => true
  | .tlsHandshake _ _ _ => true
  | .tcpLost _ _ => true
  | .supportedAppProtocol _ _ _ => true
  | .authorizationReq _ _ _ _ _ => true
  | .parameterExchange _ _ _ => true
  | .cableCheckReq _ _ _ => true
  | .preChargeReq _ _ _ => true
  | .powerDeliveryReq _ _ _ => true
  | .chargeLoopReq _ _ _ => true
  | .weldingDetectionReq _ _ => true
  | .sessionStopReq _ _ => true
  | .certificateInstallationReq _ _ => true
  | .pauseReq _ _ => true
  | .tSlac _ _ => true
  | .pilotRetryEnd _ _ => true
  | .tSetup _ _ => true
  | .tSeq _ _ => true
  | .tAuth _ _ => true
  | .tCc _ _ => true
  | .tWeld _ _ => true
  | .authorize r => r.wf
  | .deny r => r.wf
  | .stop r => r.wf
  | .releaseWelded r => r.wf
  | .gateSession _ => true
  | .gateAuthorize _ => true
  | .gateStop _ => true
  | .hold _ _ => true
  | .energise _ _ => true
  | .precharge _ _ => true
  | .contactorsClosed _ _ => true
  | .controlledStop _ _ => true
  | .immediateStop _ _ => true
  | .openContactors _ _ => true
  | .unlock _ _ => true
  | .heartbeatLapse _ _ => true
  | .safetyCycle _ _ lands _ _ => lands.wf
  | .partnerRecordTimeout _ _ => true
  | .discrepancy _ _ => true
  | .sresetStuck _ => true
  | .soSwitchOnCheck _ _ _ _ => true
  | .darkTest _ _ _ _ _ => true
  | .safeDataItem _ _ _ => true
  | .safeDataAbsence _ _ => true
  | .safeDataWatchdog _ _ => true
  | .safeDataSend _ _ => true
  | .contactorClosingWithdrawn _ _ => true
  | .weldVerdict _ _ => true
  | .contactorDiscrepancy _ _ => true
  | .sf6DischargeTimeout _ _ => true
  | .commit r => r.wf
  | .safetyStop r => r.wf
  | .safetyRelease r => r.wf
  | .clearGroup r => r.wf
  | .clearChan r => r.wf
  | .st _ _ _ _ _ _ _ => true
  | .mv _ _ _ v => decide (v.length = 4)
  | .mt _ _ _ temps => decide (temps.length = 8)
  | .sn _ _ _ => true
  | .estimatorStep _ => true
  | .currentGap _ _ => true
  | .stringOut _ _ => true
  | .restPoint _ _ => true
  | .polarisationFit _ _ => true
  | .idleCheck _ _ => true
  | .limitPublish _ => true
  | .estStateWrite r => r.wf
  | .battStringWrite r => r.wf
  | .terminationDetected _ _ => true
  | .ta _ _ _ _ => true
  | .tb _ _ _ _ => true
  | .trainTimeout _ _ => true
  | .lockAchieved _ _ _ => true
  | .lockTimeout _ _ => true
  | .hopRecord _ _ _ => true
  | .parleyTimeout _ _ => true
  | .lossOfLock _ _ _ => true
  | .retrainTimeout _ _ => true
  | .genchg _ _ _ => true
  | .genchgTimeout _ _ => true
  | .avenueFormation _ _ => true
  | .discover _ _ _ => true
  | .echo _ _ _ _ _ => true
  | .headRecord _ _ _ _ => true
  | .frame _ _ => true
  | .frameReturn _ _ f => f.header.wf
  | .hopBroken _ _ _ => true
  | .split _ _ _ => true
  | .heal _ _ _ => true
  | .avenueDegraded _ _ => true
  | .mailboxMessage _ _ _ body _ => body.wf
  | .mailboxDoorbell _ _ => true
  | .hostLaneFrame _ _ f => f.wf
  | .laneRetrain r => r.wf
  | .reformAvenue r => r.wf
  | .avenueConfigWrite r => r.wf
  | .nodeEntryWrite r => r.wf
  | .nodeBlobWrite r => r.wf
  | .nodeHeartbeat _ _ => true
  | .nodeTimeout _ _ => true
  | .reconcileTimeout _ _ => true
  | .reconcile r => r.wf
  | .digestRequest r => r.wf
  | .canFrame _ _ f => f.wf
  | .canConfigReply _ _ _ _ _ _ => true
  | .canBufferLock _ _ _ _ _ => true
  | .canBufferRelease _ _ _ _ _ => true
  | .canLockTimeout _ _ _ => true
  | .canDoorbell _ _ => true
  | .canTransmitEnd _ _ _ => true
  | .canDeadline _ _ => true
  | .busOff _ _ _ => true
  | .busRecovery _ _ => true
  | .recover r => r.wf
  | .rxInd _ m => m.wf
  | .txConf _ _ _ => true
  | .busy _ _ => true
  | .toneMapRefresh _ _ _ _ _ => true
  | .refreshToneMaps r => r.wf
  | .bootstrap _ _ _ => true
  | .gmkRenewal _ => true
  | .routeRepair _ _ => true
  | .routeWaitTimeout _ => true
  | .meshDoorbell _ _ => true
  | .meshRxLock _ _ _ _ => true
  | .meshRxRelease _ _ _ _ => true
  | .meshConfigWrite r => r.wf
  | .read r _ _ => r.wf
  | .write r _ => r.wf
  | .writeif r _ => r.wf
  | .subscribe r _ _ => r.wf
  | .notify _ _ => true
  | .notifyResend _ _ _ => true
  | .hostAck _ _ _ _ _ => true
  | .credit _ _ _ _ _ => true
  | .linkUp _ _ => true
  | .spiWrite _ _ => true
  | .spiRead _ => true
  | .spiStatus _ => true
  | .consoleFrame _ _ => true
  | .consoleEnable r => r.wf
  | .consoleDisable r => r.wf
  | .consoleTimeout _ => true
  | .portBindWrite r => r.wf
  | .generate r => r.wf
  | .importPlain r => r.wf
  | .importWrapped r => r.wf
  | .delete r => r.wf
  | .publicPoint r => r.wf
  | .pralineWrite r => r.wf
  | .provision r => r.wf
  | .sealDevice r => r.wf
  | .approve r => r.wf
  | .approvalLapse _ => true
  | .unsealDevice r => r.wf
  | .returnDevice r => r.wf
  | .scrap r => r.wf
  | .croquemboucheRecompute _ => true
  | .attestRequest r => r.wf
  | .changeStatement _ => true
  | .checkpoint _ _ => true
  | .journalAppend _ _ => true
  | .journalMigration _ _ => true
  | .hotTierScrub _ _ => true
  | .coldTierScrub _ _ => true
  | .deepCheckpoint _ => true
  | .quotaReset _ => true
  | .sramScrub _ _ _ res => res.wf
  | .takeover _ _ => true
  | .approveTakeover r => r.wf
  | .clearFailureMark r => r.wf
  | .durableRead r => r.wf
  | .powerGood _ _ _ _ _ => true
  | .bootComplete _ => true
  | .autoService _ => true
  | .service r => r.wf
  | .standby r => r.wf
  | .maintenance r => r.wf
  | .leaveMaintenance r => r.wf
  | .maintenanceTimeout _ => true
  | .leaveSafeHold r => r.wf
  | .warmReset r => r.wf
  | .coldReset r => r.wf
  | .supplyWarning _ _ => true
  | .vbatLow _ => true
  | .pfailhNFall _ => true
  | .pfailhNRise _ => true
  | .watchdogKick _ _ => true
  | .hostWatchdog _ => true
  | .fieldWatchdog _ => true
  | .supervisorReset _ _ _ => true
  | .railFault _ _ => true
  | .hostPllLockLost _ => true
  | .stageWrite r => r.wf
  | .check r => r.wf
  | .partitionActivate r => r.wf
  | .injectStart r => r.wf
  | .injectionStop r => r.wf
  | .injectionExpiry _ _ => true
  | .injectionLimit _ _ => true
  | .reorderRelease _ _ => true
  | .internalPowerFailWarningEnd _ => true
  | .supplyWarningClear _ _ => true
  | .vbatLowClear _ => true
  | .hostResetEnd _ _ => true
  | .fieldSideAbsent _ => true

end Sys2Proof
end

