-- ==== Sys2Proof/Tests/Slice0.lean ====
section
/-! SUPPORT. Tests of one step each: ill-formed terms refused, worked examples of the spec, and for each statement a concrete state that meets
the hypotheses of its clauses. -/

namespace Sys2Proof.Tests

-- One theorem at a time: each waits for the kernel to finish what stands before it, and as many waiting threads as theorems ask for more memory
-- than a check has.
set_option Elab.async false

open Sys2Proof Sys2Proof.Machine

/-! ### Well-formedness: one ill-formed term for each check, and a well-formed one beside it -/

/-- A host request of `n` payload bytes holding `v`. -/
def req (n v : Nat) : Req := ⟨0, 4, 1, 0, ⟨n, v⟩⟩

theorem test_wf_payload : (Instr.keyReq 0 8 .cmac 0 1 ⟨1, 256⟩).wf = false ∧ (Instr.keyReq 0 8 .cmac 0 1 ⟨1, 255⟩).wf = true
    ∧ (Instr.bulk 0 .field 0 0 true ⟨0, 1⟩).wf = false ∧ (Instr.keyRsp 0 1 0 ⟨1, 256⟩).wf = false
    ∧ (Instr.mailboxMessage 0 0 0 ⟨1, 256⟩ true).wf = false := by decide +kernel
theorem test_wf_request : (Instr.reseal (req 257 0)).wf = false ∧ (Instr.reseal (req 1 256)).wf = false ∧ (Instr.reseal (req 256 0)).wf = true := by decide +kernel
theorem test_wf_lim : (Instr.addi 0 1 2 3 (.two 0x400000 0)).wf = false ∧ (Instr.addi 0 1 2 3 (.two 0x3FFFFF 0)).wf = true
    ∧ (Instr.jalr 0 1 2 3 (.two 0x2000000 0)).wf = false ∧ (Instr.lw 0 1 2 3 (.two 0x400000 0) .clean).wf = false := by decide +kernel
theorem test_wf_block : (Instr.lw 0 1 2 3 .none (.corrected 3)).wf = false ∧ (Instr.swpd 0 1 2 3 (.corrected 0)).wf = false
    ∧ (Instr.sd 0 1 2 3 .none (.corrected 2)).wf = true := by decide +kernel
theorem test_wf_causeway : (Instr.causewayMessageReceived 0 .field 0 ⟨7, 0, false, 1, 4, 0, ⟨3, 0⟩⟩ .clean).wf = false
    ∧ (Instr.causewayMessageReceived 0 .field 0 ⟨7, 0, false, 1, 4, 0, ⟨4, 0⟩⟩ .clean).wf = true
    ∧ (Instr.causewayMessageReceived 0 .field 0 ⟨7, 0, false, 1, 4, 0, ⟨4, 0⟩⟩ (.corrected 9)).wf = false := by decide +kernel
theorem test_wf_sample : (Instr.sampleBlock 0 0 (.stage ⟨false, false, false, false, 0, 0, 0, 0, []⟩)).wf = false
    ∧ (Instr.sampleBlock 0 0 (.stage ⟨false, false, false, false, 0, 0, 0, 0, List.replicate 12 0⟩)).wf = true
    ∧ (Instr.sampleBlock 0 0 (.bad (.corrected 5))).wf = false := by decide +kernel
theorem test_wf_rounds : (Instr.slowRound 0 ⟨[], []⟩ 0 0 0).wf = false ∧ (Instr.fastRound 0 []).wf = false
    ∧ (Instr.slowRound 0 ⟨List.replicate 46 none, []⟩ 0 0 0).wf = true := by decide +kernel
theorem test_wf_lands : (Instr.safetyCycle 0 .sa ⟨false, false, false, false, false, [], [true, true]⟩ false false).wf = false ∧ (Instr.safetyCycle 0 .sa ⟨false, false, false, false, false, [true, true], [true]⟩ false false).wf = false := by decide +kernel
theorem test_wf_strings : (Instr.mv 0 0 0 [1, 2, 3]).wf = false ∧ (Instr.mt 0 0 0 []).wf = false ∧ (Instr.mv 0 0 0 [1, 2, 3, 4]).wf = true := by decide +kernel
theorem test_wf_frames : (Instr.canFrame 0 0 ⟨false, true, false, 0, 15, ⟨65, 0⟩, true⟩).wf = false
    ∧ (Instr.hostLaneFrame 0 0 ⟨.corrected 4, none, true, 0, true, ⟨0, 0⟩⟩).wf = false ∧ (Instr.hostLaneFrame 0 0 ⟨.clean, none, true, 0, true, ⟨0, 1⟩⟩).wf = false := by decide +kernel

/-! ### Decoding: no row of the table has bits (spec's table of steps) -/

theorem test_decode_none : decodeTableWord 0 0 = none ∧ decodeTableWord 32 0xFFFFFFFF = none := by decide +kernel
theorem test_fetch_keeps : State.reset.withFetchWord 32 5 = State.reset := by decide +kernel

/-! ### Vectors of the spec -/

/-- The state a step answers. -/
def after (r : Res) : State := match r with | .next t => t | _ => State.reset

/-- Core `c` executing with the registers given. -/
def cpu (c : Nat) (regs : Tab Word) : State := State.reset.setCore c { Core.reset with run := .running, regs := regs }

/-- R35's worked vector: the block of c31 = 1 with c33 corrupted is corrected. -/
theorem test_code36_example :
    checkBytes (List.replicate 31 0 ++ [1]) = [0x0F, 0x36, 0x78, 0x40]
    ∧ correctC2 (List.replicate 31 0 ++ [1, 0x0F, 0x37, 0x78, 0x40]) = some (List.replicate 31 0 ++ [1, 0x0F, 0x36, 0x78, 0x40], 1) := by
  decide +kernel

/-- R50's example: LIM 0x1234567 and ADDI g7, g0, 0x89AB. -/
theorem test_lim_addi : ((after (exec (.addi 0 7 0 0x89AB (.one 0x1234567)) (cpu 0 []))).core 0).reg 7 = 0x123456789AB
    ∧ ((after (exec (.addi 0 7 0 0x89AB .none) (cpu 0 []))).core 0).reg 7 = 0xFFFFFFFFFFFF89AB := by decide +kernel
/-- R50: the example's words are instructions or a prefix; the word zero and an unused field that is not zero are none. -/
theorem test_legal_words : primelLegal 0x04E089AB = true ∧ primelLegal 0 = false ∧ primelLegal 0xFD234567 = false ∧ primelLegal 0x00E00020 = true
    ∧ primelLegal 0x00E00820 = false := by decide +kernel
/-- R54's example: AMUL, AMAC, AEXT by 28 saturates, AEXT by 31 does not. -/
def mac : State := after (exec (.amac 1 0 12 13) (after (exec (.amul 1 0 10 11) (cpu 1 [(10, 0x18000000), (11, 0x60000000), (12, 0x08000000), (13, 0x20000000)]))))
theorem test_mac : (mac.core 1).acc 0 = 0x0A00000000000000 := by decide +kernel
theorem test_aext_saturates : ((after (exec (.aext 1 14 0 28 2) mac)).core 1).reg 14 = 0x7FFFFFFF
    ∧ Tab.get ((after (exec (.aext 1 14 0 28 2) mac)).core 1).cw 17 0 = 16 := by decide +kernel
theorem test_aext : ((after (exec (.aext 1 15 0 31 2) mac)).core 1).reg 15 = 0x14000000
    ∧ Tab.get ((after (exec (.aext 1 15 0 31 2) mac)).core 1).cw 17 0 = 0 := by decide +kernel
/-- Table 2-7: what 2.5 and −2.5 round to in each mode. -/
theorem test_rounding : [0, 1, 2, 3].map (fun m => (roundShift m 1 5, roundShift m 1 (-5))) = [(2, -3), (3, -2), (2, -2), (2, -2)] := by decide +kernel
/-- R53: the corners of division. -/
theorem test_division : ((after (exec (.dvs 0 3 1 2) (cpu 0 [(1, 0x8000000000000000), (2, 0xFFFFFFFFFFFFFFFF)]))).core 0).reg 3 = 0x7FFFFFFFFFFFFFFF
    ∧ ((after (exec (.dvs 0 3 1 2) (cpu 0 [(1, 5)]))).core 0).reg 3 = 0x7FFFFFFFFFFFFFFF
    ∧ ((after (exec (.dvs 0 3 1 2) (cpu 0 [(1, 0xFFFFFFFFFFFFFFF9), (2, 2)]))).core 0).reg 3 = 0xFFFFFFFFFFFFFFFC
    ∧ ((after (exec (.mds 0 3 1 2) (cpu 0 [(1, 0xFFFFFFFFFFFFFFF9), (2, 2)]))).core 0).reg 3 = 1 := by decide +kernel
/-- R38, R5: a store of a byte pattern read back in another width, least significant byte first; g0 stays zero. -/
theorem test_store_load : ((after (exec (.lh 0 3 1 2 .none .clean) (after (exec (.sd 0 2 1 0 .none .clean) (cpu 0 [(1, 0x20000), (2, 0x8877665544332211)]))))).core 0).reg 3 = 0x4433
    ∧ ((after (exec (.add 0 0 2 2) (cpu 0 [(2, 1)]))).core 0).reg 0 = 0 := by decide +kernel

/-! ### States that meet the hypotheses of the statements: Primel cores -/

/-- A core executing an image with one channel, one grant, one import and one export. -/
def withImage (c : Nat) (regs : Tab Word) : State :=
  State.reset.setCore c { Core.reset with run := .running, regs := regs, image := some { kind := 0, imgVer := 1, digest := 0, exports := [⟨0x80, 1, true, 5, 0x100⟩], imports := [⟨0x00, 1⟩], chans := [⟨1, 2, true, true, 4, 64⟩, ⟨2, 0x83, true, false, 4, 64⟩, ⟨3, 2, false, true, 4, 64⟩], grants := [⟨0x40300000, 1, true, true⟩, ⟨0x40400000, 5, true, true⟩] } }

/-- The queue has a front, or is empty. -/
theorem test_met_step : ({ State.reset with pending := [.nop 0] } : State).pending = [.nop 0] ∧ State.reset.pending = [] := by decide +kernel
/-- A core that runs with one, two or three words before it, at the lowest and the highest address. -/
theorem test_met_canRun : canRun (cpu 0 []) 0 1 ∧ canRun (cpu 5 []) 5 3 ∧ canRun ((cpu 0 []).setCore 0 { (cpu 0 []).core 0 with pc := 0x1FFF8 }) 0 1
    ∧ (0x3FFFFF#26).extractLsb' 22 4 = 0 ∧ limOk (.two 0x3FFFFF 0) = true := by unfold canRun; decide +kernel
/-- The values at which the clauses of CountAndShiftRule and DivisionRule part. -/
theorem test_met_values : (0 : Word) = 0 ∧ (1 : Word) ≠ 0 ∧ (0x8000000000000000 : Word).toInt = -(2 ^ 63) ∧ (0xFFFFFFFFFFFFFFFF : Word).toInt = -1
    ∧ 0 < (2 : Word).toInt ∧ (0xFFFFFFFFFFFFFFFE : Word).toInt < 0 := by decide +kernel
/-- Targets of branches inside instruction SRAM. -/
theorem test_met_branch : (((cpu 0 []).core 0).pc + BitVec.ofInt 32 (4 * (5 : BitVec 16).toInt)).toNat < imemSize ∧ ((0x1FFFC : Word) &&& ~~~(3 : Word)).toNat < imemSize := by
  decide +kernel
/-- A core outside a handler and one inside; a word that is no instruction. -/
theorem test_met_exception : ((cpu 0 []).core 0).inHandler = false ∧ (((cpu 0 []).core 0).setCwd 0 8).inHandler = true ∧ primelLegal 0xFFFFFFFF = false := by decide +kernel
/-- A load, a store and an atomic of aligned bytes in data SRAM with a clean block, and with one beyond correction. -/
theorem test_met_access : let s := cpu 0 [(1, 0x3FFF8)]
    let k := s.core 0
    isEffect 0x3FFF8 = false ∧ isMailbox 0x3FFF8 = false ∧ k.mayLoad 0 0x3FFF8 = true ∧ k.mayStore 0 0x3FFF8 = true ∧ (s.block 0 0x3FFF8 .clean).2 = none
      ∧ (s.block 0 0x3FFF8 .uncorrectable).2 = some 6 ∧ isDataSram 0x3FFF8 = true ∧ k.eq = [] := by decide +kernel
/-- Misaligned, without right, too narrow for effect space. -/
theorem test_met_fault : let k := (cpu 0 []).core 0
    0x20001 % 2 ≠ 0 ∧ k.mayStore 0 0x1FFF8 = false ∧ k.mayLoad 0 0x40000000 = false ∧ isEffect 0x40000000 = true
      ∧ (isDataSram 0x100 || isBoulevard 0x100) = false ∧ k.mayStore 0 0x20600000 = false ∧ isBoulevard 0x20600000 = true := by decide +kernel
/-- Effect space and mailbox pages granted to a core. -/
theorem test_met_effect : let s := withImage 0 []
    let k := s.core 0
    k.mayLoad 0 0x40300000 = true ∧ k.mayStore 0 0x40403000 = true ∧ storeRefused 0x40403000 4 = false ∧ k.granted (0x40300000 + 8 * 3) false = true
      ∧ (s.effectRead 0 0x40300000 8).isSome = true ∧ (s.effectRead 0 0x40300000 4).isSome = true ∧ ∀ w, Tab.get k.rc w 0 < 2 ^ 64 := by
  refine ⟨by decide +kernel, by decide +kernel, by decide +kernel, by decide +kernel, by decide +kernel, by decide +kernel, fun w => ?_⟩
  show (0 : Nat) < 2 ^ 64; decide
/-- A mailbox page granted for loading, to a kind that may have it. -/
theorem test_met_mailbox : ({ Core.reset with image := some { kind := 1, imgVer := 1, digest := 0, exports := [], imports := [], chans := [], grants := [⟨0x50000000, 1, true, true⟩] } } : Core).mayLoad 3 0x50000100 = true := by decide +kernel
/-- An effect queue that holds a store to a tool page, that is full, and that is empty. -/
theorem test_met_queue : let e : EqEntry := ⟨0x40210000, true, 1⟩
    0x40200000 ≤ e.addr ∧ e.addr < 0x40220000 ∧ 32 ≤ (List.replicate 32 e).length ∧ [e].length < 32 := by decide +kernel

/-- XSEND's clauses: lengths up to and above the maximum, a host object, a peer that runs, has room, is full, is not there. -/
theorem test_met_send : let k := (withImage 0 []).core 0
    k.chan 1 = some ⟨1, 2, true, true, 4, 64⟩ ∧ k.chan 2 = some ⟨2, 0x83, true, false, 4, 64⟩ ∧ k.chan 9 = none ∧ k.chan 3 = some ⟨3, 2, false, true, 4, 64⟩
      ∧ (0x83 : BitVec 8).toNat - 0x80 = 3 ∧ 0x20000 % 8 = 0 ∧ 0x3FEF0 + 271 ≤ 0x3FFFF ∧ (withImage 0 []).physical 2 = 2 ∧ (withImage 0 []).logical 0 = 0 := by decide +kernel
theorem test_met_send_peer : let m : ChanMsg := ⟨1, ⟨1, 7⟩⟩
    let k : Core := { Core.reset with run := .running, image := some { kind := 0, imgVer := 1, digest := 0, exports := [], imports := [], chans := [⟨1, 0, true, true, 4, 64⟩], grants := [] }, queues := [(1, [m, m, m, m])] }
    k.chan 1 = some ⟨1, 0, true, true, 4, 64⟩ ∧ k.alive = true ∧ 4 ≤ (k.queue 1).length ∧ ({ k with queues := [] }.queue 1).length < 4 ∧ Core.reset.alive = false
      ∧ m.payload.data < 2 ^ (8 * m.payload.len) := by decide +kernel
/-- XRECV and XPOLL with a message at, before and behind the deadline, with none, and waiting. -/
theorem test_met_receive : let m : ChanMsg := ⟨100, ⟨1, 7⟩⟩
    let k : Core := { (withImage 0 []).core 0 with queues := [(1, [m])], run := .xrecv 3 0x20000 1 100 }
    k.queue 1 = [m] ∧ m.stamp ≤ 100 ∧ 99 < m.stamp ∧ k.queue 3 = [] ∧ k.run = .xrecv 3 0x20000 1 100 ∧ k.pc.toNat + 4 < imemSize ∧ 100 + 40 ≤ 140 ∧ 139 < 100 + 40 := by decide +kernel
/-- Gates: an import and none, its server with the export, with room and full; a call out with its result, late, accepted by an effecting gate. -/
theorem test_met_gate : let s := withImage 0 []
    let k := s.core 0
    let e : Export := ⟨0, 1, true, 5, 0x100⟩
    let r : GateReq := ⟨0, [1, 2, 3, 4, 5, 6], 10, 20⟩
    let srv : Core := { Core.reset with run := .running, image := some { kind := 1, imgVer := 1, digest := 0, exports := [e], imports := [], chans := [], grants := [] }, gateQ := [(0, [r, r, r, r])], cw := [(0, 0x100)] }
    k.xcallOut = false ∧ (k.image.any fun i => i.imports.any fun x => x.gate.toNat == 0) = true ∧ gateServer 0 = 3 ∧ s.physical 3 = 3 ∧ srv.exportOf 0 = some e ∧ srv.alive = true
      ∧ 4 ≤ (srv.gateReqs 0).length ∧ srv.gateReqs 1 = [] ∧ srv.ie = true ∧ srv.inHandler = false ∧ srv.inGate = false ∧ srv.serving = none ∧ 20 ≤ r.deadline
      ∧ (k.setCwd 0 2).xcallOut = true := by decide +kernel
theorem test_met_gate_end : let x : XCall := ⟨0, 5, 0, 10, 20, true, true, none⟩
    let y : XCall := { x with accepted := false, result := some [1, 2, 3, 4] }
    let k : Core := { Core.reset with run := .xcall, call := some x }
    let v : Core := { Core.reset with run := .running, serving := some (0, ⟨0, [], 10, 20⟩), cw := [(0, 4), (2, 0x1FFF8)] }
    k.call = some x ∧ y.result = some [1, 2, 3, 4] ∧ (y.accepted && y.effecting) = false ∧ x.deadline + 40 ≤ 60 ∧ x.pc.toNat + 4 < imemSize
      ∧ v.inGate = true ∧ ((Tab.get v.cw 2 0).setWidth 32 : Addr).toNat < imemSize := by decide +kernel
/-- Waits: deadlines to come and past, wakes by an interrupt and by a channel, a halted core. -/
theorem test_met_wait : let m : ChanMsg := ⟨90, ⟨1, 7⟩⟩
    let k : Core := { (withImage 0 []).core 0 with queues := [(1, [m])], run := .waitd 3 100, cw := [(21, 2)] }
    let s : State := ((State.reset.setCore 0 k).put irqPending 1 1).put irqTargets 1 1
    k.chanStamps = [90] ∧ (90 : Nat) ∈ ([90] : List Nat).filter (· ≤ 100) ∧ Core.reset.chanStamps = [] ∧ State.reset.irqStamps 0 = []
      ∧ s.core 0 = k := by decide +kernel
theorem test_met_irq_wake : let s : State := ((((cpu 0 []).setCore 0 { (cpu 0 []).core 0 with cw := [(0, 0x100)] }).put irqPending 1 1).put irqTargets 1 1).put irqPri 1 5
    (s.irqStamps 0 = [0] ∨ s.irqStamps 0 = []) ∧ s.nextSource 0 = some 1 ∧ (s.core 0).deadlineReady = false ∧ s.targetHalted 1 = false := by decide +kernel
/-- Deadlines armed and passed, with delivery enabled and not. -/
theorem test_met_deadline : let k : Core := { Core.reset with run := .running, cw := [(0, 0x100), (8, 50), (9, 15), (18, 1)] }
    let d : Core := (after (exec (.darm 10 0 1) (cpu 0 [(1, 50)]))).core 0
    d.armed = true ∧ d.deadline = 50 ∧ d.deadline + 40 ≤ 90 ∧ d.running = true ∧ d.ie = false ∧ (d.setCwd 0 0x100).ie = true ∧ (d.setCwd 0 0x100).runPri < (d.setCwd 0 0x100).dpri
      ∧ (∀ src, State.reset.flag irqPending src = false) ∧ k.running = true := by
  refine ⟨by decide +kernel, by decide +kernel, by decide +kernel, by decide +kernel, by decide +kernel, by decide +kernel, by decide +kernel, fun src => rfl, by decide +kernel⟩
/-- Sources of an edge, of a level, counting, pending already, beyond 0x9F. -/
theorem test_met_roundabout : 0xA0 ≤ (0xA0 : BitVec 8).toNat ∧ (0x9F : BitVec 8).toNat < 0xA0 ∧ (State.reset.put irqLevel 5 1).flag irqLevel 5 = true
    ∧ (State.reset.put irqCountEn 5 1).flag irqCountEn 5 = true ∧ (State.reset.put irqPending 5 1).flag irqPending 5 = true := by decide +kernel
/-- Control words inside and outside Table 2-1. -/
theorem test_met_words : (23 : BitVec 8).toNat ≤ 23 ∧ 23 < (24 : BitVec 8).toNat ∧ (17, (0x1F : Word)) ∈ ([(17, 0x1F)] : List (Nat × Word)) ∧ 1 ∈ [1, 3, 8] := by decide +kernel

/-! ### States that meet the hypotheses of the statements: the Kerb, the Causeway, supply, modes, keys, durable state, converters, cooling -/

/-- Reset with the Kerb's epochs under way: epoch 5 in force from 8 ms, epochs 5 to 13 listed. -/
def kerbed : State := { State.reset with kerb := { Kerb.reset with started := true, begun := true, cur := 5, t0 := 8000000, len := 8000000, epochs := (List.range 9).map fun d => (5 + d, { Epoch.zero with num := 5 + d, t0 := 8000000 * (1 + d) }) } }
theorem test_met_kerb : State.reset.kerb.started = false ∧ 0 < State.reset.newLen ∧ kerbed.kerb.t0 + kerbed.kerb.len ≤ 16000000 ∧ kerbed.kerb.cur < 2 ^ 32
    ∧ (kerbed.epoch ((kerbed.kerb.cur + 1) % 2 ^ 32)).isSome = true ∧ kerbed.kerb.t0 + 20000 ≤ 8020000 ∧ kerbed.kerb.activated ≠ 6
    ∧ ((kerbed.epoch 5).any fun r => r.gone.isEmpty) = true ∧ ({ kerbed.kerb with activated := 6 } : Kerb).activated = kerbed.kerb.cur + 1 := by decide +kernel
/-- A proposer with room in the ring, an epoch ahead, a proposal early enough, late, malformed, and another kind of image. -/
theorem test_met_proposal : let s : State := { withImage 0 [] with kerb := kerbed.kerb }
    (s.core 0).kind = 0 ∧ s.ahead 7 = 2 ∧ s.ahead 5 = 0 ∧ 8 < s.ahead 14 ∧ s.kerb.props.length < 64 ∧ 1 + 1000000 ≤ s.t0Ahead 2 ∧ s.t0Ahead 2 < 25999999 + 1000000
      ∧ s.malformed 0 (parseProposal 0 7 0 1) = false ∧ s.malformed 0x4000 (parseProposal 0x4000 7 0 1) = true ∧ (cpu 0 []).core 0 ≠ s.core 0 ∧ (s.epoch 7).isSome = true ∧ 53 < 54
      ∧ s.standing 7 (fun _ => true) = none := by decide +kernel
theorem test_met_standing : let p := parseProposal 0 7 0 1
    ({ State.reset with kerb := { Kerb.reset with props := [p] } } : State).standing 7 (fun _ => true) = some p := by decide +kernel
theorem test_met_closing : State.reset.kerb.begun = false ∧ kerbed.t0Ahead 1 ≤ 15000000 + 1000000 ∧ ((kerbed.epoch (kerbed.epochNo 1)).any (·.closed)) = false
    ∧ (∀ d, 1 ≤ d → d ≤ 8 → ((kerbed.epoch (kerbed.epochNo d)).any (·.closed)) = true ∨ 14999999 + 1000000 < kerbed.t0Ahead d) := by
  refine ⟨by decide +kernel, by decide +kernel, by decide +kernel, ?_⟩
  intro d h1 h2
  have : d = 1 ∨ d = 2 ∨ d = 3 ∨ d = 4 ∨ d = 5 ∨ d = 6 ∨ d = 7 ∨ d = 8 := by omega
  rcases this with rfl | rfl | rfl | rfl | rfl | rfl | rfl | rfl <;> exact .inr (by decide +kernel)
theorem test_met_fallback : let s : State := { State.reset with cway := { State.reset.cway with hostAbsent := true, hostAbsentSince := 5 } }
    s.cway.hostAbsent = true ∧ s.cway.hostAbsentSince + 60000000000 ≤ 60000000005 ∧ 60000000004 < s.cway.hostAbsentSince + 60000000000 := by decide +kernel
/-- Entries of a clamp within their range of priorities. -/
theorem test_met_clamp : ∀ o, o < 12 → (entryOf ([] : List Entry) o).prio ≤ 7 := by
  intro o _
  have : (entryOf ([] : List Entry) o).prio = (entryOf ([] : List Entry) 0).prio := by simp [entryOf]
  rw [this]; decide +kernel

/-- Causeway messages: expected, behind, ahead, of no type, too long, of the kinds apart; kept ones sent. -/
theorem test_met_causeway : let q : Kept := ⟨⟨7, 3, false, 1, 0, 0, ⟨0, 0⟩⟩, 1, true, 10, 10⟩
    let d : CwDir := ⟨4, 0, [q], 0⟩
    State.reset.cway.down = false ∧ 1 ≤ q.msg.ctype.toNat ∧ q.msg.ctype.toNat ≤ 0x0C ∧ (d.expected + 256 - 255) % 256 ≤ 128 ∧ 128 < (d.expected + 256 - 3) % 256
      ∧ 256 < (257 : BitVec 9).toNat ∧ (d.kept.findIdx? fun x => x.msg.lseq.toNat == 3 && x.sent) = some 0 ∧ q.lastAt + 20000 ≤ 20010
      ∧ State.reset.cway.resetAsk = none ∧ d.kept[0]? = some q := by decide +kernel
theorem test_met_bulk : ((0, 0, ⟨0, 0⟩) : Nat × Nat × Payload).1 = 0 ∧ (1 : Nat) ≠ 0 ∧ ((0, 0, ⟨0, 0⟩) : Nat × Nat × Payload).2.1 ≠ 1 := by decide +kernel
theorem test_met_switchover : let s : State := { State.reset with cway := { State.reset.cway with uncorr := List.replicate 17 5 } }
    let t : State := { State.reset with cway := { State.reset.cway with link := 1, down := true, retrainAt := 5 } }
    (s.at 6).cwTrigger 6 = some 2 ∧ s.cway.link = 0 ∧ t.cway.link = 1 ∧ t.cway.down = true ∧ t.cway.retrainAt ≤ 5 ∧ (State.reset.at 1).cwTrigger 1 = none := by decide +kernel
theorem test_met_presence : State.reset.cway.hostHeard + 10000000 ≤ 10000000 ∧ 9999999 < State.reset.cway.hostHeard + 10000000
    ∧ ({ State.reset.sup with fieldUp := true } : Sup).fieldUp = true := by decide +kernel
/-- Marks: none before, inside and outside ±50 ppm of a second, after a gap; time base changes. -/
theorem test_met_time : let k : Clock := { State.reset.clk with lastHsync := some 1000000000, series := some .hsync, accepted := 16 }
    k.lastHsync = some 1000000000 ∧ 1000000000 + 999950000 ≤ 2000000000 ∧ 2000000000 ≤ 1000000000 + 1000050000 ∧ 1999949999 < 1000000000 + 999950000
      ∧ State.reset.clk.lastRtc = none ∧ k.series ≠ some .rtc ∧ State.reset.bill.step = none ∧ k.fallback = false ∧ 16 ≤ k.accepted
      ∧ max (k.lastHsync.getD 0) (k.lastRtc.getD 0) + 2000000000 ≤ 3000000000 ∧ k.trimmedAt + 32000000000 ≤ 32000000000
      ∧ (k.lastHsync.all fun m => decide (m + 2000000000 ≤ 3000000000)) = true ∧ (k.lastHsync.all fun m => decide (m + 2000000000 ≤ 2999999999)) = false
      ∧ ({ k with fallback := true, mark := some 7 } : Clock).mark = some 7 := by decide +kernel

/-- Supply: warnings standing from the field rail and from inside, held for 100 ms, and none. -/
theorem test_met_supply : let u := State.reset.sup
    u.warn = none ∧ u.pfailf = none ∧ u.pfailhLow = false ∧ ({ u with warn := some (5, false) } : Sup).warn = some (5, false) ∧ u.warnHeld = false ∧ u.fieldWarn = false
      ∧ (State.reset.put modeStateMode 0 2).get modeStateMode 0 = 2 ∧ 5 + 100000000 ≤ 100000005 ∧ ({ u with hostServing := true } : Sup).hostServing = true
      ∧ Tab.get u.kicks 0 u.hostUpAt + 100000000 ≤ u.hostUpAt + 100000000 ∧ Tab.get u.kicks 1 u.goodAt + 50000000 ≤ u.goodAt + 50000000
      ∧ 3 ≤ ([3, 2, 1].filter fun x => decide (u.upBase + 4 < x + 3600000000000)).length := by decide +kernel
theorem test_met_reset : (199 : Nat) < 200 ∧ 1000 ≤ (1000 : Nat) ∧ ({ State.reset.sup with hostUp := true, fieldUp := false } : Sup).hostUp = true
    ∧ ({ State.reset.sup with hostUp := false, fieldUp := true } : Sup).fieldUp = true := by decide +kernel
/-- BOOT complete and not, STANDBY ready for automatic service, MAINTENANCE at its end. -/
theorem test_met_mode : let b : State := { State.reset with sup := { State.reset.sup with bootStep := 4, fieldUp := true, hostUp := true, hostServing := true }, keys := { State.reset.keys with identity := false } }
    State.reset.mayComplete = false ∧ b.mayComplete = true ∧ b.get modeStateMode 0 = 0 ∧ (b.keys.identity && b.sup.hostServing) = false
      ∧ (State.reset.put modeStateMode 0 5).get modeStateMode 0 = 5 ∧ (State.reset.put modeStateMode 0 5).get modeStateSince 0 + State.reset.get modeConfigMaintS 0 * 1000000000 ≤ 14400000000000
      ∧ (State.reset.put modeConfigAutoService 0 1).flag modeConfigAutoService 0 = true := by decide +kernel
/-- KEY_REQ: none pending, the host side absent and present, a slot with a key, a pending one. -/
theorem test_met_keys : let p : KeyPend := { tag := 3, ref := 1, op := .cmac, core := 0, data := ⟨0, 0⟩ }
    (State.reset.keys.pend.any fun x => x.tag == 3 && x.core == 0) = false ∧ ([p].find? fun y => y.tag == 3) = some p ∧ (∀ x ∈ State.reset.keys.pend, x.tag ≠ 3)
      ∧ ({ State.reset.cway with hostAbsent := false } : Causeway).hostAbsent = false ∧ p.ref = 1 := by decide +kernel
/-- Durable state: a checkpoint due, records in the ring, scrubs due, a takeover that may and may not be. -/
theorem test_met_durable : let r : Record := ⟨4, 0, 1, 0, 0, 1, 0, 0, false, 512⟩
    let s : State := { State.reset with sup := { State.reset.sup with bootStep := 4, fieldUp := true }, met := { State.reset.met with next := 128001 }, jr := { Journal.reset with ring := [r] } }
    s.met.frozen = none ∧ 3 ≤ s.sup.bootStep ∧ 2000000000 < s.met.next * 15625 ∧ s.jr.ring = [r] ∧ newest s.dur.a s.dur.b = none
      ∧ s.dur.deepAt + 600000000000 ≤ 600000000000 ∧ s.dur.eccAt + 1000000000 ≤ 1000000000 ∧ s.dur.hotAt + 86400000000000 ≤ 86400000000000
      ∧ 0 < s.get repairSpareLeft 0 ∧ s.get repairSpareLeft 0 < 256 ∧ s.mayTakeOver 0 = false ∧ Tab.find s.imgs.active 0 = none := by decide +kernel
theorem test_met_takeover : let s : State := ((State.reset.put sparesFailed 0 1).put durableConfigPreApprove 0 1).setCore 5 { Core.reset with run := .inReset }
    let s : State := { s with sup := { s.sup with fieldUp := true, bootStep := 4 } }
    s.mayTakeOver 0 = true := by decide +kernel

/-- Converters: each state the timeouts name, at and before its limit. -/
theorem test_met_converter : let st (x : Nat) : State := State.reset.put ctlStateState 0 x
    (st 1).convState 0 = 1 ∧ (st 7).convState 0 = 7 ∧ (st 3).convState 0 = 3 ∧ (st 5).convState 0 = 5 ∧ (st 6).convState 0 = 6 ∧ State.reset.convState 0 = 0
      ∧ ((st 1).conv 0).since + 20000100 ≤ 20000100 ∧ (st 7).get ctlStateBackoffUntil 0 + 100 ≤ 100
      ∧ ((st 3).conv 0).since + (st 3).get ctlOutletPcTimeout 0 * 1000000 + 100 ≤ 10000000100 ∧ (State.reset.conv 0).stopFrom = none ∧ (State.reset.conv 0).gatesOff = none := by decide +kernel
theorem test_met_converter_records : let k : Conv := { State.reset.conv 0 with ramp := some ⟨0, 0, 400000, false, false⟩, stopFrom := some (5, 1000), gatesOff := some 5, lowSince := some 5 }
    let s := (State.reset.put ctlStateState 0 2).setConv 0 k
    s.conv 0 = k ∧ k.ramp = some ⟨0, 0, 400000, false, false⟩ ∧ k.stopFrom = some (5, 1000) ∧ k.gatesOff = some 5 ∧ k.lowSince = some 5 ∧ s.convActive 0 = true ∧ s.stageOf 47 = []
      ∧ 5 + s.get ctlOutletShedHold 0 * 1000 ≤ 5 + 65535 * 1000 := by decide +kernel
theorem test_met_slot : (-5 : Int) ≤ 5 ∧ (State.reset.put ctlStateState 0 4).convActive 0 = true ∧ State.reset.convActive 0 = false ∧ State.reset.slotOf 0 2 = none
    ∧ State.reset.stageOf 3 = [] ∧ State.reset.outletOf 3 = [] := by decide +kernel
/-- A stage head of converter 0. -/
theorem test_met_stage : let s := (State.reset.put safetyStateCommitted 0 1).put safetyOutletStage0 0 7
    s.stageOf 7 = [(0, 0)] ∧ (900 : BitVec 16).toInt < 950 ∧ s.convState 0 ≠ 1 ∧ s.convState 0 ≠ 8 := by decide +kernel
/-- Cooling: findings open, at their limit, a model, a fallback that ends, a pump that runs on and one that does not. -/
theorem test_met_cooling : let r : CoolRec := { State.reset.coolRec 0 with lowSince := some 0, offSince := some 0, coolSince := some 0, contSince := some 0, lastBlock := some 0, maxSince := some 0, nodes := some ⟨0, 0, 0, 0⟩ }
    let s := State.reset.setCool 0 r
    s.coolRec 0 = r ∧ 0 + 500000000 ≤ 500000000 ∧ r.found.testBit 4 = false ∧ ({ r with found := 16 } : CoolRec).found.testBit 4 = true ∧ (State.reset.convActive 0 || State.reset.convState 0 == 1) = false
      ∧ ({ r with fallback := true, clearAt := 0 } : CoolRec).clearAt + 60000000000 ≤ 60000000000 ∧ r.found = 0 ∧ 5000000 % 10000000 = 5000000
      ∧ (State.reset.at 0).pumpRuns 0 0 = false ∧ 0 + State.reset.get coolOutletChillHold 0 * 1000000000 ≤ 65535000000000 := by decide +kernel
theorem test_met_thermal : (State.reset.put thermSensorStatus 3 1).get thermSensorStatus 3 = 1 ∧ (State.reset.put thermSensorRound 2 1).get thermSensorRound 2 = 1
    ∧ (State.reset.put thermStateThermal 0 1).get thermStateThermal 0 = 1 ∧ (∀ c, c < 13 → State.reset.convState c = 0 ∨ State.reset.convState c = 6 ∨ State.reset.convState c = 8)
    ∧ bandEdges[0]?.isSome = true ∧ throttleEdges[0]?.isSome = true ∧ (0 : Nat) < 2 ^ modeSupplyVfld.width := by
  refine ⟨by decide +kernel, by decide +kernel, by decide +kernel, fun c _ => .inl (by rfl), by decide +kernel, by decide +kernel, by decide +kernel⟩

/-! ### States that meet the hypotheses of the statements: injections, metrology, sessions, safety, the battery -/

/-- Reset with injection slot 0 running on a medium in both directions with an action, on every unit. -/
def injecting (medium action bytes : Nat) : State :=
  (((((((State.reset.put injectState 0 1).put injectMedium 0 medium).put injectDir 0 2).put injectAction 0 action).put injectBytes 0 bytes).put injectEveryN 0 1).put injectDuration 0 10)
/-- No injection acts at reset; one that runs acts, and has ended when its duration or its limit is reached. -/
theorem test_met_untouched : (∀ m t d n, untouched State.reset m t d n) ∧ ((injecting 3 1 0).linkUnit .field 0 7 5).1 = some 0 ∧ ((injecting 3 2 5).linkUnit .field 0 7 5).1 = some 0
    ∧ (injecting 3 2 5).get injectAction 0 ≠ 1 ∧ 2 < (injecting 3 2 5).get injectBytes 0 ∧ ((injecting 1 1 0).frameUnit 1 0 0 19 7 5).1 = true ∧ ((injecting 5 1 0).canUnit 0 5).1 = true
    ∧ ((injecting 6 3 0).unitSeen 6 0 0 5).1 = some 0 ∧ ((injecting 5 1 0).unitSeen 5 0 1 5).1 ≠ none := by
  refine ⟨fun m t d n j => rfl, by decide +kernel, by decide +kernel, by decide +kernel, by decide +kernel, by decide +kernel, by decide +kernel, by decide +kernel, by decide +kernel⟩
theorem test_met_injection_end : let s := (injecting 6 3 0).put injectLimit 0 4
    s.get injectState 0 = 1 ∧ s.get injectStart 0 + s.get injectDuration 0 * 1000000000 ≤ 10000000000 ∧ (s.put injectApplied 0 4).get injectLimit 0 ≤ (s.put injectApplied 0 4).get injectApplied 0
      ∧ s.get injectLimit 0 ≠ 0 ∧ Tab.find ({ s with diag := { s.diag with held := [(0, ⟨.mesh ⟨0, true, true, true, 0, 0, 0, ⟨0, 0⟩⟩, 5⟩)] } } : State).diag.held 0 ≠ none
      ∧ (5 : Nat) + 100000000 ≤ 100000005 := by decide +kernel
/-- The record in force of an epoch with an outlet whose part was retracted, its cap, and an override. -/
theorem test_met_activation : let r : Epoch := { Epoch.zero with num := 5, t0 := 8000000, gone := [3] }
    let s := { kerbed with kerb := { kerbed.kerb with epochs := [(5, r)], caps := [⟨3, 5, 10, 20⟩], override := some { outs := [], pBat := 0, stamp := 1 } } }
    s.epoch 5 = some r ∧ 12 ∉ r.gone ∧ 3 ∈ r.gone ∧ 2 ∉ r.gone ∧ (s.capOf 3 5).isSome = true ∧ s.kerb.override.isSome = true := by decide +kernel
/-- Availability below what the epoch imports, and not; what the shed of nothing leaves. -/
theorem test_met_fast : State.reset.fastDue = false ∧ (kerbed.shed 12 true 0 kerbed.forceEntries 0 (kerbed.busInForce - kerbed.bMax [])).2.2 ≤ 0
    ∧ State.fastDue { kerbed with kerb := { kerbed.kerb with epochs := [(5, { Epoch.zero with num := 5, importW := 5 })] } } = true := by decide +kernel
/-- Messages kept, all sent, and the side's present. -/
theorem test_met_status : State.reset.cway.down = false ∧ (State.reset.dir .field).kept.length < 16 ∧ (∀ q ∈ (State.reset.dir .field).kept, q.sent = true) ∧ State.reset.cway.fieldHeard + 10000000 ≤ 10000000
    ∧ ({ State.reset with sup := { State.reset.sup with hostUp := true } } : State).sup.pfailhLow = false := by decide +kernel
/-- A checkpoint that waits, a second's last index, a ring and segment with room, spare segments, and a taken one. -/
theorem test_met_flash : let k : Checkpoint := { seq := 0, k := 63999, siteTime := 0, legal := 0, frozen := false, bundleSeq := 0, fields := [], quants := [], subs := [], subStart := 0, sessions := [] }
    let s : State := { State.reset with dur := { State.reset.dur with ready := some k, a := some k }, met := { State.reset.met with next := 64001 }, sup := { State.reset.sup with bootStep := 3 } }
    s.dur.ready = some k ∧ s.met.frozen = none ∧ 3 ≤ s.sup.bootStep ∧ (s.met.next - 1) % 64000 = 0 ∧ newest s.dur.a s.dur.b = some k ∧ State.reset.nextErased.isSome = true
      ∧ ((State.reset.setSeg 4 { area := 4, erases := 1, place := 1, blocks := 7 }).headSeg 4).any (fun h => decide (blocksAfter ((State.reset.setSeg 4 { area := 4, erases := 1, place := 1, blocks := 7 }).seg h).blocks 3 ≤ segBlocks)) = true
      ∧ State.reset.legalValid = false ∧ (63 : Nat) < 64 ∧ (State.reset.put repairSpareLeft 38 1).get repairSpareLeft 38 = 1 := by decide +kernel

/-- Metrology: counters at their limits and each event that waits for its step. -/
theorem test_met_meter_event : let q : Quantity := { Quantity.zero with gap := true, whole := 63, gapFrom := 0 }
    let due (k : Nat) : State := { State.reset with met := { State.reset.met with due := [(k, 5)] } }
    let s := State.reset.setQuant 3 q
    s.counts 9 = true ∧ (s.quant 3).gap = true ∧ 63 ≤ (s.quant 3).whole ∧ (State.reset.quant 3).gap = false ∧ (Tab.find s.met.due (gapKey 3)).isNone = true ∧ 0 * 15625 + 100000000 ≤ 100000000
      ∧ (∀ k ∈ [gapKey 3, gapEndKey 3, revKey 3, revEndKey 3, beginKey 0, beginKey 3, beginKey 4, endKey 0, endKey 3, endKey 4], Tab.find (due k).met.due k = some 5)
      ∧ (State.reset.put ctlStateState 3 4).convState 3 ≠ 0 ∧ (Tab.get State.reset.met.shunt 3 (0, 0)).2 + 1000000000 ≤ 1000000000 := by decide +kernel
theorem test_met_meter_run : let s : State := { State.reset with met := { State.reset.met with runs := [(2, (0, 10)), (1, (0, 10))], revBad := [(3, 65535)], low := 15 } }
    10 ≤ s.runCycles 2 ∧ 10 ≤ s.runCycles 1 ∧ s.bit meterStatusEvents 0 1 = false ∧ (s.put meterStatusEvents 0 1).bit meterStatusEvents 0 0 = true ∧ s.flag allocOutletBpt 3 = false
      ∧ s.get meterOutletCfgRevMs 3 ≤ Tab.get s.met.revBad 3 0 ∧ 15 ≤ s.met.low ∧ s.flag allocSiteFeederTripped 0 = false ∧ 2 * (0 : Int) * 0 < (s.put meterSiteVNom 0 1).vNomNv * (s.put meterSiteVNom 0 1).vNomNv := by decide +kernel
/-- An absence of 65 samples in a row on a channel of outlet 3, and none. -/
theorem test_met_absence : let r : Chan43 := { Chan43.zero with runs := [(9, 65)] }
    65 ≤ ((State.reset.setChan43 (3 * 3) r).setChan43 (3 * 3 + 1) r).quantAbsence 3 9 ∧ State.reset.quantAbsence 3 9 = 0 := by decide +kernel
/-- Registers at both ends of their range; indices not yet and already settled; cycles, latches, calibrations, the seal and the residual. -/
theorem test_met_meter_register : let e : EndedCycle := ⟨5, 0, 1280, CycleAcc.zero, 0⟩
    let m : Met := { State.reset.met with next := 1280, ended := [e], latchIn := none, synthetic := true, cycle := { CycleAcc.zero with n := 1 }, applyCal := [(3, 1280)], frozen := none }
    let s : State := { (State.reset.put meterSiteFNom 0 50) with met := m }
    0 ≤ (s.quant 3).rhoD ∧ s.get (regFields 3).1.deliv (regFields 3).2 < 2 ^ 64 - 1 ∧ s.num (regFields 3).1.deliv (regFields 3).2 + ((s.quant 3).rhoD + muWh) / muWh < 2 ^ 64
      ∧ s.settledAt 0 1285 = false ∧ 19999999 < s.met.next * 15625 + 100000 ∧ s.met.next * 15625 + 100000 ≤ 20100000 ∧ s.stepsHeld 1020000000 = false ∧ s.coreRuns 4 = false
      ∧ 1019999999 < s.met.next * 15625 + 1000000000 ∧ s.met.ended = [e] ∧ 0 < s.get meterSiteFNom 0 ∧ s.counts s.met.next = true ∧ s.met.lastValid * 50 + 2000000000 ≤ (2560 * 15625) * 50
      ∧ s.met.synthNext * 1000000000 ≤ s.met.next * 15625 * s.get meterSiteFNom 0 ∧ (s.met.cycle.add (s.met.since.getD (s.met.next, CycleAcc.zero)).2).n ≠ 0 ∧ (s.met.tick + 1) * 1280 ≤ s.met.next
      ∧ Tab.find s.met.applyCal 3 = some 1280 ∧ 1280 ≤ s.met.next := by decide +kernel
theorem test_met_meter_rest : let s := (State.reset.put meterStatusSealOpen 0 1).put meterStatusSealUntil 0 100
    let f : State := { State.reset with met := { State.reset.met with frozen := some 15625 } }
    s.flag meterStatusSealOpen 0 = true ∧ s.get meterStatusSealUntil 0 ≤ 100 ∧ 99 < s.get meterStatusSealUntil 0 ∧ f.counts 2 = false ∧ f.counts 1 = true ∧ f.met.residualDone = false ∧ 15625 + 2500000 ≤ 2515625
      ∧ State.reset.netMode 3 = false ∧ (State.reset.put meterOutletCfgNet 3 1).netMode 3 = true := by decide +kernel
/-- Samples of every channel beyond the next index settle it. -/
theorem test_met_settled : let r : Chan43 := { Chan43.zero with raw := [(5, none)] }
    ∀ c, c < 43 → ((List.range 43).foldl (fun (s : State) c => s.setChan43 c r) State.reset).settledAt c 5 = true := by decide +kernel

/-- A session in a state, with what its timers name. -/
def inSession (st : Nat) : State := State.reset.setSess 3 { Sess.reset with st := st, tSlac := some 100, tRetry := some 100, tSetup := some 100, tSeq := some 100, tAuth := some 100, tCc := some 100, tWeld := some 100 }
theorem test_met_session : (∀ st, st ≤ 9 → ((inSession st).sess 3).st = st) ∧ ((inSession 5).sess 3).firstDue 101 = some (100, 0) ∧ ((inSession 5).sess 3).firstDue 100 = none ∧ 100 + 200000 ≤ 200100
    ∧ (∀ p ∈ ((inSession 5).sess 3).timers, 100 ≤ p.1) ∧ ((inSession 7).setSess 3 { (inSession 7).sess 3 with stopAt := some 9 }).convState 3 ∈ [0, 6, 8] ∧ (State.reset.outSafe 3).closing = false
    ∧ ((State.reset.put ctlStateState 3 4).gatesRest 3) = false ∧ (State.reset.put vlOutletKind 3 1).get vlOutletKind 3 ≠ 0 := by decide +kernel
theorem test_met_pilot : let k : Sess := { Sess.reset with raw := 2, pilot := 1, rawAt := 0 }
    let s := State.reset.setSess 3 k
    ((s.at 100000000).linkUpTo 3 100000000).sess 3 = k ∧ k.raw ≠ k.pilot ∧ k.raw < 4 ∧ k.rawAt + 100000000 ≤ 100000000 ∧ 99999999 < k.rawAt + 100000000
      ∧ ({ k with raw := 4 } : Sess).raw ≠ k.pilot ∧ ({ k with raw := 0, st := 6 } : Sess).st = 6 := by decide +kernel
/-- An outlet in Plugged whose SLAC is open, at each of its steps; Linked with a port, a connection and its TLS due; no protocol in common, and one. -/
theorem test_met_link : let v := (State.reset.put vlOutletKind 3 1).setSess 3 { Sess.reset with st := 1, slac := { Slac.reset with run := some 5, sounds := 2, got := 1, accepted := true, nmk := some 8 } }
    v.slacOpen 3 = true ∧ ((v.at 9).linkUpTo 3 9) = v.at 9 ∧ (v.sess 3).slac.got < (v.sess 3).slac.sounds ∧ 0 < (v.sess 3).slac.got ∧ (v.sess 3).slac.nmk = some 8 ∧ State.reset.slacOpen 3 = false
      ∧ ((v.put vlOutletKind 3 2).get vlOutletKind 3 = 2 ∧ (v.sess 3).tRetry = none ∧ (v.sess 3).retries < 3) := by decide +kernel
theorem test_met_setup : let k : Sess := { Sess.reset with st := 2, port := 49152, tcp := true, tlsDue := true }
    let s := (State.reset.put vlOutletProtocols 3 7).setSess 3 k
    s.sess 3 = k ∧ ({ k with tcp := false } : Sess).port ≠ 0 ∧ (7 : BitVec 3).getLsbD 0 = true ∧ s.bit vlOutletProtocols 3 0 = true ∧ k.tls = false ∧ s.get vlOutletKind 3 ≠ 2 ∧ 0 ∈ protoOrder (s.get vlOutletPrefer 3)
      ∧ (0 : BitVec 3).getLsbD 0 = false ∧ (0 : BitVec 3).getLsbD 1 = false ∧ (0 : BitVec 3).getLsbD 2 = false := by decide +kernel
/-- Authorisation before and after it is given, a chain that holds, each state a charging message names. -/
theorem test_met_charging : let k : Sess := { Sess.reset with st := 3, auth := 2, proto := 2, params := true, pilot := 2 }
    let s := (((State.reset.put vlOutletFlags 3 3).put modeStateMode 0 2)).setSess 3 k
    let r := s.setSess 3 { k with auth := 3 }
    ((s.at 9).linkUpTo 3 9) = s.at 9 ∧ k.auth < 3 ∧ s.bit vlOutletFlags 3 1 = true ∧ k.proto ≠ 1 ∧ s.bit vlOutletFlags 3 2 = false ∧ s.modeEnergises = true ∧ (r.sess 3).auth = 3 ∧ (r.sess 3).params = true
      ∧ (State.reset.status 3 10) = false ∧ ((State.reset.setStatus 3 14 true 0).setStatus 3 8 true 0).status 3 14 = true ∧ ((State.reset.setStatus 3 14 true 0).setStatus 3 8 true 0).status 3 8 = true := by decide +kernel
/-- The gates of the link core served, a request word at the front of an effect queue, a page silent for 100 ms. -/
theorem test_met_page : let e : EqEntry := ⟨0x40000000, true, 1⟩
    let s := (State.reset.setCore 0 { (cpu 0 []).core 0 with eq := [e] })
    let g := (State.reset.put ctlStateState 3 4).setCore 3 { Core.reset with serving := some (0, ⟨0, [3], 10, 20⟩) }
    s.eqFront 0 = some e ∧ pageOfWord e.addr = some 0 ∧ e.data.toNat % 256 = 1 ∧ (g.core (g.physical 3)).serving = some (0, ⟨0, [3], 10, 20⟩) ∧ gateArg [3] 0 = 3
      ∧ (State.reset.core (State.reset.physical 3)).serving = none ∧ g.convState 3 ≠ 0 ∧ (g.page 3).at_ + 100000000 + settleFc ≤ 100000000 + settleFc ∧ g.status 3 15 = false
      ∧ State.reset.permitted 3 = false ∧ State.reset.convState 3 ≠ 2 := by decide +kernel
theorem test_met_authorize : ((inSession 3).setSess 3 { Sess.reset with st := 3, auth := 1 }).authorizeSess 3 true 5 ≠ none ∧ (inSession 3).authorizeSess 3 true 5 = none := by decide +kernel

/-- Safety channels: cycles allowed and not, a silent partner, a pair that differs too long, SRESET low too long, groups at each step, an outlet's timers. -/
theorem test_met_safety : let k : Chn := { Chn.reset with started := true, at_ := 0, cycles := 3, diff := [(0, 0)], fall := some 0, cnt := [(0, 1)] }
    let s : State := { State.reset with safe := { State.reset.safe with sa := k, sb := { k with started := false } } }
    s.sup.bootStep < 4 ∧ (s.chn .sa).started = true ∧ (s.chn (partnerOf .sa)).started = false ∧ 3 ≤ (s.chn .sa).cycles ∧ k.at_ + 3000000 ≤ 3000000 ∧ k.disc.testBit 0 = false ∧ Tab.find k.diff 0 = some 0
      ∧ 0 + 50000000 < 50000001 ∧ 0 + 5000000000 < 5000000001 ∧ s.flag safetyStateStuck 0 = false ∧ k.lvl.testBit 0 ≠ true ∧ Tab.get k.cnt 0 0 + 1 < 3 ∧ 2 ≤ Tab.get k.cnt 0 0 + 1 := by decide +kernel
theorem test_met_groups : let s (st : Nat) : State := State.reset.setGrp 1 { step := st, at_ := 0 }
    (∀ st, st < 4 → ((s st).grp 1).step = st) ∧ 0 + 200000 ≤ 200000 ∧ State.reset.safe.sa.cycles % 1000 = 0 ∧ ({ Chn.reset with cycles := 500 } : Chn).cycles % 1000 = 500 := by decide +kernel
theorem test_met_outlet_safety : let o : OutSafe := { OutSafe.reset with closeEnd := some 5, closing := false, openSince := some 5, gatesAt := some 5 }
    let v : View1 := { View1.reset with fb := 1, vConv := 12, at_ := some 3 }
    let s : State := { (State.reset.setOut 3 o) with safe := { (State.reset.setOut 3 o).safe with sa := { Chn.reset with v1 := [(3, v)] } } }
    s.outSafe 3 = o ∧ (s.safe.sa.view1 3).fb ≠ 0 ∧ 12 ≤ (s.safe.sa.view1 3).vConv ∧ (s.safe.sa.view1 3).at_ ≠ none ∧ o.withdrawnAt + 100000000 ≤ 100000000 ∧ 5 + 1000000000 ≤ 1000000005 ∧ o.held = false
      ∧ o.discharged = false ∧ ({ o with closing := true } : OutSafe).stop.testBit 5 = false ∧ 5 + 100000000 ≤ 100000005 := by decide +kernel
/-- An outlet permitted by a channel. -/
theorem test_met_permits : let r : Recv := { Recv.reset with last := some 1, okAt := 5 }
    let s := (((((State.reset.put safetyStateCommitted 0 1).put safetyOutletStage0 3 7).put safetyOutletOutletHead 3 5).put safetyOutletCanCh 3 2).setRecv1 3 r).setRecv3 7 r
    State.permits { s with safe := { s.safe with sa := { Chn.reset with v3 := [(7, ⟨4, some 5⟩)] } } } .sa 3 = true := by decide +kernel
/-- Safe data: items of each kind, numbers that follow and do not, a first copy waiting, streams current and silent. -/
theorem test_met_safe_data : let r : Recv := { Recv.reset with last := some 250 }
    let p : Pend := { net := .can, seq := 4, item := 7, t1 := 0, gone := false }
    let s := (State.reset.put safetyOutletCanCh 3 2).setRecv1 3 { r with pends := [p] }
    r.follows 251 = true ∧ r.follows 2 = true ∧ r.follows 3 = false ∧ r.follows 250 = false ∧ Recv.reset.follows 9 = true ∧ s.get safetyOutletCanCh 3 ≠ 0xFF ∧ (s.recv1 3).pends = [p] ∧ p.net ≠ .avenue
      ∧ 5000000 ≤ p.t1 + 5000000 ∧ p.t1 + 5000000 + settleSafe ≤ 5100000 ∧ 5099999 < p.t1 + 5000000 + settleSafe ∧ (State.reset.put safetyOutletCanCh 3 0xFF).get safetyOutletCanCh 3 = 0xFF
      ∧ itemGood 0 = false ∧ (∃ x, x < 2 ^ 16 ∧ itemByte x 0 / 64 = 1 ∧ itemByte x 0 % 64 < 12) ∧ r.discards < 2 := by
  refine ⟨by decide +kernel, by decide +kernel, by decide +kernel, by decide +kernel, by decide +kernel, by decide +kernel, by decide +kernel, by decide +kernel, by decide +kernel, by decide +kernel, by decide +kernel, by decide +kernel, by decide +kernel, ⟨0x43, by decide +kernel⟩, by decide +kernel⟩
theorem test_met_streams : let r : Recv := { Recv.reset with last := some 1, okAt := 0 }
    r.current = true ∧ Recv.reset.current = false ∧ r.okAt + 30000000 + settleSafe ≤ 30100000 ∧ 30099999 < r.okAt + 30000000 + settleSafe ∧ (((State.reset.put safetyStateCommitted 0 1).put safetyOutletOutletHead 3 5).outletHead 3).isSome = true := by decide +kernel

/-- The battery: a string provisioned and another, a set begun, each timer, a rest point, a step with its fit due, a drift. -/
theorem test_met_battery : let w : SetIn := { instant := 0, iSet := 0, v1 := 0, mv := [], mt := [], done := false }
    let p : LoadStep := { at_ := 0, iPost := 0, dI := 1, vBefore := 0, r0New := 0, charge := 0, socAt := 0, g10 := some 5 }
    let k : Str := { Str.reset with set := some w, first := true, idle := some 0, iAt := some 0, setOk := some 0, step := some p, serial := some 4, waiting := some ⟨4, 1, 1, 1, 1, 1⟩ }
    let s := ((State.reset.put battConfigNStr 0 8).put battStringNMod 2 1).setStr 2 k
    s.str 2 = k ∧ s.strings.contains 2 = true ∧ s.strings.contains 3 = false ∧ w.done = false ∧ k.soc = 0 ∧ s.get battLearnSeq 2 = 0 ∧ 0 + 10000000 + settleBatt < 10000001 + settleBatt ∧ (k.curOut && s.strFlag 2 4) = false ∧ 0 + 1000000000 + settleBatt ≤ 1000000000 + settleBatt
      ∧ 0 + s.get battConfigTRest 0 * 60000000000 ≤ 255 * 256 * 60000000000 ∧ s.strFlag 2 7 = false ∧ k.steady 5 = true ∧ p.at_ + 30000000000 ≤ 30000000000 ∧ 0 + 120000000000 ≤ 120000000000
      ∧ k.soc + 500 < (s.put battStateSocV 2 501).get battStateSocV 2 ∧ s.get battStateSocV 2 ≤ k.soc + 500 ∧ State.reset.batt.published = 0 ∧ k.socC ≤ 2 ^ 32 := by decide +kernel

/-! ### States that meet the hypotheses of the statements: lanes, avenues, networks, the effect rows, the legal partition -/

/-- A lane in each state at and before its limits; the sixteenth set sent and received. -/
theorem test_met_lane : let k : LaneRec := { LaneRec.reset with since := 0, sent := 15, got := 15, genAt := some 0, locked := true, fails := 2 }
    let s (st : Nat) : State := ((State.reset.put laneStateState 4 st).put laneStateGen 4 2).setLane 4 k
    (∀ st, st ≤ 5 → (s st).get laneStateState 4 = st) ∧ (s 0).laneRuns 4 = true ∧ State.reset.laneRuns 0 = false ∧ k.waitUntil ≤ 0 ∧ (s 1).get laneStateGen 4 = 2 ∧ 16 ≤ k.sent + 1 ∧ 16 ≤ k.got + 1
      ∧ k.since + 2000000 ≤ 2000000 ∧ 1999999 < k.since + 2000000 ∧ k.since + 1000000 ≤ 1000000 ∧ k.since + 100000 ≤ 100000 ∧ (0 : Nat) + 2100000 ≤ 2100000 ∧ LaneRec.reset.fails < 2 ∧ 2 ≤ k.fails
      ∧ (s 3).get avenueStateMode 0 = 15 ∧ (5 : Nat) < 2 ^ 8 := by decide +kernel
theorem test_met_retrained : let r : HopRec := ⟨0, 3, 1, 0, 7⟩
    let k : LaneRec := { LaneRec.reset with sent := 16, got := 16, locked := true, hop := some r }
    16 ≤ k.sent ∧ 16 ≤ k.got ∧ k.hop = some r ∧ ({ k with hop := none } : LaneRec).hop ≠ some r ∧ ({ k with got := 15 } : LaneRec).got < 16 := by decide +kernel
/-- An avenue before, in and after its formation, with heads, a hop broken, a split of 10 s, service content, a mailbox message that may be had. -/
theorem test_met_avenue : let k : Avn := { Avn.reset with forming := 2, broken := [1] }
    let f := (State.reset.put laneStateState 4 4).put laneStateState 5 4
    let s := ((State.reset.put avenueStateN 0 4).put avenueStateMode 0 2).setAvn 0 k
    f.lanesActive 0 = true ∧ f.get avenueStateMode 0 = 15 ∧ (f.avn 0).forming = 0 ∧ State.reset.lanesActive 0 = false ∧ (s.avn 0).forming = 2 ∧ 3 < s.get avenueStateN 0 ∧ 1 ∈ k.broken ∧ 2 ∉ k.broken
      ∧ s.get avenueStateMode 0 ≠ 0 ∧ s.get avenueStateMode 0 ≠ 15 ∧ s.get avenueStateSplitSince 0 + 10000000000 ≤ 10000000000 ∧ k.splitSlot = none ∧ ({ k with forming := 5 } : Avn).forming = 5
      ∧ State.reset.mailAllowed 3 0x80 = true ∧ (2040 : Nat) ≤ 2040 ∧ 2040 < 2041 := by decide +kernel
theorem test_met_service : let x : Svc := ⟨1, 1, 48, .pulse 0⟩
    let y : Svc := ⟨2, 1, 48, .pulse 0⟩
    x ∈ [x, y] ∧ (∀ z ∈ [x, y], x.prec ≤ z.prec) ∧ x.prec < 5 ∧ y.prec ≠ 1 ∧ y.left ≤ 1 ∧ [y].find? (fun z => z.prec == y.prec) = some y := by decide +kernel
/-- Nodes: joining, active, in CUL-DE-SAC, silent, in grace, of a known and of no address; transfers; CAN channels live, held and off; buffers locked and free. -/
theorem test_met_node : let r : NodeRec := { NodeRec.reset with graceAt := some 0, xfer := 1 }
    let s := (((State.reset.put nodeEntryKind 7 5).put nodeEntryState 7 2).setNodeRec 7 r).put canStateState 0 1
    s.nodeAt 5 7 0 0 = some 7 ∧ s.nodeAt 5 7 1 0 = none ∧ s.digestOk 7 = true ∧ (s.put nodeEntryReported 7 1).digestOk 7 = false ∧ s.get nodeEntryKind 7 ≠ 0 ∧ (s.nodeRec 7).graceAt = some 0
      ∧ 0 + settleFn ≤ 1000 ∧ 999 < 0 + settleFn ∧ r.xfer = 1 ∧ s.canLive 0 = true ∧ State.reset.canLive 0 = false ∧ min (max 0 0 + s.silenceNs 7) (300000000) + settleFn ≤ 300000000 + settleFn
      ∧ (s.put nodeEntryState 7 3).get nodeEntryState 7 = 3 ∧ (s.put nodeEntryState 7 1).get nodeEntryState 7 = 1 := by decide +kernel
theorem test_met_can : let q : CanReq := { cls := 0, slot := none, ide := false, fdf := false, brs := false, id := 5, dlc := 8, data := 0, retries := 3, attempts := 3, deadline := 9, node := 1024 }
    let k : CanChan := { CanChan.reset with cur := some q, bufs := [(32, ⟨true, some (2, 0)⟩)], offs := [5, 4, 3] }
    let s := (State.reset.put canStateState 0 1).setCan 0 k
    (s.canChan 0).cur = some q ∧ CanChan.reset.cur = none ∧ (k.buf 32).lock = some (2, 0) ∧ (k.buf 33).lock = none ∧ 0 + 1000000 + settleFn ≤ 1001000 ∧ q.retries < q.attempts + 1 ∧ q.deadline ≠ 0 ∧ q.deadline < 10
      ∧ 3 ≤ (k.offs.filter fun x => decide (60000000003 ≤ x + 60000000000)).length ∧ 255 < (256 : Nat) ∧ s.get canConfigFdMode 0 = 0 ∧ (s.put canConfigFdMode 0 1).get canConfigFdMode 0 ≠ 0
      ∧ ((s.put canStateState 0 3).put canConfigAutoRecover 0 1).flag canConfigAutoRecover 0 = true := by decide +kernel
/-- Effect rows: an append's commit word and the doorbells at the front of a queue; lengths and quotas at their ends; grants of buffers and slots. -/
theorem test_met_effect_rows : let e (a : Nat) : EqEntry := ⟨a, true, 1⟩
    let s (a : Nat) : State := State.reset.setCore 0 { (cpu 0 []).core 0 with eq := [e a] }
    (∀ a ∈ [0x40100000, 0x40220000, 0x50000100, 0x40403000, 0x40441000], (s a).eqFront 0 = some (e a)) ∧ inRange 0x40100000 0x40100000 0x4012FFFF = true ∧ isMailbox 0x50000100 = true ∧ 0x50000100 % 0x10000 = 0x100
      ∧ State.reset.mailState 0 ≠ 3 ∧ 16000000 < (State.reset.put wearOpenToday 0 16000000).get wearOpenToday 0 + 1 ∧ State.reset.appendRefusal 3 224 = 0 ∧ State.reset.unsent 0 < 8 := by decide +kernel
theorem test_met_buffer_grant : let i : Loaded := { kind := 0, imgVer := 1, digest := 0, exports := [], imports := [], chans := [], grants := [⟨0x40400000, 9, true, true⟩] }
    let k : Core := { (cpu 0 []).core 0 with image := some i }
    k.granted (canBufAddr 0 32) false = true ∧ k.granted (canBufAddr 0 64 + 0x50) false = true ∧ k.granted (meshRxAddr 0) false = true ∧ k.granted (meshRxAddr 0 + 0x1A0) false = true ∧ k.eq = [] := by decide +kernel
/-- The mesh: a request out and none, a head ACTIVE, a tone map due, a known and an unknown node, a wait of 10 s. -/
theorem test_met_mesh : let r : MeshReq := ⟨0, 1, 7, 4, 0⟩
    let m : Mesh := { Mesh.reset with reqs := [r], txOut := true, waiting := [(9, 7, 0)] }
    let s := ((State.reset.put nodeEntryKind 7 4).put nodeEntryState 7 2).setMesh m
    (s.net.mesh.reqs.find? fun x => !(s.net.mesh.isWaiting x)) = some r ∧ s.meshHeadActive = true ∧ State.reset.meshHeadActive = false ∧ (State.reset.put meshNbrPhase 3 1).get meshNbrPhase 3 ≠ 0
      ∧ 3 ≤ (State.reset.put meshNbrDegraded 3 3).get meshNbrDegraded 3 ∧ (State.reset.nodeIds.find? fun x => (State.reset.get nodeEntryKind x == 8 || State.reset.get nodeEntryKind x == 4)) = none
      ∧ (s.nodeIds.find? fun x => (s.get nodeEntryKind x == 8 || s.get nodeEntryKind x == 4) && s.get nodeEntryEui64 x == 0) = some 7 ∧ s.pskLoads 7 = false
      ∧ 0 + 10000000000 + settleFn ≤ 10000001000 ∧ m.gmkAt + s.get meshConfigGmkDays 0 * 86400000000000 ≤ 65535 * 86400000000000 := by decide +kernel
/-- The loader's cores, the gates of the legal core, the Croquembouche, a change to state, an approval, loops, pulses. -/
theorem test_met_legal : let g (n : Nat) : State := State.reset.setCore 4 { Core.reset with serving := some (n, ⟨0, [3], 10, 20⟩) }
    let up : State := { State.reset with sup := { State.reset.sup with fieldUp := true, hostUp := true, hostServing := true } }
    (up.core 0).run = .inReset ∧ up.bit sparesFailed 0 0 = false ∧ up.sup.fieldUp = true ∧ up.checkImage (imageOf ⟨0, 0⟩) 0 ≠ 0 ∧ ((g 0x81).core ((g 0x81).physical 4)).serving = some (0x81, ⟨0, [3], 10, 20⟩)
      ∧ Tab.find up.bill.sessions 3 = none ∧ (up.put crqStateFlags 0 1).get crqStateFlags 0 % 2 = 1 ∧ (up.put crqStateEpoch 0 1).get crqStateEpoch 0 ≠ up.keys.stated ∧ up.keys.lastChange = 0
      ∧ up.cway.hostAbsent = false ∧ up.keys.identity = true ∧ (0 : Nat) + 600000000000 ≤ 600000000000 ∧ Loop.reset.latched = none ∧ ({ Loop.reset with since := some 0 } : Loop).since = some 0
      ∧ (up.put meterPulseEnable 0 1).flag meterPulseEnable 0 = true ∧ (up.put meterPulseBacklog 0 1).get meterPulseBacklog 0 ≠ 0 ∧ up.pins.pulseEnd ≤ 0 := by decide +kernel

/-! ### States that meet the hypotheses of the statements: host ports -/

/-- Both sides up, every port bound to role 5, lanes in a mode. -/
def hosted : State :=
  let s : State := { State.reset with sup := { State.reset.sup with fieldUp := true, hostUp := true, hostServing := true } }
  (List.range 6).foldl (fun s p => (s.put portBindRole p 5).put laneHostMode p 1) s
/-- A READ of dev.ident by port 0. -/
def hostRead : HostMsg := ⟨⟨5, 0, 1, 0, ⟨0, 0⟩⟩, 1, 0, 0x0000⟩
theorem test_met_admitted : admitted hosted hostRead 5 ∧ hosted.hears 0 5 = true ∧ State.reset.hears 0 5 = false ∧ quietOn hosted 4 0 0 5 := by
  refine ⟨⟨by decide +kernel, by unfold quietOn; decide +kernel, by decide +kernel, by decide +kernel, by decide +kernel, by decide +kernel, by decide +kernel⟩, by decide +kernel, by decide +kernel, by unfold quietOn; decide +kernel⟩
/-- An INVOKE admitted, with a code its role may use and one it may not, with a form that is right and one that is not. -/
theorem test_met_invoke : let r : Req := ⟨5, 0, 1, 3, ⟨4, 1⟩⟩
    let m : HostMsg := { req := r, typ := 4, flags := 0, obj := 0x0540 }
    admitted hosted m 5 ∧ argAt r.payload 0 1 = 1 ∧ formOf 0x0540 r.payload = 0 ∧ hasRole (codeRoles 0x0540 1) 5 = true ∧ hasRole (codeRoles 0x0540 1) 0 = false ∧ formOf 0x0540 ⟨3, 1⟩ = 4
      ∧ formOf 0x0540 ⟨4, 0x101⟩ = 5 ∧ formOf 0x0540 ⟨4, 0⟩ = 6 := by
  refine ⟨⟨by decide +kernel, by unfold quietOn; decide +kernel, by decide +kernel, by decide +kernel, by decide +kernel, by decide +kernel, by decide +kernel⟩, by decide +kernel, by decide +kernel, by decide +kernel, by decide +kernel, by decide +kernel, by decide +kernel, by decide +kernel⟩
/-- A number answered before, one in execution, eight in execution, no role, an object that is not there. -/
theorem test_met_request : let k : Port := { Port.reset with answered := [(1, 0, ⟨0, 0⟩)], running := [2, 3, 4, 5, 6, 7, 8, 9] }
    (k.answered.find? fun a => a.1 == 1) = some (1, 0, ⟨0, 0⟩) ∧ k.running.contains 2 = true ∧ 8 ≤ k.running.length ∧ Port.reset.running.length < 8 ∧ State.reset.portRole 0 = 0 ∧ hosted.portRole 0 = 5
      ∧ rightOf 0xFFFF = none ∧ (rightOf 0x0201).isSome = true ∧ hosted.lifecycle ≠ 3 ∧ hostSideObj 0x0201 = false ∧ hostSideObj 0x0100 = true ∧ hosted.sup.pfailhLow = false := by decide +kernel
/-- WRITEs: of the right length and another, with a reserved bit, breaking a rule and not; counters that agree and do not; subscriptions. -/
theorem test_met_data : let l : List Sub := List.replicate 64 ⟨0, 0, 0, 0, 0, 0⟩
    (findObj 0x0201).isSome = true ∧ (findObj 0x0201).all (fun d => d.setsReserved 0 == false && decide (d.size ≤ 252)) = true ∧ (findObj 0x1120).any (fun d => d.setsReserved (2 ^ 191)) = true
      ∧ State.reset.ringFull 1000 = false ∧ 64 ≤ l.length ∧ groupOf 0x1940 = none := by decide +kernel
/-- NOTIFYs waiting with and without a credit, awaited at and before 10 s; a queue that is full; the console enabled. -/
theorem test_met_port : let a : Ntf := ⟨0x0100, 0, false, ⟨0, 0⟩⟩
    let k : Port := { Port.reset with queue := List.replicate 256 a, awaits := [⟨4, { a with ack := true }, 0, 0⟩] }
    let s := (hosted.put portStateNtfCredits 0 1).setPort 0 k
    s.port 0 = k ∧ s.get portStateNtfCredits 0 ≠ 0 ∧ 256 ≤ k.queue.length ∧ (k.queue ++ [a]).findIdx? (fun y => !y.ack) = some 0 ∧ (k.awaits.find? fun y => y.seq == 4).isSome = true ∧ 0 + 10000002000 ≤ 10000002000
      ∧ (10000000000 : Nat) ≤ 0 + 10000000000 ∧ s.hears 0 5 = true ∧ s.consoleOn 5 = true ∧ Port.reset.toRead = [] ∧ Port.reset.queue = [] := by decide +kernel
theorem test_met_string : (decodeString (codeString (List.replicate 16 0) 16) 16).isSome = true ∧ decodeString [1, 2, 3] 16 = none ∧ [0x7E].getLast? = some 0x7E := by decide +kernel
/-- Commands of INVOKE where each acts and where it is refused. -/
theorem test_met_commands : let h := State.reset.put ctlStateState 3 8
    (h.put ctlStateHeldCause 3 1).convState 3 = 8 ∧ (h.put ctlStateHeldCause 3 1).get ctlStateHeldCause 3 = 1 ∧ (h.put ctlStateHeldCause 3 2).get ctlStateHeldCause 3 ∉ [1, 9] ∧ State.reset.convState 3 ≠ 8
      ∧ (State.reset.put ctlStateFailedMap 3 1).bit ctlStateFailedMap 3 0 = true ∧ (State.reset.put thermSensorStatus 3 2).get thermSensorStatus 3 = 2 ∧ (State.reset.put modeStateMode 0 5).get modeStateMode 0 = 5
      ∧ (inSession 4).get modeStateMode 0 ≠ 5 ∧ 3 ≤ ((inSession 4).sess 3).st ∧ (State.reset.sess 3).welded = false ∧ State.reset.bit safetyStateWelded 0 3 = false ∧ State.reset.safetyInRange 1 12 = true
      ∧ (State.reset.put safetyStateSoFault 0 1).bit safetyStateSoFault 0 0 = true ∧ (State.reset.put safetyStateChanFault 0 1).get safetyStateChanFault 0 ≠ 0 ∧ State.reset.safe.sa.diffs = 0
      ∧ (State.reset.put laneStateState 3 4).get laneStateState 3 = 4 ∧ (State.reset.put canStateState 0 4).get canStateState 0 = 4 ∧ (State.reset.put lcStateState 0 2).lifecycle = 2 ∧ (State.reset.outSafe 3).stop.testBit 2 = false := by decide +kernel
/-- Key, lifecycle, mode, image, record and injection commands where each acts and where it is refused. -/
theorem test_met_key_commands : let l (x : Nat) : State := State.reset.put lcStateState 0 x
    let p : Payload := ⟨24, 1 + 1 * 2 ^ 48 + 1 * 2 ^ 56⟩
    let q := (l 1).setKeys { (l 1).keys with approval := some 0 }
    (∀ x, x < 5 → (l x).lifecycle = x) ∧ (l 1).keyArgs p = 0 ∧ (l 1).keyArgs ⟨24, 1⟩ ≠ 0 ∧ pairOk 1 5 = false ∧ q.approved 599999999999 = true ∧ q.approved 600000000000 = false ∧ q.allOff = true ∧ q.keys.identity = true
      ∧ (State.reset.put ctlStateState 3 4).allOff = false ∧ (l 1).ringFull 110 = false ∧ (l 1).pralineKey 5 = none ∧ (l 0).allOff = true ∧ (∀ o, o < 12 → ((l 2).sess o).st = 0) := by decide +kernel
theorem test_met_mode_commands : let m (x : Nat) : State := State.reset.put modeStateMode 0 x
    let h : State := (m 4).put modeStateHold 0 8
    (∀ x, x < 6 → (m x).get modeStateMode 0 = x) ∧ State.holdAccepts { h with safe := { h.safe with clearAt := [(3, 4)] } } 3 1 5 = true ∧ h.holdAccepts 3 1 5 = false ∧ (∀ c, c < 13 → (m 1).convIdle c = true)
      ∧ ((m 1).put ctlStateState 3 4).convIdle 3 = false ∧ (m 5).bit sparesFailed 0 3 = false ∧ ((m 5).put sparesFailed 0 8).bit sparesFailed 0 3 = true ∧ (m 1).get sparesStandsFor 0 = 0xFF
      ∧ (∀ c, c < 4 → (m 4).bit modeStateHold 0 c = false) := by decide +kernel
theorem test_met_record : let r : Record := ⟨4, 0, 1, 300, 0, 1, 0, 0, false, 512⟩
    let j : Journal := { Journal.reset with ring := [r] }
    ((j.flash ++ j.ring).filter fun z => z.cls == 4 && !z.lost && decide (1 ≤ z.seq)) = [r] ∧ 224 % 224 = 0 ∧ 3808 < 4032 ∧ hasRole (areaRoles 4) 5 = true ∧ hasRole (areaRoles 4) 0 = false
      ∧ (State.reset.put injectState 3 1).get injectState 3 = 1 := by decide +kernel

end Sys2Proof.Tests
end

/-! The effect queue of a core (spec/03 R80, R83, R84): what a store to effect space or a mailbox does with room and without, what leaves the
queue and what FENCEE waits for. -/

namespace Sys2Proof.Machine.EffectQueue

/-! ### Prefixes and retiring -/

theorem one_le_limWords (lim : Lim) : 1 ≤ limWords lim := by cases lim <;> simp [limWords]

/-- The words behind an instruction's first can be fetched, so that none of them raises anything. -/
theorem canRun_fetchCause {s : State} {c n : Nat} (h : canRun s c n) (j : Nat) (hj : j ≤ n) :
    (s.core c).fetchCause c ((s.core c).pc + BitVec.ofNat 32 (4 * j)) = none :=
  Core.fetchCause_ok (canRun_next h j hj)

/-- A core that can fetch all words of an immediate-form instruction with well-formed prefixes executes it (spec/02 R49). -/
theorem withLim_run (s : State) (c : Nat) (lim : Lim) (f : Core → State) (h : canRun s c (limWords lim)) (ok : limOk lim = true) :
    s.withLim c lim f = f (s.core c) := by
  unfold State.withLim
  rw [State.issue_run s c _ h.1 (canRun_here h)]
  have inside := h.2.1
  cases lim with
  | none => rfl
  | one hi =>
    have second := canRun_fetchCause h 1 (one_le_limWords _)
    have room : ¬ imemSize ≤ (s.core c).pc.toNat + 4 := by simp only [limWords] at inside; omega
    simp only [Nat.reduceMul] at second
    simp [room, second]
  | two top hi =>
    have second := canRun_fetchCause h 1 (one_le_limWords _)
    have third := canRun_fetchCause h 2 (show 2 ≤ 3 by decide)
    have room : ¬ imemSize ≤ (s.core c).pc.toNat + 8 := by simp only [limWords] at inside; omega
    simp only [Nat.reduceMul] at second third
    simp [room, ok, second, third]

/-- An instruction retired that changed nothing: the pc moves and cw16 counts it. -/
theorem pcOnly_retired (s : State) (c : Nat) (pc : Addr) : pcOnly s (s.setCore c (retired (s.core c) pc)) c false pc := by
  refine ⟨onlyCore_setCore s c _, ?_⟩
  rw [State.core_setCore_same]
  exact ⟨rfl, fun _ => rfl, rfl, fun _ => retired_cw16 _ _ _, retired_cw _ _ _ (by decide), fun _ d h _ => retired_cw _ _ d h⟩

/-! ### Entering the queue -/

/-- The entry that a store of the low `n` bytes of rd at `a` takes in the effect queue. -/
def storeEntry (k : Core) (rd a n : Nat) : EqEntry :=
  { addr := a, wide := n == 8, data := BitVec.ofNat 64 ((k.reg rd).toNat % 2 ^ (8 * n)) }

/-- SW's entry: a narrow one with the low word of rd. -/
theorem storeEntry_four (k : Core) (rd a : Nat) :
    storeEntry k rd a 4 = { addr := a, wide := false, data := ((k.reg rd).setWidth 32).setWidth 64 } := by
  have data : BitVec.ofNat 64 ((k.reg rd).toNat % 2 ^ 32) = ((k.reg rd).setWidth 32).setWidth 64 := by
    apply BitVec.eq_of_toNat_eq; simp
  unfold storeEntry
  rw [data]; rfl

/-- SD's entry: a wide one with rd. -/
theorem storeEntry_eight (k : Core) (rd a : Nat) : storeEntry k rd a 8 = { addr := a, wide := true, data := k.reg rd } := by
  have data : BitVec.ofNat 64 ((k.reg rd).toNat % 2 ^ 64) = k.reg rd := by
    rw [Nat.mod_eq_of_lt (k.reg rd).isLt]; simp
  unfold storeEntry
  rw [data]; rfl

/-- An aligned access of at least a word that the core has the right to store raises nothing. -/
theorem checkAccess_store {k : Core} {c a n : Nat} (aligned : a % n = 0) (word : 4 ≤ n) (right : k.mayStore c a = true) :
    k.checkAccess c a n true = none := by
  have wide : ¬ n < 4 := by omega
  simp [Core.checkAccess, aligned, wide, right]

/-- A store the core may make to a word that a page of effect space or a mailbox takes. -/
structure Queues (s : State) (c a n : Nat) : Prop where
  aligned : a % n = 0
  word : 4 ≤ n
  right : (s.core c).mayStore c a = true
  target : (isEffect a || isMailbox a) = true
  taken : storeRefused a n = false

/-- With room in the queue such a store retires with its entry behind the others (spec/03 R80). -/
theorem store_room {s : State} {c a n : Nat} (q : Queues s c a n) (rd : Nat) (pc : Addr) (ecc : BlockResult)
    (room : (s.core c).eq.length < 32) (next : (s.core c).fetchOk pc = true) :
    s.store c rd a n pc ecc
      = s.setCore c (retired { s.core c with eq := (s.core c).eq ++ [storeEntry (s.core c) rd a n] } pc) := by
  unfold State.store
  simp only [checkAccess_store q.aligned q.word q.right, q.taken, q.target, if_true, Bool.false_eq_true, if_false, Nat.not_le.2 room]
  exact State.retire_in s c _ pc next

/-- With all 32 entries taken it stalls: a free value is drawn for the cycles and only the stall count of cw19 moves (spec/03 R84). -/
theorem store_full {s : State} {c a n : Nat} (q : Queues s c a n) (rd : Nat) (pc : Addr) (ecc : BlockResult)
    (full : 32 ≤ (s.core c).eq.length) :
    ∃ stalls : Word, s.store c rd a n pc ecc = s.fresh.2.setCore c ((s.core c).setCwd 19 stalls) := by
  unfold State.store
  simp only [checkAccess_store q.aligned q.word q.right, q.taken, q.target, if_true, Bool.false_eq_true, if_false, full]
  exact ⟨_, rfl⟩

/-- What the statement says of a store with entry `e` whose instruction ends before `pc`: with room in the queue of core `c` it answers a
state where the entry is last in the queue and only cw16 and the pc moved beside it; with none it does not retire. -/
def QueueClause (s : State) (c : Nat) (e : EqEntry) (pc : Addr) (r : Res) : Prop :=
  ((s.core c).eq.length < 32 → ∃ t, r = .next t ∧ onlyCore s t c ∧ (t.core c).eq = (s.core c).eq ++ [e]
      ∧ (t.core c).regs = (s.core c).regs ∧ (t.core c).accs = (s.core c).accs ∧ (t.core c).pc = pc
      ∧ ∀ m d, m ≠ 16 → Tab.get (t.core c).cw m d = Tab.get (s.core c).cw m d)
    ∧ (32 ≤ (s.core c).eq.length → ∃ t, r = .next t ∧ (t.core c).pc = (s.core c).pc ∧ (t.core c).eq = (s.core c).eq
      ∧ (t.core c).regs = (s.core c).regs ∧ t.mem = s.mem ∧ t.objs = s.objs)

theorem store_queueClause {s : State} {c a n : Nat} (q : Queues s c a n) (rd : Nat) (pc : Addr) (ecc : BlockResult)
    (next : (s.core c).fetchOk pc = true) :
    QueueClause s c (storeEntry (s.core c) rd a n) pc (.next (s.store c rd a n pc ecc)) := by
  constructor
  · intro room
    refine ⟨_, rfl, ?_⟩
    rw [store_room q rd pc ecc room next]
    refine ⟨onlyCore_setCore s c _, ?_⟩
    rw [State.core_setCore_same]
    exact ⟨rfl, rfl, rfl, rfl, fun _ d h => retired_cw _ _ d h⟩
  · intro full
    obtain ⟨stalls, stalled⟩ := store_full q rd pc ecc full
    refine ⟨_, rfl, ?_⟩
    rw [stalled, State.core_setCore_same]
    exact ⟨rfl, rfl, rfl, rfl, rfl⟩

/-- SW and SD store at their effective address, on a core that can run them. -/
theorem storeRow_queueClause {s : State} {c ra n : Nat} {imm : BitVec 16} {lim : Lim} (run : canRun s c (limWords lim)) (ok : limOk lim = true)
    (q : Queues s c ((s.core c).reg ra + immediate true lim imm).toNat n) (rd : Nat) (ecc : BlockResult) :
    QueueClause s c (storeEntry (s.core c) rd ((s.core c).reg ra + immediate true lim imm).toNat n)
      ((s.core c).pc + BitVec.ofNat 32 (4 * limWords lim)) (.next (s.storeRow c rd ra imm lim ecc n)) := by
  unfold State.storeRow
  rw [withLim_run s c lim _ run ok, Core.ea, Nat.mod_eq_of_lt (BitVec.isLt _)]
  exact store_queueClause q rd _ ecc (canRun_next run (limWords lim) (Nat.le_refl _))

/-- SW takes a narrow entry with the low word of rd. -/
theorem sw_queueClause {s : State} {c : Fin 6} {ra : Fin 32} {imm : BitVec 16} {lim : Lim} (run : canRun s c (limWords lim))
    (ok : limOk lim = true) (q : Queues s c ((s.core c).reg ra + immediate true lim imm).toNat 4) (rd : Fin 32) (ecc : BlockResult) :
    QueueClause s c { addr := ((s.core c).reg ra + immediate true lim imm).toNat, wide := false, data := (((s.core c).reg rd).setWidth 32).setWidth 64 }
      ((s.core c).pc + BitVec.ofNat 32 (4 * limWords lim)) (exec (.sw c rd ra imm lim ecc) s) := by
  have row : exec (.sw c rd ra imm lim ecc) s = .next (s.storeRow c rd ra imm lim ecc 4) := rfl
  rw [row, ← storeEntry_four]
  exact storeRow_queueClause run ok q rd ecc

/-- SD takes a wide entry with rd. -/
theorem sd_queueClause {s : State} {c : Fin 6} {ra : Fin 32} {imm : BitVec 16} {lim : Lim} (run : canRun s c (limWords lim))
    (ok : limOk lim = true) (q : Queues s c ((s.core c).reg ra + immediate true lim imm).toNat 8) (rd : Fin 32) (ecc : BlockResult) :
    QueueClause s c { addr := ((s.core c).reg ra + immediate true lim imm).toNat, wide := true, data := (s.core c).reg rd }
      ((s.core c).pc + BitVec.ofNat 32 (4 * limWords lim)) (exec (.sd c rd ra imm lim ecc) s) := by
  have row : exec (.sd c rd ra imm lim ecc) s = .next (s.storeRow c rd ra imm lim ecc 8) := rfl
  rw [row, ← storeEntry_eight]
  exact storeRow_queueClause run ok q rd ecc

/-! ### Leaving the queue -/

/-- An empty queue lets nothing leave. -/
theorem drain_empty (s : State) (t c : Nat) (p : EqEntry → Bool) (h : (s.core c).eq = []) : s.drain t c p = s.at t := by
  have front : (s.at t).eqFront c = none := congrArg List.head? h
  simp only [State.drain, front]

/-- The oldest entry leaves and its effect is performed, where it is one of those asked for. -/
theorem drain_cons (s : State) (t c : Nat) (p : EqEntry → Bool) {e : EqEntry} {rest : List EqEntry} (h : (s.core c).eq = e :: rest)
    (hp : p e = true) :
    s.drain t c p = (((s.at t).setCore c { s.core c with eq := rest }).effectStore c e t).entryLeft c t := by
  have front : (s.at t).eqFront c = some e := congrArg List.head? h
  have pop : (s.at t).eqPop c = (s.at t).setCore c { s.core c with eq := rest } := by
    show (s.at t).setCore c { s.core c with eq := (s.core c).eq.tail } = _
    rw [h]; rfl
  simp only [State.drain, front, hp, if_true, pop]

/-- No failure of a core that runs waits for its queue. -/
theorem entryLeft_running (s : State) (c t : Nat) (h : (s.core c).running = true) : s.entryLeft c t = s := by
  have alive : (s.core c).run ≠ .failing := by
    intro failing
    simp [Core.running, failing] at h
  simp [State.entryLeft, alive]

/-- The two send pages without layout take a store without effect (notes/assumptions/9.md). -/
theorem effectStore_sendPage (s : State) (c : Nat) (e : EqEntry) (t : Nat) (low : 0x40200000 ≤ e.addr) (high : e.addr < 0x40220000) :
    s.effectStore c e t = s := by
  have mail : isMailbox e.addr = false := by
    simp only [isMailbox, inRange, Bool.and_eq_false_iff, decide_eq_false_iff_not]; omega
  have pages : ¬ e.addr < 0x40100000 := by omega
  have journal : ¬ e.addr < 0x40130000 := by omega
  simp [State.effectStore, mail, pages, journal, high]

/-- An entry for the mailbox of a lost head is dropped (notes/assumptions/43.md). -/
theorem effectStore_lost (s : State) (c : Nat) (e : EqEntry) (t : Nat) (mail : isMailbox e.addr = true)
    (lost : s.mailState ((e.addr - 0x50000000) / 0x10000) = 3) : s.effectStore c e t = s.dropEntry c := by
  simp only [State.effectStore, mail, lost, if_true]

@[simp] theorem dropEntry_eq (s : State) (c : Nat) : ((s.dropEntry c).core c).eq = (s.core c).eq := by
  simp [State.dropEntry]

@[simp] theorem dropEntry_running (s : State) (c : Nat) : ((s.dropEntry c).core c).running = (s.core c).running := by
  simp [State.dropEntry, Core.running]

/-- The drop counted in word 3 of the core's read-to-clear block, without wrapping. -/
@[simp] theorem dropEntry_count (s : State) (c : Nat) :
    Tab.get ((s.dropEntry c).core c).rc 3 0 = min (Tab.get (s.core c).rc 3 0 + 1) (2 ^ 64 - 1) := by
  simp [State.dropEntry, Tab.get_set_same]

@[simp] theorem dropEntry_mem (s : State) (c : Nat) : (s.dropEntry c).mem = s.mem := rfl
@[simp] theorem dropEntry_objs (s : State) (c : Nat) : (s.dropEntry c).objs = s.objs := rfl

/-! ### EFFECT_QUEUE_DRAIN and FENCEE -/

theorem exec_effectQueueDrain (n : Nat) (c : Fin 6) (s : State) :
    exec (.effectQueueDrain n c) s = .next (s.drain n c fun _ => true) := rfl

theorem exec_fencee (c : Fin 6) (s : State) :
    exec (.fencee c) s = .next (s.issueAlone c fun k => s.retire c k (k.pc + 4)) := rfl

/-- FENCEE on a core that can run it retires once its queue is empty (spec/03 R83). -/
theorem exec_fencee_empty {s : State} {c : Fin 6} (h : canRun s c 1) (empty : (s.core c).eq = []) :
    exec (.fencee c) s = .next (s.setCore c (retired (s.core c) ((s.core c).pc + 4))) := by
  rw [exec_fencee, State.issueAlone, State.issue_run s c _ h.1 (canRun_here h), if_neg (not_not_intro empty),
    State.retire_in s c _ ((s.core c).pc + 4) (canRun_next h 1 (Nat.le_refl 1))]

/-- FENCEE waits while entries stand in the queue (spec/03 R83). -/
theorem exec_fencee_waits {s : State} {c : Fin 6} {n : Nat} (h : canRun s c n) (entries : (s.core c).eq ≠ []) :
    exec (.fencee c) s = .next s := by
  rw [exec_fencee, State.issueAlone, State.issue_run s c _ h.1 (canRun_here h), if_pos entries]

/-- Settles O15: a store with room appends its entry and with none stalls; the oldest entry leaves first, and FENCEE waits for the last. -/
theorem effectQueueRule : Obligations.EffectQueueRule := by
  unfold Obligations.EffectQueueRule
  intro c rd ra imm lim ecc n s run ok k a
  refine ⟨fun p hp aligned right target taken => ?_, fun empty => ?_, fun e rest queue => ?_⟩
  · simp only [List.mem_cons, List.not_mem_nil, or_false] at hp
    rcases hp with rfl | rfl
    · exact sw_queueClause run ok ⟨aligned, by decide, right, target, taken⟩ rd ecc
    · exact sd_queueClause run ok ⟨aligned, by decide, right, target, taken⟩ rd ecc
  · refine ⟨?_, _, exec_fencee_empty (canRun_le run (one_le_limWords lim)) empty, pcOnly_retired s c _⟩
    rw [exec_effectQueueDrain, drain_empty s n c _ empty]
  · have drained := drain_cons s n c (fun _ => true) queue rfl
    have running : (((s.at n).setCore c { s.core c with eq := rest }).core c).running = true := by
      rw [State.core_setCore_same]; exact run.1
    rw [exec_effectQueueDrain, drained]
    refine ⟨rfl, fun low high => ?_, fun mail lost => ⟨_, rfl, ?_⟩, exec_fencee_waits run (queue ▸ List.cons_ne_nil e rest)⟩
    · rw [effectStore_sendPage _ c e n low high, entryLeft_running _ c n running]
    · rw [effectStore_lost _ c e n mail lost, entryLeft_running _ c n (by rw [dropEntry_running]; exact running)]
      simp [k]

end Sys2Proof.Machine.EffectQueue
